-- ==== Sys2Proof/Word.lean ====
section
/-! DEFINITION. The word types of the link and of the flash, and the two index types that name lines and triggers. -/

namespace Sys2Proof

/-- One byte of the link or of the flash. -/
abbrev Byte := BitVec 8

/-- A two-byte field, a line set (bit 0 is L1, bit 15 is L16) or a 16-bit wrapping count. -/
abbrev W16 := BitVec 16

/-- A four-byte field or a 32-bit wrapping count. -/
abbrev W32 := BitVec 32

/-- A line, counted from 0: L1 is `0`, L16 is `15`. -/
abbrev LineNo := Fin 16

/-- A trigger, counted from 0: the trigger with id 1 is `0`. -/
abbrev TrigNo := Fin 8

end Sys2Proof
end

