-- ==== Sys2Proof/Syntax.lean ====
section
/-! DEFINITION. The commands of the part: one constructor of `Instr` for every row of spec/opcode_table.json, with the
operands that the row's rule gives it. Requests carry their parameters in the widths of the Formats chapter (10.3), so that a
value out of range reaches the owner's own check. -/

namespace Sys2Proof

/-- The logic level of a pin or of a filter. -/
inductive Level where
  | low
  | high
  deriving DecidableEq, Repr

/-- The two frame kinds that carry a request (R162). -/
inductive ReqKind where
  | request
  | posted
  deriving DecidableEq, Repr

/-- What the envelope of a request frame says besides its payload: its kind and its SEQ (R162). -/
structure FrameHead where
  kind : ReqKind
  seq  : Byte
  deriving DecidableEq, Repr

/-- The parameters of TIME-SET by its form byte (R19, R181). `other` is a form byte that is neither 0 nor 1, with whatever
bytes follow it. -/
inductive TimeSetForm where
  | instant  (seconds : W32) (tick : W16)
  | calendar (year : W16) (month day hour minute second : Byte) (tick : W16)
  | other    (form : Byte) (rest : List Byte)
  deriving DecidableEq, Repr

/-- The parameters of ACT-ADD (R32, 10.3). Flag bytes are `Bool`: any other value is refused before the request reaches its
owner (R170). -/
structure ActAddParams where
  label        : W16
  anchor       : Byte
  seconds      : W32
  tick         : W16
  kind         : Byte
  lines        : W16
  width        : W16
  repPresent   : Bool
  period       : W32
  count        : W16
  late         : Byte
  guardPresent : Bool
  guardLine    : Byte
  guardLevel   : Byte
  notify       : Bool
  standing     : Bool
  deriving DecidableEq, Repr

/-- A line configuration record as it travels, six code bytes (10.2). -/
structure LineRecord where
  role    : Byte
  initial : Byte
  safe    : Byte
  pull    : Byte
  filter  : Byte
  capture : Byte
  deriving DecidableEq, Repr

/-- The parameters of TRG-SET (R106, 10.3). -/
structure TrgSetParams where
  id      : Byte
  source  : Byte
  edge    : Byte
  delay   : W32
  holdoff : W16
  kind    : Byte
  lines   : W16
  width   : W16
  late    : Byte
  notify  : Bool
  deriving DecidableEq, Repr

/-- The parameters of REF-CONFIG (R124, 10.3). -/
structure RefConfigParams where
  mode    : Byte
  edge    : Byte
  window  : W16
  limit   : Byte
  timeout : Byte
  deriving DecidableEq, Repr

/-- A request with its parameters: what the payload of a REQUEST or POSTED frame spells (R170, 10.3). -/
inductive Request where
  | ident
  | linkStatus (clear : Bool)
  | restart
  | timeRead
  | timeSet (form : TimeSetForm)
  | timeAdjust (mode : Byte) (value : W32)
  | timeClear
  | trimSet (trim : W16)
  | actAdd (p : ActAddParams)
  | actCancel (handle : W16)
  | actPurge (lines : W16) (origins : Byte)
  | actGet (handle : W16)
  | actList (position : W16)
  | schedHold
  | schedRelease
  | schedStatus
  | schedConfig (tolerance : W16)
  | lineConfig (line : Byte) (rec : LineRecord)
  | lineDrive (lines : W16) (action : Byte) (width : W16)
  | lineStatus (clear : Bool)
  | capConfig (policy : Byte) (mark : W16)
  | capRead
  | capAck (serial : W32)
  | trgSet (p : TrgSetParams)
  | trgArm (id : Byte) (count : Byte)
  | trgDisarm (id : Byte)
  | trgClear (id : Byte)
  | trgStatus
  | refConfig (p : RefConfigParams)
  | refStatus
  | profSave
  | profLoad
  | profErase
  | profStatus
  | profLock
  | leaseConfig (period : W16) (fallback : Byte)
  | leaseResume
  | leaseStatus
  deriving DecidableEq, Repr

/-- The free order at the acceptance of an edge: the Capture Log receives it after so many of the line's other receivers (the
triggers in rising id, or the Reference Discipline, R84, R101, R173), and the TIME-STATE of a reference step is posted after so
many of the Scheduler's dealings with that step (R173). DESIGN CHOICE, log entry 8, safe. -/
structure EdgeOrder where
  logAfter   : Nat
  stateAfter : Nat
  deriving DecidableEq, Repr

/-- The heads of the inbound queue taken at one moment, one number for each head (R167, R180): where the frame is a TIME-SET,
its TIME-STATE is posted after so many of the Scheduler's dealings with the step (R173). DESIGN CHOICE, log entry 8, safe. -/
abbrev Taking := List Nat

/-- A TIME-SET as a row: its form, and the free order that belongs to it: its TIME-STATE is posted after so many of the Scheduler's
dealings with the step (R173). DESIGN CHOICE, log entry 8, safe. -/
structure TimeSetOrder where
  form       : TimeSetForm
  stateAfter : Nat
  deriving DecidableEq, Repr

/-- A pin that the outside drives: a line pin (R69), a strap (R161), or the pin on which the flash answers (R130). That the straps
and the flash come as RAW_LEVEL_CHANGE is a DESIGN CHOICE, log entry 12, unsafe. -/
inductive Pin where
  | line (n : LineNo)
  | arate
  | autoload
  | flash
  deriving DecidableEq, Repr

/-- What the outside does to a pin: it lets a line pin go, holds a line pin or a strap at a level, or has the flash answer read
identification with this byte from then on (R69, R130, R161). -/
inductive PinDrive where
  | released
  | held (level : Level)
  | answering (maker : Byte)
  deriving DecidableEq, Repr

/-- A part of one elapsed tick, with the free order that belongs to it. The blocks deal with a tick independently of each
other (R17, R66, R78, R82, R84, R88, R104, R126, R159), so the environment says which part comes first (DESIGN CHOICE,
log entry 8, safe).
`advance` is the advance of the instant (`ownAfter`: the Time Base's own notice, SLEW-DONE or TIME-STATE, is posted after so
many takings of the pass, R173); `line` is one line's pulse or filter sample (`accept`: a run that the sample completes is
accepted at once, in that order; `none`: its acceptance comes later, R126); `trigger` is one trigger's holdoff; `reference` the
edge count; `lease` the lease count. -/
inductive TickPart where
  | advance (ownAfter : Nat)
  | line (n : LineNo) (accept : Option EdgeOrder)
  | trigger (t : TrigNo)
  | reference
  | lease
  deriving DecidableEq, Repr

/-- What stands on the part's straps and what the serial flash answers to read identification when a main reset comes
(R130, R161, R176). DESIGN CHOICE, log entry 12, unsafe. -/
structure StartPins where
  arate    : Bool
  autoload : Bool
  maker    : Byte
  deriving DecidableEq, Repr

/-- The commands: every row of spec/opcode_table.json, in the table's order. -/
inductive Instr where
  -- supply, reset and start-up
  | powerUp (nrstHeld : Bool) (pins : StartPins)
  | powerLoss
  | backupTick
  | nrst (pins : StartPins)
  | scanDone
  -- the tick and what comes about when a block deals with it
  | nominalTick (now : List TickPart)
  | trimCarry (ownAfter : Nat)
  | slewCorrection (ownAfter : Nat)
  | rangeEnd
  | pulseExpiry (n : LineNo)
  | edgeAccept (n : LineNo) (order : EdgeOrder)
  | holdoffEnd (t : TrigNo)
  | refLost
  | leaseExpiry
  -- the receiver and the link
  | byteFramingError
  | frameLenDiscard (len kind seq : Byte)
  | frameTimeout
  | frameCrcDiscard (kind seq : Byte) (payload : List Byte) (crc : W16)
  | frameEnqueue (h : FrameHead) (payload : List Byte) (take : Taking)
  | frameUnknownKind (kind seq : Byte) (payload : List Byte)
  | credit (seq : Byte) (payload : List Byte)
  | linkReset (seq : Byte) (payload : List Byte)
  | frameDuplicate
  | frameOutOfTurn
  | requestDecodeFail
  | transmitDone (take : Taking)
  -- requests
  | ident (h : FrameHead)
  | linkStatus (h : FrameHead) (clear : Bool)
  | restart (h : FrameHead)
  | timeRead (h : FrameHead)
  | timeSet (h : FrameHead) (set : TimeSetOrder)
  | timeAdjustStep (h : FrameHead) (value : W32)
  | timeAdjustSlew (h : FrameHead) (value : W32)
  | timeClear (h : FrameHead)
  | trimSet (h : FrameHead) (trim : W16)
  | actAdd (h : FrameHead) (p : ActAddParams)
  | actCancel (h : FrameHead) (handle : W16)
  | actPurge (h : FrameHead) (lines : W16) (origins : Byte)
  | actGet (h : FrameHead) (handle : W16)
  | actList (h : FrameHead) (position : W16)
  | schedHold (h : FrameHead)
  | schedRelease (h : FrameHead)
  | schedStatus (h : FrameHead)
  | schedConfig (h : FrameHead) (tolerance : W16)
  | lineConfig (h : FrameHead) (line : Byte) (rec : LineRecord)
  | lineDrive (h : FrameHead) (lines : W16) (action : Byte) (width : W16)
  | lineStatus (h : FrameHead) (clear : Bool)
  | capConfig (h : FrameHead) (policy : Byte) (mark : W16)
  | capRead (h : FrameHead)
  | capAck (h : FrameHead) (serial : W32)
  | trgSet (h : FrameHead) (p : TrgSetParams)
  | trgArm (h : FrameHead) (id : Byte) (count : Byte)
  | trgDisarm (h : FrameHead) (id : Byte)
  | trgClear (h : FrameHead) (id : Byte)
  | trgStatus (h : FrameHead)
  | refConfig (h : FrameHead) (p : RefConfigParams)
  | refStatus (h : FrameHead)
  | profSave (h : FrameHead)
  | profLoad (h : FrameHead)
  | profErase (h : FrameHead)
  | profStatus (h : FrameHead)
  | profLock (h : FrameHead)
  | leaseConfig (h : FrameHead) (period : W16) (fallback : Byte)
  | leaseResume (h : FrameHead)
  | leaseStatus (h : FrameHead)
  -- the Profile Store's work
  | loadSlotValidated (stages : Nat)
  | saveEraseDone
  | pageProgramDone (flaws : List (Fin 256 × Byte))
  | verifyDone
  | flashTimeout
  | recoveryEraseDone
  | slotEraseDone
  -- the outside world
  | rawLevelChange (pin : Pin) (drive : PinDrive)
  | backupDomainLoss
  | byteReceived (b : Byte) (takes : List Taking)
  deriving DecidableEq, Repr

end Sys2Proof
end

