-- ==== Sys2Proof/Config.lean ====
section
/-! DEFINITION. What the part fixes (capacities and identification) and the values that the manual leaves free. A free value
is an `opaque` constant: nothing in Lean can prove what it is. -/

namespace Sys2Proof.Config

/-- The schedule holds at most 128 entries (R29). -/
abbrev scheduleMax : Nat := 128

/-- At most 64 entries carry the standing flag (R29). -/
abbrev standingMax : Nat := 64

/-- The capture log holds at most 256 records (R89). -/
abbrev captureMax : Nat := 256

/-- The offset history holds at most 16 samples (R121). -/
abbrev historyMax : Nat := 16

/-- The notice queue holds at most 32 notices (R173). -/
abbrev noticeMax : Nat := 32

/-- The credit count is held at 32 (R174). -/
abbrev creditMax : Nat := 32

/-- The inbound queue holds at most 4 frames (R166). -/
abbrev inboundMax : Nat := 4

/-- The reply buffer holds at most 2 replies (R166). -/
abbrev replyMax : Nat := 2

/-- The largest payload of a frame (R162). -/
abbrev payloadMax : Nat := 250

/-- A 16-bit count that saturates holds at 65535. -/
abbrev countMax : Nat := 65535

/-- The largest slew remainder (R1). -/
abbrev slewMax : Nat := 16384

/-- The unit of the trim accumulator, 2^20 (R8). -/
abbrev trimUnit : Int := 1048576

/-- Elapsed ticks in a second, and ticks in a second of calendar time (R2). -/
abbrev ticksPerSecond : Nat := 1024

/-- The last second of the range (R12). -/
abbrev topSecond : Nat := 3155759999

/-- FREE VALUE. The level that a pin shows when nothing decides it: a floating pin, or a pin on which the part and the
outside drive opposite levels (R69). The arguments are the draw count of the state and the line. DESIGN CHOICE, log entry 1, safe. -/
opaque floatingHigh : Nat → Nat → Bool

/-- FREE VALUE. After how many takings of the pass of the same tick the TIME-STATE of a RANGE_END row is posted (R173). The argument
is the draw count of the state. DESIGN CHOICE, log entry 8, safe. -/
opaque rangeEndAfter : Nat → Nat

/-- FREE VALUE. Whether the flash command in hand had already been sent when a main reset with the supply present came
(R149). The argument is the draw count of the state. DESIGN CHOICE, log entry 2,
safe. -/
opaque flashCommandSent : Nat → Bool

/-- FREE VALUE. Whether a byte that a flash command was changing had already taken its new value when the command was cut
short by loss of supply or ran into its time limit (R144, R149). The arguments are the draw count and the flash address.
DESIGN CHOICE, log entry 3, unsafe. -/
opaque flashByteDone : Nat → Nat → Bool

/-- FREE VALUE. Bits 1 to 7 of the status byte of the flash, to which the manual gives no meaning (R129); bit 0 of this value is not
used. The argument is the draw count of the state. DESIGN CHOICE, log entry 32, safe. -/
opaque flashStatusBits : Nat → BitVec 8

end Sys2Proof.Config
end

