-- ==== Sys2Proof/Machine/State.lean ====
section
/-! DEFINITION. The state of the part, block by block, as plain data; the reasons a step can stop; and the state right
after reset. -/

namespace Sys2Proof.Machine

/-! ## Reasons to stop -/

/-- Faults. The manual gives no event that stops the part, and none of its rules leaves a command without an effect: the type
has no constructor, so no step can fault. DEDUCED, log entry 20, unsafe. -/
inductive Fault where
  deriving DecidableEq, Repr

/-- Refusals. -/
inductive Refusal where
  /-- Raised by `exec` alone, for a row of the table that has no meaning yet. Safe: the model stops. -/
  | notModelled (mnemonic : String)
  deriving DecidableEq, Repr

/-! ## Time Base (TMB) -/

/-- A point in calendar time as (seconds, tick), tick 0..1023 (Introduction, Instant format). -/
structure Instant where
  sec  : Nat
  tick : Nat
  deriving DecidableEq, Repr

/-- How far the instant can be trusted (R1, section 1.6). -/
inductive Validity where
  | unset
  | set
  | tracking
  | holdover
  deriving DecidableEq, Repr

/-- The causes of TIME-STATE (R13). -/
inductive ValidityCause where
  | hostSet
  | hostClear
  | refAccept
  | refStep
  | refLoss
  | refOff
  | mainReset
  | rangeEnd
  deriving DecidableEq, Repr

/-- The causes of TIME-STEP (R15). -/
inductive StepCause where
  | hostSet
  | hostAdjust
  | reference
  deriving DecidableEq, Repr

/-- The Time Base (R1). All fields but `elapsed` are in the backup domain. `marker` is true when the integrity marker is
intact. -/
structure Tmb where
  instant    : Instant
  validity   : Validity
  generation : W16
  trim       : Int
  acc        : Int
  slew       : Int
  phase      : Nat
  marker     : Bool
  elapsed    : W32
  deriving DecidableEq, Repr

/-! ## Scheduler (SCH) -/

/-- Whether a due is tied to the calendar or to a delay (R25). -/
inductive Anchor where
  | calendar
  | interval
  deriving DecidableEq, Repr

/-- What an entry does at each occurrence (R25). -/
inductive Kind where
  | high
  | low
  | toggle
  | pulse
  | mark
  deriving DecidableEq, Repr

/-- What happens to an occurrence taken late (R25). -/
inductive LatePolicy where
  | run
  | skip
  deriving DecidableEq, Repr

/-- Which source inserted an entry (R25). -/
inductive Origin where
  | host
  | profile
  | trigger
  deriving DecidableEq, Repr

/-- A repeat: its period in ticks and its count, 0 for unlimited (R25). -/
structure Rep where
  period : Nat
  count  : Nat
  deriving DecidableEq, Repr

/-- A guard: an input line and the level it must show (R25). -/
structure Guard where
  line  : LineNo
  level : Level
  deriving DecidableEq, Repr

/-- An action entry (R25). -/
structure Entry where
  handle     : Nat
  label      : W16
  due        : Instant
  anchor     : Anchor
  kind       : Kind
  lines      : W16
  width      : Nat
  rep        : Option Rep
  remaining  : Nat
  late       : LatePolicy
  guard      : Option Guard
  notify     : Bool
  standing   : Bool
  origin     : Origin
  suppressed : Nat
  stamp      : Nat
  deriving DecidableEq, Repr

/-- The hold-reason set (R40). -/
structure HoldSet where
  host   : Bool
  notime : Bool
  lease  : Bool
  load   : Bool
  deriving DecidableEq, Repr

/-- One hold reason (R40). -/
inductive HoldReason where
  | host
  | notime
  | lease
  | load
  deriving DecidableEq, Repr

/-- The Scheduler (R25, R27, R28, R40, R45). `entries` is in schedule order, the head first. -/
structure Sch where
  entries    : List Entry
  lastHandle : Nat
  stamps     : Nat
  tolerance  : Nat
  hold       : HoldSet
  deriving DecidableEq, Repr

/-- What became of an occurrence (R52). -/
inductive TakeOutcome where
  | run
  | runLate
  | suppressed
  | skipped
  | discarded
  deriving DecidableEq, Repr

/-! ## Line Unit (LIN) -/

/-- The role of a line (R68). -/
inductive Role where
  | off
  | pushPull
  | openDrain
  | input
  | reference
  deriving DecidableEq, Repr

/-- The level a line takes under the lease SAFE fallback (R68). -/
inductive SafeLevel where
  | low
  | high
  | keep
  deriving DecidableEq, Repr

/-- The weak pull of a pin (R68). -/
inductive Pull where
  | none
  | up
  | down
  deriving DecidableEq, Repr

/-- Which accepted edges go to the Capture Log (R68). -/
inductive CaptureEdges where
  | none
  | rise
  | fall
  | both
  deriving DecidableEq, Repr

/-- The direction of an accepted edge (R81). -/
inductive Edge where
  | rise
  | fall
  deriving DecidableEq, Repr

/-- A line configuration record (R68). `filter` is the filter length F: 0, 1, 4, 16 or 64. -/
structure LineConfig where
  role    : Role
  initial : Level
  safe    : SafeLevel
  pull    : Pull
  filter  : Nat
  capture : CaptureEdges
  deriving DecidableEq, Repr

/-- A pulse record (R73). -/
structure Pulse where
  rest      : Level
  remainder : Nat
  deriving DecidableEq, Repr

/-- The output state of a line with an output role (R73). -/
structure Output where
  commanded : Level
  pulse     : Option Pulse
  deriving DecidableEq, Repr

/-- A run of differing samples: its count, 1..64, and its onset (R81). -/
structure Run where
  count      : Nat
  onset      : Instant
  generation : W16
  deriving DecidableEq, Repr

/-- The filter state of a line with an input role (R81). No run is a run count of 0. -/
structure Filter where
  accepted : Level
  run      : Option Run
  deriving DecidableEq, Repr

/-- One line: its configuration, the state its role gives it, its glitch count (R83), and the level that the outside
drives on its pin, if it drives one (R69). -/
structure Line where
  config   : LineConfig
  output   : Option Output
  input    : Option Filter
  glitches : Nat
  ext      : Option Level
  deriving DecidableEq, Repr

/-! ## Capture Log (CAP) -/

/-- A capture record (R90). -/
structure CapRecord where
  serial     : W32
  line       : LineNo
  edge       : Edge
  instant    : Instant
  generation : W16
  validity   : Validity
  deriving DecidableEq, Repr

/-- What a full log does with a new edge (R89). -/
inductive CapPolicy where
  | keepOldest
  | keepNewest
  deriving DecidableEq, Repr

/-- The Capture Log (R89). -/
structure Cap where
  log        : List CapRecord
  lastSerial : W32
  lost       : Nat
  policy     : CapPolicy
  mark       : Nat
  armed      : Bool
  deriving DecidableEq, Repr

/-! ## Trigger Table (TRG) -/

/-- Which edges match a trigger (R99). -/
inductive TrigEdge where
  | rise
  | fall
  | both
  deriving DecidableEq, Repr

/-- The state of a present trigger (R100). -/
inductive TrigState where
  | disarmed
  | armed
  | holdoff
  | spent
  deriving DecidableEq, Repr

/-- The template of the entry a trigger makes (R99). -/
structure Template where
  kind   : Kind
  lines  : W16
  width  : Nat
  late   : LatePolicy
  notify : Bool
  deriving DecidableEq, Repr

/-- A trigger's definition, as TRG-SET gives it (R99, R106). -/
structure TrigDef where
  source   : LineNo
  edge     : TrigEdge
  delay    : Nat
  holdoff  : Nat
  template : Template
  deriving DecidableEq, Repr

/-- A present trigger (R99). -/
structure Trigger where
  defn      : TrigDef
  armCount  : Nat
  state     : TrigState
  remainder : Nat
  fired     : W32
  overruns  : Nat
  deriving DecidableEq, Repr

/-! ## Reference Discipline (RDS) -/

/-- The discipline mode (R112). -/
inductive RefMode where
  | off
  | observe
  | steer
  deriving DecidableEq, Repr

/-- The discipline state (R113). -/
inductive RefState where
  | idle
  | waiting
  | active
  | lost
  deriving DecidableEq, Repr

/-- The outcome of a sample (R121). -/
inductive SampleOutcome where
  | accepted
  | outlier
  | stepped
  | ignored
  deriving DecidableEq, Repr

/-- A sample of the offset history (R121). -/
structure Sample where
  sec     : Nat
  offset  : Int
  outcome : SampleOutcome
  deriving DecidableEq, Repr

/-- The discipline configuration (R112). -/
structure RefConfig where
  mode    : RefMode
  edge    : Edge
  window  : Nat
  limit   : Nat
  timeout : Nat
  deriving DecidableEq, Repr

/-- The Reference Discipline (R112). `run` is the outlier run. -/
structure Rds where
  line    : Option LineNo
  config  : RefConfig
  state   : RefState
  run     : Nat
  count   : Nat
  history : List Sample
  deriving DecidableEq, Repr

/-! ## Lease Monitor (LSM) -/

/-- What the expiry of the lease does (R151). -/
inductive Fallback where
  | notify
  | hold
  | safe
  | safeHold
  | restart
  deriving DecidableEq, Repr

/-- Where the lease stands (R151). -/
inductive LeaseState where
  | disabled
  | running
  | expired
  deriving DecidableEq, Repr

/-- The Lease Monitor (R151). -/
structure Lsm where
  period   : Nat
  fallback : Fallback
  state    : LeaseState
  count    : Nat
  deriving DecidableEq, Repr

/-! ## Profile Store (PRS) and the serial flash -/

/-- One of the two profile slots (R131). -/
inductive Slot where
  | a
  | b
  deriving DecidableEq, Repr

/-- A slot descriptor (R128). -/
structure Descriptor where
  valid      : Bool
  generation : Nat
  deriving DecidableEq, Repr

/-- Why a save or an erase failed (R148). -/
inductive FailCause where
  | timeout
  | verify
  deriving DecidableEq, Repr

/-- A stored trigger record (R132). `armed` is the stored state, ARMED or DISARMED. -/
structure StoredTrigger where
  defn     : TrigDef
  armCount : Nat
  armed    : Bool
  deriving DecidableEq, Repr

/-- A stored standing entry (R132). `period` is `none` without a repeat; a remaining of 0 with a repeat is unlimited. -/
structure StoredEntry where
  label     : W16
  due       : Instant
  kind      : Kind
  lines     : W16
  width     : Nat
  period    : Option Nat
  remaining : Nat
  late      : LatePolicy
  guard     : Option Guard
  notify    : Bool
  deriving DecidableEq, Repr

/-- The content of a profile body (R132). -/
structure Profile where
  tolerance : Nat
  policy    : CapPolicy
  mark      : Nat
  ref       : RefConfig
  period    : Nat
  fallback  : Fallback
  lines     : Vector LineConfig 16
  triggers  : Vector (Option StoredTrigger) 8
  entries   : List StoredEntry
  deriving DecidableEq, Repr

/-- One step of the application of a slot, with the stored values it installs (R138). Other events can fall between them.
DESIGN CHOICE, log entry 11, unsafe. -/
inductive LoadStage where
  | dropTriggers
  | dropEntries
  | linesOff
  | installLines (configs : Vector LineConfig 16)
  | installTolerance (tolerance : Nat)
  | installCapture (policy : CapPolicy) (mark : Nat)
  | installDiscipline (config : RefConfig)
  | installLease (period : Nat) (fallback : Fallback)
  | insertEntry (e : StoredEntry)
  | installTriggers (triggers : Vector (Option StoredTrigger) 8)
  deriving DecidableEq, Repr

/-- How far a load has come: still reading and validating, or applying a slot, with the stages left and the counts so far
(R137, R138, R148). -/
inductive LoadWork where
  | validating
  | applying (slot : Slot) (generation : Nat) (fallback : Bool) (stages : List LoadStage) (inserted dropped : Nat)
  deriving DecidableEq, Repr

/-- What the Profile Store is doing. The operation state of R128 is read from it (`PrsJob.opState`). A load is a start-up load
(R135) or a requested one (R137). A save erases, programs (the page in hand and the pages after it), verifies, and after a
failure with a header perhaps written erases once more (R143, R144). An erase keeps slot B's descriptor while slot A is in
hand (R145). -/
inductive PrsJob where
  | idle
  | scanning
  | loading (startUp : Bool) (work : LoadWork)
  | saveErase
  | saveProgram (page : Nat) (rest : List Nat)
  | saveVerify
  | saveRecover (cause : FailCause)
  | eraseA (descB : Descriptor)
  | eraseB
  deriving DecidableEq, Repr

/-- The snapshot image of a save: the new generation and the bytes of header and body (R142). -/
structure SlotImage where
  generation : Nat
  bytes      : List Byte
  deriving DecidableEq, Repr

/-- The Profile Store (R128). -/
structure Prs where
  present : Bool
  job     : PrsJob
  descA   : Descriptor
  descB   : Descriptor
  target  : Option Slot
  image   : Option SlotImage
  locked  : Bool
  deriving DecidableEq, Repr

/-- The serial flash: its cells in canonical form (an unlisted address reads 0xFF), and the byte it answers to read
identification (R129, R130). -/
structure Flash where
  cells : List Host.Cell
  maker : Byte
  deriving DecidableEq, Repr

/-! ## Link Controller (LNK) -/

/-- The status codes (section 9.12). -/
inductive Status where
  | ok
  | accepted
  | badFormat
  | badValue
  | unknownRequest
  | seqGap
  | full
  | notFound
  | state
  | busy
  | locked
  | noTime
  | lineInUse
  | badLine
  | noFlash
  deriving DecidableEq, Repr

/-- The start causes (R176). -/
inductive StartCause where
  | cold
  | supply
  | pin
  | request
  | lease
  deriving DecidableEq, Repr

/-- The outcomes of PROFILE-DONE (R148). -/
inductive ProfileOutcome where
  | loadedA
  | loadedB
  | noneValid
  | noFlash
  | skipped
  | savedA
  | savedB
  | erased
  | failed
  deriving DecidableEq, Repr

/-- The operation that PROFILE-DONE reports (R148). -/
inductive ProfileOp where
  | load
  | save
  | erase
  deriving DecidableEq, Repr

/-- The body of ACTION-DONE (R58). -/
structure ActionDone where
  handle     : Nat
  label      : W16
  outcome    : TakeOutcome
  final      : Bool
  due        : Instant
  lateness   : Nat
  consumed   : Nat
  remaining  : Nat
  generation : W16
  deriving DecidableEq, Repr

/-- The body of PROFILE-DONE (R148). -/
structure ProfileDone where
  op         : ProfileOp
  outcome    : ProfileOutcome
  fallback   : Bool
  cause      : Option FailCause
  slot       : Option Slot
  generation : Nat
  inserted   : Nat
  dropped    : Nat
  deriving DecidableEq, Repr

/-- The notices with their bodies (10.4). -/
inductive Notice where
  | started (cause : StartCause) (arate autoload present : Bool)
  | noticesLost (lost : Nat)
  | postedFailed (seq code : Byte) (status : Status) (expected : Byte)
  | timeState (old new : Validity) (cause : ValidityCause) (instant : Instant) (generation : W16)
  | timeStep (cause : StepCause) (old new : Instant) (generation : W16)
  | slewDone (instant : Instant) (generation : W16)
  | actionDone (body : ActionDone)
  | capturePending (count lost : Nat) (lastSerial : W32)
  | triggerOverrun (id : TrigNo) (overruns : Nat) (onset : Instant) (generation : W16)
  | triggerSpent (id : TrigNo) (fired : W32)
  | refLost (line : Option LineNo) (timeout : Nat) (validity : Validity) (sec : Nat)
  | profileDone (body : ProfileDone)
  | leaseExpired (period : Nat) (fallback : Fallback) (hold : HoldSet) (instant : Instant) (generation : W16)
  deriving DecidableEq, Repr

/-- A frame of kind REQUEST or POSTED as it stands in the inbound queue (R166). -/
structure HostFrame where
  head    : FrameHead
  payload : List Byte
  deriving DecidableEq, Repr

/-- A reply of the part: a REPLY (its SEQ, request code, status, repeat flag and data; `restart` marks the OK reply of
RESTART, R179) or a LINK-RESET-REPLY. -/
inductive Reply where
  | answer (seq code : Byte) (status : Status) (again : Bool) (data : List Byte) (restart : Bool)
  | linkReset (seq : Byte)
  deriving DecidableEq, Repr

/-- The reply cache (R168). -/
inductive Cache where
  | empty
  | posted
  | reply (r : Reply)
  deriving DecidableEq, Repr

/-- The sequence state (R167): free, or expecting E with the last-executed frame's SEQ L and its kind. -/
inductive SeqState where
  | free
  | expecting (e l : Byte) (kind : ReqKind)
  deriving DecidableEq, Repr

/-- The receiver's state with the bytes held after SYNC (R163). -/
inductive Receiver where
  | hunt
  | header (held : List Byte)
  | body (held : List Byte)
  | check (held : List Byte)
  deriving DecidableEq, Repr

/-- The transmitter (R172): idle; sending the oldest reply of the buffer; sending a notice. `forReply` stands only inside the
execution of a REQUEST on an idle transmitter, whose reply is formed before its notices (R170). -/
inductive Tx where
  | idle
  | reply
  | notice (seq : Byte) (n : Notice)
  | forReply
  deriving DecidableEq, Repr

/-- The six link counters (R178). -/
structure Counters where
  crc       : Nat
  timeout   : Nat
  framing   : Nat
  overflow  : Nat
  gap       : Nat
  duplicate : Nat
  deriving DecidableEq, Repr

/-- The Link Controller (R161 to R176). `backlog` holds bytes that the receiver scans again before it takes further bytes
from the line (R163, R165). `arate` and `autoload` are the straps as sampled at the last main reset. -/
structure Lnk where
  rx             : Receiver
  backlog        : List Byte
  inbound        : List HostFrame
  restartPending : Bool
  seqState       : SeqState
  cache          : Cache
  replies        : List Reply
  tx             : Tx
  notices        : List (Byte × Notice)
  nextNotice     : Byte
  lost           : Nat
  credits        : Nat
  counters       : Counters
  arate          : Bool
  autoload       : Bool
  startCause     : StartCause
  deriving DecidableEq, Repr

/-! ## The whole part -/

/-- What stands on the strap pins now (R161, R176). -/
structure Straps where
  arate    : Bool
  autoload : Bool
  deriving DecidableEq, Repr

/-- A unit of work that one elapsed tick gives to a block (R2). -/
inductive TickUnit where
  | advance
  | line (n : LineNo)
  | trigger (t : TrigNo)
  | reference
  | lease
  deriving DecidableEq, Repr

/-- The state of the part. `power` is true while VDD is present. `owed` lists the units that an elapsed tick has been passed
on to and that have not dealt with it yet (R2, R17, R77, R104, R153). `draws` is the MODEL's own counter, which the free values
of `Config` are applied to (DESIGN CHOICE, log entry 19, safe). `pending` is the queue of commands that wait. -/
structure State where
  power   : Bool
  straps  : Straps
  tmb     : Tmb
  sch     : Sch
  lin     : Vector Line 16
  cap     : Cap
  trg     : Vector (Option Trigger) 8
  rds     : Rds
  prs     : Prs
  lsm     : Lsm
  lnk     : Lnk
  flash   : Flash
  owed    : List TickUnit
  draws   : Nat
  pending : List Instr
  deriving DecidableEq, Repr

/-! ## Reset values, block by block -/

/-- Seconds 0, tick 0: 2000-01-01 00:00:00 (R7). -/
def Instant.zero : Instant := ⟨0, 0⟩

/-- The Time Base after a cold start (R7). -/
def Tmb.cold : Tmb :=
  { instant := Instant.zero, validity := .unset, generation := 0, trim := 0, acc := 0, slew := 0, phase := 0,
    marker := true, elapsed := 0 }

/-- No hold reason (R40). -/
def HoldSet.none : HoldSet := ⟨false, false, false, false⟩

/-- The Scheduler after a main reset, with the hold reasons the reset leaves (R48). -/
def Sch.fresh (hold : HoldSet) : Sch :=
  { entries := [], lastHandle := 0, stamps := 0, tolerance := 2, hold := hold }

/-- A line configuration with every field at code 0 (R68). -/
def LineConfig.off : LineConfig :=
  { role := .off, initial := .low, safe := .low, pull := .none, filter := 0, capture := .none }

/-- A line after a main reset, with the outside level on its pin kept (R87). -/
def Line.fresh (ext : Option Level) : Line :=
  { config := LineConfig.off, output := none, input := none, glitches := 0, ext := ext }

/-- The Capture Log after a main reset (R98). -/
def Cap.fresh : Cap :=
  { log := [], lastSerial := 0, lost := 0, policy := .keepOldest, mark := 1, armed := true }

/-- The discipline configuration after a main reset (R112). -/
def RefConfig.default : RefConfig := { mode := .off, edge := .rise, window := 8, limit := 3, timeout := 5 }

/-- The Reference Discipline after a main reset (R127). -/
def Rds.fresh : Rds :=
  { line := none, config := RefConfig.default, state := .idle, run := 0, count := 0, history := [] }

/-- The Lease Monitor after a main reset (R160). -/
def Lsm.fresh : Lsm := { period := 0, fallback := .notify, state := .disabled, count := 0 }

/-- An invalid descriptor (R128). -/
def Descriptor.invalid : Descriptor := ⟨false, 0⟩

/-- The link counters at 0 (R176). -/
def Counters.zero : Counters := ⟨0, 0, 0, 0, 0, 0⟩

/-- The Link Controller as a main reset sets it, before STARTED is queued (R176). -/
def Lnk.fresh (arate autoload : Bool) (cause : StartCause) : Lnk :=
  { rx := .hunt, backlog := [], inbound := [], restartPending := false, seqState := .free, cache := .empty, replies := [],
    tx := .idle, notices := [], nextNotice := 0, lost := 0, credits := 2, counters := Counters.zero, arate := arate,
    autoload := autoload, startCause := cause }

/-- The state right after reset: a cold start (R7) with both straps low, a flash that answers 0xEF and is wholly erased, no
line driven from outside, and no command waiting. STARTED has gone out on one of the two credits (R176), and the start-up
sequence is scanning the slots (R135). The straps, the flash and the outside levels are no registers of the part; their values
here are DESIGN CHOICES, log entry 4, unsafe. -/
def State.reset : State :=
  { power := true
    straps := ⟨false, false⟩
    tmb := Tmb.cold
    sch := Sch.fresh { host := false, notime := true, lease := false, load := false }
    lin := Vector.replicate 16 (Line.fresh none)
    cap := Cap.fresh
    trg := Vector.replicate 8 none
    rds := Rds.fresh
    prs := { present := true, job := .scanning, descA := Descriptor.invalid, descB := Descriptor.invalid, target := none,
             image := none, locked := false }
    lsm := Lsm.fresh
    lnk := { Lnk.fresh false false .cold with
             tx := .notice 0 (.started .cold false false true), nextNotice := 1, credits := 1 }
    flash := { cells := [], maker := 0xEF }
    owed := []
    draws := 0
    pending := [] }

end Sys2Proof.Machine
end

