-- ==== Sys2Proof/Machine/Ops.lean ====
section
/-! DEFINITION. The operations that every block uses: one setter per block of the state, arithmetic on instants, the levels,
the drawing of free values, and the posting of a notice with the transmitter's choice. -/

namespace Sys2Proof

/-- The inverse of a level. -/
def Level.inv : Level → Level
  | .low => .high
  | .high => .low

/-- The level that a Boolean spells, HIGH for true. -/
def Level.ofBool (b : Bool) : Level := if b then .high else .low

end Sys2Proof

namespace Sys2Proof.Machine

/-! ## Setters: the only record updates of `State` outside `State.lean` -/

/-- The state with another supply. -/
def State.setPower (s : State) (x : Bool) : State := { s with power := x }
/-- The state with other levels on the strap pins. -/
def State.setStraps (s : State) (x : Straps) : State := { s with straps := x }
/-- The state with another Time Base. -/
def State.setTmb (s : State) (x : Tmb) : State := { s with tmb := x }
/-- The state with another Scheduler. -/
def State.setSch (s : State) (x : Sch) : State := { s with sch := x }
/-- The state with another Line Unit. -/
def State.setLin (s : State) (x : Vector Line 16) : State := { s with lin := x }
/-- The state with another Capture Log. -/
def State.setCap (s : State) (x : Cap) : State := { s with cap := x }
/-- The state with another Trigger Table. -/
def State.setTrg (s : State) (x : Vector (Option Trigger) 8) : State := { s with trg := x }
/-- The state with another Reference Discipline. -/
def State.setRds (s : State) (x : Rds) : State := { s with rds := x }
/-- The state with another Profile Store. -/
def State.setPrs (s : State) (x : Prs) : State := { s with prs := x }
/-- The state with another Lease Monitor. -/
def State.setLsm (s : State) (x : Lsm) : State := { s with lsm := x }
/-- The state with another Link Controller. -/
def State.setLnk (s : State) (x : Lnk) : State := { s with lnk := x }
/-- The state with another flash. -/
def State.setFlash (s : State) (x : Flash) : State := { s with flash := x }
/-- The state with other units of work owed. -/
def State.setOwed (s : State) (x : List TickUnit) : State := { s with owed := x }
/-- The state with another draw count. -/
def State.setDraws (s : State) (x : Nat) : State := { s with draws := x }
/-- The state with other commands waiting. -/
def State.setPending (s : State) (x : List Instr) : State := { s with pending := x }

/-- The state with line `n` replaced. -/
def State.setLine (s : State) (n : LineNo) (l : Line) : State := s.setLin (s.lin.set n l)
/-- The state with trigger `t` replaced. -/
def State.setTrigger (s : State) (t : TrigNo) (x : Option Trigger) : State := s.setTrg (s.trg.set t x)

/-- The state after a free value has been drawn: the next draw is another one. -/
def State.drawn (s : State) : State := s.setDraws (s.draws + 1)

/-! ## Instants -/

/-- An instant as a count of ticks, one second counting 1024 (Introduction, Instant format). -/
def Instant.ticks (i : Instant) : Nat := i.sec * 1024 + i.tick

/-- The instant of a count of ticks. -/
def Instant.ofTicks (n : Nat) : Instant := ⟨n / 1024, n % 1024⟩

/-- The top value of the range, 2099-12-31 23:59:59 tick 1023 (R12). -/
def Instant.top : Instant := ⟨Config.topSecond, 1023⟩

/-- The instant lies in the range (R1). -/
def Instant.inRange (i : Instant) : Bool := decide (i.sec ≤ Config.topSecond) && decide (i.tick ≤ 1023)

/-- The present instant in ticks. -/
def State.now (s : State) : Nat := s.tmb.instant.ticks

/-! ## Roles -/

/-- A role that drives the pin (R68). -/
def Role.isOutput : Role → Bool
  | .pushPull | .openDrain => true
  | .off | .input | .reference => false

/-- A role whose pin the filter samples (R68). -/
def Role.isInput : Role → Bool
  | .input | .reference => true
  | .off | .pushPull | .openDrain => false

/-- The line has an output role. -/
def State.outputRole (s : State) (n : LineNo) : Bool := s.lin[n].config.role.isOutput

/-- The line has the INPUT role. -/
def State.inputRole (s : State) (n : LineNo) : Bool := s.lin[n].config.role == .input

/-- Every member of a line set satisfies `p`. -/
def everyLine (set : W16) (p : LineNo → Bool) : Bool := (List.finRange 16).all fun n => !set.getLsbD n || p n

/-! ## Notices and the transmitter -/

/-- The notice is a CAPTURE-PENDING. -/
def Notice.isCapturePending : Notice → Bool
  | .capturePending .. => true
  | _ => false

/-- A posted notice is queued, declined (a second CAPTURE-PENDING) or lost (a full queue) (R173). -/
def Lnk.enqueue (k : Lnk) (n : Notice) : Lnk :=
  if n.isCapturePending && k.notices.any (fun q => q.2.isCapturePending) then k
  else if Config.noticeMax ≤ k.notices.length then { k with lost := min Config.countMax (k.lost + 1) }
  else { k with notices := k.notices ++ [(k.nextNotice, n)], nextNotice := k.nextNotice + 1 }

/-- NOTICES-LOST takes a place as soon as the queue has room while the lost count is above 0 (R173). -/
def Lnk.reportLost (k : Lnk) : Lnk :=
  if 0 < k.lost ∧ k.notices.length < Config.noticeMax then
    { k with notices := k.notices ++ [(k.nextNotice, .noticesLost k.lost)], nextNotice := k.nextNotice + 1, lost := 0 }
  else k

/-- An idle transmitter chooses the next frame: the oldest waiting reply, else the oldest notice if there is a credit (R172).
The notice leaves the queue, and its credit the count, as its transmission begins (R172, R174). -/
def Lnk.choose (k : Lnk) : Lnk :=
  match k.tx with
  | .idle =>
    if k.replies ≠ [] then { k with tx := .reply }
    else match k.notices with
      | [] => k
      | (q, n) :: rest =>
        if 0 < k.credits then
          Lnk.reportLost { k with tx := .notice q n, notices := rest, credits := k.credits - 1 }
        else k
  | _ => k

/-- A block posts a notice: it is handled by R173, and an idle transmitter looks at the queue (R172). -/
def post (n : Notice) (s : State) : State := s.setLnk (s.lnk.enqueue n).choose

/-! ## The hold-reason set -/

/-- The set is empty: the scheduler is RUNNING (R40). -/
def HoldSet.isEmpty (h : HoldSet) : Bool := !h.host && !h.notime && !h.lease && !h.load

/-- Whether a reason is in the set. -/
def HoldSet.has (h : HoldSet) : HoldReason → Bool
  | .host => h.host
  | .notime => h.notime
  | .lease => h.lease
  | .load => h.load

/-- The set with a reason added or removed. -/
def HoldSet.put (h : HoldSet) (r : HoldReason) (x : Bool) : HoldSet :=
  match r with
  | .host => { h with host := x }
  | .notime => { h with notime := x }
  | .lease => { h with lease := x }
  | .load => { h with load := x }

/-- Adding a reason; one already present leaves the set as it is (R40). -/
def addReason (r : HoldReason) (s : State) : State := s.setSch { s.sch with hold := s.sch.hold.put r true }

/-! ## The Profile Store's operation state -/

/-- A profile load is running while the operation state is LOADING (R128). -/
def PrsJob.isLoading : PrsJob → Bool
  | .loading .. => true
  | _ => false

/-- A profile load is running (R128). -/
def State.loading (s : State) : Bool := s.prs.job.isLoading

end Sys2Proof.Machine
end

