-- ==== Sys2Proof/Machine/Lines.lean ====
section
/-! DEFINITION. The Line Unit's outputs and pins: claims, pulses, raw levels (chapter 4, R69 to R80). -/

namespace Sys2Proof.Machine

/-- A claim on output lines (R74). `toLevel` is HIGH, LOW or the drive to the initial level; `safe` is the lease's claim. -/
inductive Claim where
  | toLevel (l : Level)
  | toggle
  | pulse (width : Nat)
  | safe
  deriving DecidableEq, Repr

/-- The level that the SAFE claim leaves on a line whose commanded level is `now` (R79). -/
def SafeLevel.apply (safe : SafeLevel) (now : Level) : Level :=
  match safe with
  | .low => .low
  | .high => .high
  | .keep => now

/-- One claim on an output state, with the line's safe level (R75, R76, R79). -/
def Output.claim (o : Output) (safe : SafeLevel) : Claim → Output
  | .toLevel l => { commanded := l, pulse := none }
  | .toggle => { commanded := o.commanded.inv, pulse := none }
  | .pulse w =>
    match o.pulse with
    | none => { commanded := o.commanded.inv, pulse := some { rest := o.commanded, remainder := w } }
    | some p => { o with pulse := some { p with remainder := w } }
  | .safe => { commanded := safe.apply o.commanded, pulse := none }

/-- One claim on one line; a line without an output state is not touched. -/
def Line.claim (l : Line) (c : Claim) : Line := { l with output := l.output.map fun o => o.claim l.config.safe c }

/-- One claim on every member of a line set (R74). -/
def claimLines (set : W16) (c : Claim) (s : State) : State :=
  s.setLin (Vector.ofFn fun n => if set.getLsbD n then (s.lin[n]).claim c else s.lin[n])

/-- The SAFE claim covers every line that has an output role (R79). -/
def claimSafe (s : State) : State := claimLines 0xFFFF .safe s

/-- An elapsed tick on an output state: the pulse remainder falls by 1, and at 0 the line returns to its rest level (R77). -/
def Output.tick (o : Output) : Output :=
  match o.pulse with
  | none => o
  | some p =>
    if p.remainder ≤ 1 then { commanded := p.rest, pulse := none }
    else { o with pulse := some { p with remainder := p.remainder - 1 } }

/-- The next elapsed tick on this output state is the expiry of its pulse (R77). -/
def Output.expiring (o : Output) : Bool :=
  match o.pulse with
  | none => false
  | some p => decide (p.remainder ≤ 1)

/-- The level the part itself drives on the pin, if it drives one (R69). -/
def Line.driven (l : Line) : Option Level :=
  match l.config.role, l.output with
  | .pushPull, some o => some o.commanded
  | .openDrain, some o => if o.commanded = .low then some .low else none
  | _, _ => none

/-- The level the configured pull gives an undriven pin (R69). OFF lines and PUSH_PULL lines have no pull. -/
def Line.pulled (l : Line) : Option Level :=
  match l.config.role, l.config.pull with
  | .openDrain, .up | .input, .up | .reference, .up => some .high
  | .openDrain, .down | .input, .down | .reference, .down => some .low
  | _, _ => none

/-- The level of a pin: the one driver's level, else the pull's; `free` where nothing decides it or the part and the outside
drive opposite levels (R69; DESIGN CHOICE, log entry 1, safe). -/
def pinLevel (driven ext pulled : Option Level) (free : Level) : Level :=
  match driven, ext with
  | some p, some e => if p = e then p else free
  | some p, none => p
  | none, some e => e
  | none, none => pulled.getD free

/-- The level the part drives on the pin of line `n` now; while VDD is absent the pins are unpowered (R69). -/
def State.driven (s : State) (n : LineNo) : Option Level := if s.power then (s.lin[n]).driven else none

/-- The level the part's pull gives the pin of line `n` now; while VDD is absent the pins are unpowered (R69). -/
def State.pulled (s : State) (n : LineNo) : Option Level := if s.power then (s.lin[n]).pulled else none

/-- The raw level of line `n` now (R69). -/
def State.raw (s : State) (n : LineNo) : Level :=
  pinLevel (s.driven n) (s.lin[n]).ext (s.pulled n) (Level.ofBool (Config.floatingHigh s.draws n))

end Sys2Proof.Machine
end

