-- ==== Sys2Proof/Machine/Schedule.lean ====
section
/-! DEFINITION. The Scheduler's operations: handles, stamps, insertion and removal, the taking pass, the hold-reason set's
removals, and the step event (chapters 2 and 3). -/

namespace Sys2Proof.Machine

/-! ## Handles and stamps -/

/-- The candidate after a handle: 65535 is followed by 1 (R27). -/
def nextCandidate (h : Nat) : Nat := if 65535 ≤ h then 1 else h + 1

/-- The first candidate that no entry holds (R27). 129 candidates always hold a free one. -/
def freeHandle (held : List Nat) : Nat → Nat → Nat
  | 0, c => c
  | k + 1, c => if held.contains c then freeHandle held k (nextCandidate c) else c

/-- The handle that the next new entry takes (R27). -/
def Sch.newHandle (c : Sch) : Nat := freeHandle (c.entries.map (·.handle)) 129 (nextCandidate c.lastHandle)

/-- The stamp counter's last value (R28). -/
abbrev stampTop : Nat := 4294967295

/-- Renumbering: the entries present get the stamps 1 to n in schedule order (R28). -/
def restamp : Nat → List Entry → List Entry
  | _, [] => []
  | k, e :: es => { e with stamp := k } :: restamp (k + 1) es

/-- The Scheduler ready to issue a stamp: renumbered if the counter stands at its last value (R28; DEDUCED, log entry 18,
safe). -/
def Sch.readyStamp (c : Sch) : Sch :=
  if c.stamps = stampTop then { c with entries := restamp 1 c.entries, stamps := c.entries.length } else c

/-! ## Order -/

/-- The entry goes after every entry whose due is earlier than or equal to its own (R30). -/
def placeEntry (e : Entry) : List Entry → List Entry
  | [] => [e]
  | x :: xs => if x.due.ticks ≤ e.due.ticks then x :: placeEntry e xs else e :: x :: xs

/-- Schedule order: by due, then by stamp (R29). -/
def Entry.before (a b : Entry) : Bool :=
  decide (a.due.ticks < b.due.ticks) || (decide (a.due.ticks = b.due.ticks) && decide (a.stamp ≤ b.stamp))

/-- Insertion by schedule order, the step of the re-sort (R61). -/
def sortedInsert (e : Entry) : List Entry → List Entry
  | [] => [e]
  | x :: xs => if e.before x then e :: x :: xs else x :: sortedInsert e xs

/-- The schedule re-sorted into schedule order (R61). -/
def sortEntries : List Entry → List Entry
  | [] => []
  | e :: es => sortedInsert e (sortEntries es)

/-- The number of entries that carry the standing flag. -/
def Sch.standing (c : Sch) : Nat := (c.entries.filter (·.standing)).length

/-- The entry that holds a handle. -/
def Sch.find (c : Sch) (h : Nat) : Option Entry := c.entries.find? fun e => e.handle == h

/-- An entry is put in its place with a stamp (R30 steps 2 and 3); its handle is the one it carries. -/
def Sch.enter (c : Sch) (e : Entry) : Sch :=
  let r := c.readyStamp
  { r with entries := placeEntry { e with stamp := r.stamps + 1 } r.entries, stamps := r.stamps + 1 }

/-- A new entry is put in its place with a handle and a stamp (R30). -/
def Sch.insertNew (c : Sch) (e : Entry) : Sch :=
  { c with lastHandle := c.newHandle }.enter { e with handle := c.newHandle }

/-! ## Taking an entry -/

/-- The outcome of an occurrence (R52). The guard decides only where lateness and late policy let the occurrence run. -/
def occurrenceOutcome (late tolerance : Nat) (policy : LatePolicy) (guardTrue : Bool) : TakeOutcome :=
  if late ≤ tolerance then (if guardTrue then .run else .suppressed)
  else match policy with
    | .run => if guardTrue then .runLate else .suppressed
    | .skip => .skipped

/-- The occurrence sends its claim (R52, R54). -/
def TakeOutcome.runs : TakeOutcome → Bool
  | .run | .runLate => true
  | .suppressed | .skipped | .discarded => false

/-- A guard is true when the line's accepted level equals the guard level; an absent guard lets the occurrence run (R53). -/
def guardHolds (s : State) : Option Guard → Bool
  | none => true
  | some g => (s.lin[g.line]).input.map (·.accepted) == some g.level

/-- The claim of an occurrence that runs; a MARK sends none (R54). -/
def Entry.claim (e : Entry) : Option Claim :=
  match e.kind with
  | .high => some (.toLevel .high)
  | .low => some (.toLevel .low)
  | .toggle => some .toggle
  | .pulse => some (.pulse e.width)
  | .mark => none

/-- Sending the claim of an entry to the Line Unit (R54). -/
def sendClaim (e : Entry) (s : State) : State :=
  match e.claim with
  | none => s
  | some c => claimLines e.lines c s

/-- The occurrences of a series that are due at or before an instant `late` ticks after its due: k of R55. -/
def periodsDue (late period : Nat) : Nat := late / period + 1

/-- What a taking leaves of an entry (R55, R56, R57): the occurrences consumed, the remaining field, and the next due in
ticks if the entry stays. -/
structure Consumption where
  consumed  : Nat
  remaining : Nat
  nextDue   : Option Nat
  deriving DecidableEq, Repr

/-- R55 to R57: what a taking `late` ticks after the due consumes. A due beyond the range cannot be taken up again. -/
def Entry.consume (e : Entry) (late : Nat) : Consumption :=
  match e.rep with
  | none => { consumed := 1, remaining := 0, nextDue := none }
  | some r =>
    let k := periodsDue late r.period
    let next := e.due.ticks + k * r.period
    let due := if next ≤ Instant.top.ticks then some next else none
    if r.count = 0 then { consumed := k, remaining := e.remaining, nextDue := due }
    else
      let c := min k e.remaining
      { consumed := c, remaining := e.remaining - c, nextDue := if e.remaining - c = 0 then none else due }

/-- A count as ACTION-DONE reports it (R51, R55). -/
def reported (n : Nat) : Nat := min n 4294967295

/-- The head entry is taken: outcome, claim, consumption with removal or re-queue, notice, in that order (R59). -/
def takeEntry (e : Entry) (s : State) : State :=
  let late := s.now - e.due.ticks
  let out := occurrenceOutcome late s.sch.tolerance e.late (guardHolds s e.guard)
  let s1 := if out.runs then sendClaim e s else s
  let c := e.consume late
  let gone : Sch := { s1.sch with entries := s1.sch.entries.tail }
  let s2 := s1.setSch (match c.nextDue with
    | none => gone
    | some due => gone.enter { e with due := Instant.ofTicks due, remaining := c.remaining,
                                      suppressed := if out = .suppressed then min Config.countMax (e.suppressed + 1)
                                                    else e.suppressed })
  if e.notify then
    post (.actionDone { handle := e.handle, label := e.label, outcome := out, final := c.nextDue.isNone, due := e.due,
                        lateness := reported late, consumed := reported c.consumed, remaining := c.remaining,
                        generation := s2.tmb.generation }) s2
  else s2

/-- A pass takes entries from the head while the head is due at or before the instant (R50). Every taking puts its entry
after the instant or removes it, so as many takings as there are entries are enough. -/
def passLoop : Nat → State → State
  | 0, s => s
  | k + 1, s =>
    match s.sch.entries with
    | [] => s
    | e :: _ => if e.due.ticks ≤ s.now then passLoop k (takeEntry e s) else s

/-- A taking pass, if the scheduler is RUNNING (R49). -/
def pass (s : State) : State := if s.sch.hold.isEmpty then passLoop s.sch.entries.length s else s

/-- The first takings of a pass, at most `k` of them. -/
def passSome (k : Nat) (s : State) : State := if s.sch.hold.isEmpty then passLoop k s else s

/-- The notice that another block posts beside a pass, if there is one. -/
def postOwn : Option Notice → State → State
  | none, s => s
  | some n, s => post n s

/-- A pass beside which another block posts a notice of its own. Notices of different blocks have no fixed order, so the notice
comes after `after` takings (R173; DESIGN CHOICE, log entry 8, safe). -/
def passAround (after : Nat) (own : Option Notice) (s : State) : State := pass (postOwn own (passSome after s))

/-- Removing a reason, with a notice of the block that removes it; when the removal leaves the set empty, a pass starts
(R40, R64, R173). -/
def removeReasonAround (r : HoldReason) (after : Nat) (own : Option Notice) (s : State) : State :=
  if s.sch.hold.has r then
    let s1 := s.setSch { s.sch with hold := s.sch.hold.put r false }
    if s1.sch.hold.isEmpty then passAround after own s1 else postOwn own s1
  else postOwn own s

/-- Removing a reason; when a removal leaves the set empty, a pass starts (R40, R64). -/
def removeReason (r : HoldReason) (s : State) : State :=
  if s.sch.hold.has r then
    let s1 := s.setSch { s.sch with hold := s.sch.hold.put r false }
    if s1.sch.hold.isEmpty then pass s1 else s1
  else s

/-- A pass after an insertion whose due is at or before the present instant (R30). -/
def passIfDue (due : Instant) (s : State) : State := if due.ticks ≤ s.now then pass s else s

/-- A new entry is inserted, and taken if it is already due and the scheduler is RUNNING (R30). -/
def insertAndPass (e : Entry) (s : State) : State := passIfDue e.due (s.setSch (s.sch.insertNew e))

/-- Insertion by a trigger: `none` is the answer FULL (R35). -/
def insertTriggerEntry (t : TrigNo) (due : Nat) (p : Template) (s : State) : Option State :=
  if Config.scheduleMax ≤ s.sch.entries.length then none
  else some (insertAndPass
    { handle := 0, label := BitVec.ofNat 16 (t.val + 1), due := Instant.ofTicks (min due Instant.top.ticks), anchor := .interval,
      kind := p.kind, lines := p.lines, width := p.width, rep := none, remaining := 0, late := p.late, guard := none,
      notify := p.notify, standing := false, origin := .trigger, suppressed := 0, stamp := 0 } s)

/-! ## Steps -/

/-- Where a step leaves a due, in ticks: shifted by the difference, not below 0; `none` beyond the range (R60). -/
def shiftDue (old new due : Nat) : Option Nat :=
  let d := due + new - old
  if d ≤ Instant.top.ticks then some d else none

/-- The schedule after a step from `old` to `new`, before the re-sort: CALENDAR entries keep their dues, INTERVAL entries
are shifted, and those carried past the range are left out (R60). -/
def shiftEntries (old new : Nat) : List Entry → List Entry
  | [] => []
  | e :: es =>
    match e.anchor with
    | .calendar => e :: shiftEntries old new es
    | .interval =>
      match shiftDue old new e.due.ticks with
      | some d => { e with due := Instant.ofTicks d } :: shiftEntries old new es
      | none => shiftEntries old new es

/-- The entries that a step carries past the range, in schedule order (R62). -/
def discardedEntries (old new : Nat) (es : List Entry) : List Entry :=
  es.filter fun e => e.anchor == .interval && (shiftDue old new e.due.ticks).isNone

/-- The notice of a discarded entry (R62). -/
def postDiscard (e : Entry) (s : State) : State :=
  if e.notify then
    post (.actionDone { handle := e.handle, label := e.label, outcome := .discarded, final := true, due := e.due, lateness := 0,
                        consumed := 0, remaining := e.remaining, generation := s.tmb.generation }) s
  else s

/-- The notices of discarded entries, in their order (R62). -/
def postDiscards (es : List Entry) (s : State) : State := es.foldl (fun x e => postDiscard e x) s

/-- The Scheduler's part in a step event: shift and discard, re-sort, and a pass at the new instant (R60 to R62). The Time
Base already holds the new instant. `own` is the TIME-STATE of the operation that made the step, posted after `after` of the
Scheduler's dealings, the discards counted before the takings (R173; DESIGN CHOICE, log entry 8, safe). `freed` says that the
same operation takes the validity out of UNSET: NOTIME is then removed after the re-sort (R15, R41), and as a scheduler held
by NOTIME takes nothing at the step, the pass at the step and the one at the removal are one. -/
def schedStep (old new after : Nat) (own : Option Notice) (freed : Bool) (s : State) : State :=
  let gone := discardedEntries old new s.sch.entries
  let early := decide (after < gone.length)
  let s1 := postDiscards (gone.take after) (s.setSch { s.sch with entries := shiftEntries old new s.sch.entries })
  let s2 := postDiscards (gone.drop after) (if early then postOwn own s1 else s1)
  let s3 := s2.setSch { s2.sch with entries := sortEntries s2.sch.entries
                                    hold := if freed then s2.sch.hold.put .notime false else s2.sch.hold }
  if early then pass s3 else passAround (after - gone.length) own s3

end Sys2Proof.Machine
end

