-- ==== Sys2Proof/Machine/Lease.lean ====
section
/-! DEFINITION. The Lease Monitor's operations: renewal, the count, the fallbacks that leave the part running, and the
installation of a configuration (chapter 8). -/

namespace Sys2Proof.Machine

/-- The elapsed ticks of a lease period (R151). -/
def Lsm.limit (l : Lsm) : Nat := l.period * Config.ticksPerSecond

/-- A good host frame is reported: a RUNNING lease is renewed (R152). -/
def Lsm.renew (l : Lsm) : Lsm :=
  match l.state with
  | .running => { l with count := 0 }
  | .disabled | .expired => l

/-- The report of a good host frame (R152). -/
def renewLease (s : State) : State := s.setLsm s.lsm.renew

/-- The next elapsed tick expires the lease (R153). -/
def Lsm.expiring (l : Lsm) : Bool := l.state == .running && decide (l.limit ≤ l.count + 1)

/-- The seconds left, rounded up; 0 outside RUNNING (R158). -/
def Lsm.secondsLeft (l : Lsm) : Nat :=
  match l.state with
  | .running => (l.limit - l.count + 1023) / 1024
  | .disabled | .expired => 0

/-- A configuration is installed: an accepted LEASE-CONFIG, or a load that finds the lease not EXPIRED (R157). -/
def Lsm.install (period : Nat) (fallback : Fallback) : Lsm :=
  { period := period, fallback := fallback, state := if period = 0 then .disabled else .running, count := 0 }

/-- A load installs the stored configuration; an EXPIRED lease stays EXPIRED with its count (R157). -/
def installLease (period : Nat) (fallback : Fallback) (s : State) : State :=
  match s.lsm.state with
  | .expired => s.setLsm { s.lsm with period := period, fallback := fallback }
  | .disabled | .running => s.setLsm (Lsm.install period fallback)

/-- What the fallback does to the schedule and the lines; RESTART does nothing to them here (R154). -/
def applyFallback (f : Fallback) (s : State) : State :=
  match f with
  | .notify | .restart => s
  | .hold => addReason .lease s
  | .safe => claimSafe s
  | .safeHold => claimSafe (addReason .lease s)

/-- LEASE-EXPIRED carries the period, the fallback, the hold-reason set as it stands, the instant and the generation
(R153). -/
def postExpired (s : State) : State :=
  post (.leaseExpired s.lsm.period s.lsm.fallback s.sch.hold s.tmb.instant s.tmb.generation) s

/-- The expiry of the lease, steps 1 to 3: EXPIRED with the count at the limit, the fallback, LEASE-EXPIRED (R151, R153). -/
def expireLease (s : State) : State :=
  postExpired (applyFallback s.lsm.fallback (s.setLsm { s.lsm with state := .expired, count := s.lsm.limit }))

end Sys2Proof.Machine
end

