-- ==== Sys2Proof/Machine/Crc.lean ====
section
/-! DEFINITION. The two checks: CRC-16 of the frames (R162) and CRC-32 of the profile body (R131). Both go bit by bit. The
matches on the register's value make an evaluation compute each step before the next one. -/

namespace Sys2Proof.Machine

/-- `k` bit steps on a check register. -/
def crcBits (bit : Nat → Nat) : Nat → Nat → Nat
  | 0, c => c
  | k + 1, c =>
    match bit c with
    | 0 => crcBits bit k 0
    | m + 1 => crcBits bit k (m + 1)

/-- The bytes of a message through a check register: each is brought in, then eight bit steps follow. -/
def crcBytes (bring : Nat → Nat → Nat) (bit : Nat → Nat) : List Byte → Nat → Nat
  | [], c => c
  | b :: bs, c =>
    match crcBits bit 8 (bring c b.toNat) with
    | 0 => crcBytes bring bit bs 0
    | m + 1 => crcBytes bring bit bs (m + 1)

/-- One bit step of CRC-16, polynomial 0x1021, most significant bit first (R162). -/
def crc16Bit (c : Nat) : Nat := if 32768 ≤ c then ((c * 2) % 65536) ^^^ 0x1021 else c * 2

/-- The CRC-16 of a frame's LEN, KIND, SEQ and payload: initial value 0xFFFF, nothing reflected, no final XOR (R162). -/
def crc16 (bs : List Byte) : W16 := BitVec.ofNat 16 (crcBytes (fun c b => c ^^^ (b * 256)) crc16Bit bs 0xFFFF)

/-- One bit step of CRC-32 in reflected form: 0xEDB88320 is the polynomial 0x04C11DB7 reflected (R131). -/
def crc32Bit (c : Nat) : Nat := if c % 2 = 1 then (c / 2) ^^^ 0xEDB88320 else c / 2

/-- The CRC-32 of a profile body: initial value 0xFFFFFFFF, result XORed with 0xFFFFFFFF (R131). -/
def crc32 (bs : List Byte) : Nat := crcBytes (fun c b => c ^^^ b) crc32Bit bs 0xFFFFFFFF ^^^ 0xFFFFFFFF

end Sys2Proof.Machine
end

