-- ==== Sys2Proof/Machine/TimeBase.lean ====
section
/-! DEFINITION. The Time Base's operations: calendar conversion, validity, steps, the claims of the Reference Discipline, and
the advance of the instant (chapter 1). -/

namespace Sys2Proof.Machine

/-! ## Calendar conversion -/

/-- The calendar fields of an instant, the tick apart (R3, R4). -/
structure Civil where
  year    : Nat
  month   : Nat
  day     : Nat
  hour    : Nat
  minute  : Nat
  second  : Nat
  weekday : Nat
  deriving DecidableEq, Repr

/-- The month lengths of a year (R3). -/
def monthLengths (leap : Bool) : List Nat := [31, if leap then 29 else 28, 31, 30, 31, 30, 31, 31, 30, 31, 30, 31]

/-- The month, counting from `m`, and the day of month of a day of the year, counting from 0 (R3). -/
def monthDay : List Nat → Nat → Nat → Nat × Nat
  | [], m, d => (m, d + 1)
  | l :: ls, m, d => if d < l then (m, d + 1) else monthDay ls (m + 1) (d - l)

/-- The year within a four-year block and the day of that year; the first year has 366 days (R3). -/
def yearInBlock (r : Nat) : Nat × Nat := if r < 366 then (0, r) else (1 + (r - 366) / 365, (r - 366) % 365)

/-- The calendar fields of a count of seconds (R3, R4). -/
def civilOf (sec : Nat) : Civil :=
  let d := sec / 86400
  let t := sec % 86400
  let y := yearInBlock (d % 1461)
  let md := monthDay (monthLengths (y.1 == 0)) 1 y.2
  { year := 2000 + 4 * (d / 1461) + y.1, month := md.1, day := md.2, hour := t / 3600, minute := t % 3600 / 60,
    second := t % 3600 % 60, weekday := (d + 5) % 7 + 1 }

/-- Every fourth year is a leap year, 2000 included (section 1.2). -/
def leapYear (y : Nat) : Bool := y % 4 == 0

/-- The length of a month (R3). -/
def monthLength (y m : Nat) : Nat := (monthLengths (leapYear y)).getD (m - 1) 0

/-- The days before a year, counted from 2000-01-01 (R5, the reverse of R3). -/
def daysBeforeYear (y : Nat) : Nat :=
  let q := (y - 2000) / 4
  let j := (y - 2000) % 4
  1461 * q + (if j = 0 then 0 else 366 + 365 * (j - 1))

/-- The fields of a calendar date and time of day are valid (R5). -/
def civilValid (year month day hour minute second tick : Nat) : Bool :=
  decide (2000 ≤ year) && decide (year ≤ 2099) && decide (1 ≤ month) && decide (month ≤ 12) && decide (1 ≤ day) &&
  decide (day ≤ monthLength year month) && decide (hour ≤ 23) && decide (minute ≤ 59) && decide (second ≤ 59) &&
  decide (tick ≤ 1023)

/-- The instant of valid calendar fields (R5). -/
def instantOfCivil (year month day hour minute second tick : Nat) : Instant :=
  let days := daysBeforeYear year + ((monthLengths (leapYear year)).take (month - 1)).sum + (day - 1)
  ⟨days * 86400 + hour * 3600 + minute * 60 + second, tick⟩

/-! ## Validity -/

/-- The TIME-STATE of a change of validity, with the instant and the generation that `t` holds; none where the validity stays
as it was (R14). -/
def stateNotice (old new : Validity) (cause : ValidityCause) (t : Tmb) : Option Notice :=
  if new = old then none else some (.timeState old new cause t.instant t.generation)

/-- A change of validity posts TIME-STATE and tells the Scheduler of a change into or out of UNSET; an event that leaves the
validity as it was does neither (R13, R14). Where the Scheduler then starts a pass, TIME-STATE is posted after `after` takings
(R173; DESIGN CHOICE, log entry 8, safe). -/
def setValidity (v : Validity) (cause : ValidityCause) (after : Nat) (s : State) : State :=
  let old := s.tmb.validity
  if v = old then s
  else
    let s1 := s.setTmb { s.tmb with validity := v }
    let own := stateNotice old v cause s1.tmb
    if v = .unset then addReason .notime (postOwn own s1)
    else if old = .unset then removeReasonAround .notime after own s1
    else postOwn own s1

/-! ## Steps -/

/-- A step event reaches the Reference Discipline: the outlier run ends (R123). -/
def refStepEvent (s : State) : State := s.setRds { s.rds with run := 0 }

/-- The change of validity that comes with a step: to SET with TIME-SET, to TRACKING with a reference step (R13, R15). -/
structure ValidityChange where
  target : Validity
  cause  : ValidityCause
  deriving DecidableEq, Repr

/-- The Time Base after a step, with the change of validity that follows it (R15). -/
def Tmb.stepped (t : Tmb) (new : Instant) (change : Option ValidityChange) : Tmb :=
  { t with instant := new, generation := t.generation + 1, slew := 0, validity := (change.map (·.target)).getD t.validity }

/-- A step, and the change of validity of the operation that makes it: the instant is replaced, the generation rises, the slew is
cancelled, TIME-STEP is posted, and the step event goes to the Reference Discipline and the Scheduler (R15). TIME-STATE
follows TIME-STEP; among the Scheduler's notices of the step it is posted after `after` of its dealings (R173; DESIGN CHOICE,
log entry 8, safe). -/
def stepWith (new : Instant) (cause : StepCause) (change : Option ValidityChange) (after : Nat) (s : State) : State :=
  let old := s.tmb
  let t := old.stepped new change
  let own := match change with
    | none => none
    | some c => stateNotice old.validity c.target c.cause t
  let s1 := post (.timeStep cause old.instant new t.generation) (s.setTmb t)
  schedStep old.instant.ticks new.ticks after own (decide (old.validity = .unset ∧ t.validity ≠ .unset)) (refStepEvent s1)

/-- A step that leaves the validity as it is (R15, R20). -/
def makeStep (new : Instant) (cause : StepCause) (s : State) : State := stepWith new cause none 0 s

/-! ## Claims of the Reference Discipline -/

/-- Slew replace: the remainder becomes `v` unless the validity is UNSET (R16). -/
def claimSlew (v : Int) (s : State) : State :=
  if s.tmb.validity = .unset then s else s.setTmb { s.tmb with slew := v }

/-- Where a step by `d` ticks leads, held within the range (R16). -/
def stepTarget (now : Nat) (d : Int) : Instant := Instant.ofTicks (min (now + d).toNat Instant.top.ticks)

/-- Step by `d` ticks with cause REFERENCE and then Set TRACKING with cause REF_STEP, unless the validity is UNSET (R13, R16). -/
def claimStep (d : Int) (after : Nat) (s : State) : State :=
  if s.tmb.validity = .unset then s else stepWith (stepTarget s.now d) .reference (some ⟨.tracking, .refStep⟩) after s

/-- Set TRACKING: from SET or HOLDOVER, and from nothing else (R13, R16). -/
def claimTracking (cause : ValidityCause) (s : State) : State :=
  if s.tmb.validity = .unset then s else setValidity .tracking cause 0 s

/-- Set HOLDOVER: from TRACKING, and from nothing else (R13, R16). -/
def claimHoldover (cause : ValidityCause) (s : State) : State :=
  if s.tmb.validity = .tracking then setValidity .holdover cause 0 s else s

/-! ## The advance of the instant -/

/-- The trim carry of a tick and the accumulator it leaves (R8). -/
def trimCarry (acc trim : Int) : Int × Int :=
  let a := acc + trim
  if Config.trimUnit ≤ a then (1, a - Config.trimUnit)
  else if a ≤ -Config.trimUnit then (-1, a + Config.trimUnit)
  else (0, a)

/-- The slew carry of a tick: at phase 63, one tick in the direction of the remainder (R9). -/
def slewCarry (phase : Nat) (slew : Int) : Int :=
  if phase = 63 then (if 0 < slew then 1 else if slew < 0 then -1 else 0) else 0

/-- The slew carry that R10 lets stand: one of the same sign as the trim carry is withheld. -/
def appliedSlew (carry slew : Int) : Int := if carry = slew then 0 else slew

/-- What a nominal tick does to the Time Base, before anything is passed on: the Time Base it leaves, whether the instant
moved, whether an applied correction brought the slew remainder to 0, and whether range end took place (R8 to R12). -/
structure Advance where
  tmb      : Tmb
  moved    : Bool
  slewDone : Bool
  rangeEnd : Bool
  deriving DecidableEq, Repr

/-- The advance of a nominal tick (R8 to R10, R12). The validity is left to the caller, which passes its change on. A range
end clears the remainder and posts no SLEW-DONE (R12; DEDUCED, log entry 13, unsafe). -/
def Tmb.advance (t : Tmb) : Advance :=
  let tc := trimCarry t.acc t.trim
  let sc := appliedSlew tc.1 (slewCarry t.phase t.slew)
  let target := (t.instant.ticks + 1 + tc.1 + sc).toNat
  let t1 := { t with acc := tc.2, phase := (t.phase + 1) % 64 }
  if Instant.top.ticks < target then
    { tmb := { t1 with instant := Instant.top, slew := 0 }, moved := t.instant != Instant.top, slewDone := false,
      rangeEnd := true }
  else
    { tmb := { t1 with instant := Instant.ofTicks target, slew := t.slew - sc }, moved := t.instant != Instant.ofTicks target,
      slewDone := sc != 0 && t.slew - sc == 0, rangeEnd := false }

/-- The Time Base after the tick, the validity with it: a range end leaves UNSET (R12). -/
def Advance.settled (a : Advance) : Tmb := if a.rangeEnd then { a.tmb with validity := .unset } else a.tmb

/-- The Time Base's own notice of a tick: SLEW-DONE with the instant reached and the time generation (R9), or the TIME-STATE of
a range end (R12, R14). No tick has both (R12). -/
def Advance.own (a : Advance) : Option Notice :=
  if a.slewDone then some (.slewDone a.tmb.instant a.tmb.generation)
  else if a.rangeEnd then stateNotice a.tmb.validity .unset .rangeEnd a.tmb
  else none

/-- The Time Base deals with a tick: the advance, its report to the Scheduler, the Time Base's own notice, and NOTIME at a range
end that leaves another validity (R8 to R12, R14). Notices of different blocks have no fixed order: the Time Base's own comes
after `ownAfter` takings of the pass (R173; DESIGN CHOICE, log entry 8, safe). -/
def advanceInstant (ownAfter : Nat) (s : State) : State :=
  let a := s.tmb.advance
  let s1 := s.setTmb a.settled
  let s2 := if a.moved then passAround ownAfter a.own s1 else postOwn a.own s1
  if a.rangeEnd && decide (s.tmb.validity ≠ .unset) then addReason .notime s2 else s2

/-- The Time Base deals with a tick while VDD is absent: the same advance, with nothing passed on (R6). -/
def advanceBackup (s : State) : State := s.setTmb s.tmb.advance.settled

end Sys2Proof.Machine
end

