-- ==== Sys2Proof/Machine/Capture.lean ====
section
/-! DEFINITION. The Capture Log's operations: storing an edge, the overflow policies, CAPTURE-PENDING, acknowledging
(section 5.1). -/

namespace Sys2Proof.Machine

/-- An accepted edge as the Line Unit hands it on (R81, R84). -/
structure EdgeReport where
  line       : LineNo
  edge       : Edge
  onset      : Instant
  generation : W16
  deriving DecidableEq, Repr

/-- CAPTURE-PENDING carries the count, the lost count and the last serial, and the flag becomes no (R95). -/
def postPending (s : State) : State :=
  let s1 := s.setCap { s.cap with armed := false }
  post (.capturePending s.cap.log.length s.cap.lost s.cap.lastSerial) s1

/-- A record is stored at the newest end of a log with room: it takes the next serial and the present validity (R89, R91). -/
def Cap.store (c : Cap) (e : EdgeReport) (v : Validity) : Cap :=
  { c with
    log := c.log ++ [{ serial := c.lastSerial + 1, line := e.line, edge := e.edge, instant := e.onset,
                       generation := e.generation, validity := v }]
    lastSerial := c.lastSerial + 1 }

/-- The lost count rises by 1 and holds at 65535 (R92). -/
def Cap.lose (c : Cap) : Cap := { c with lost := min Config.countMax (c.lost + 1) }

/-- After a record has been stored, CAPTURE-PENDING is posted if the count is at or above the mark and the flag is yes
(R95). -/
def pendingAfterStore (s : State) : State :=
  if s.cap.mark ≤ s.cap.log.length ∧ s.cap.armed = true then postPending s else s

/-- The Capture Log deals with an edge: it stores it, or a full log deals with it by its policy (R91, R92). -/
def captureEdge (e : EdgeReport) (s : State) : State :=
  let v := s.tmb.validity
  if s.cap.log.length < Config.captureMax then pendingAfterStore (s.setCap (s.cap.store e v))
  else match s.cap.policy with
    | .keepOldest => s.setCap s.cap.lose
    | .keepNewest => pendingAfterStore (s.setCap (Cap.store { s.cap with log := s.cap.log.tail } e v).lose)

/-- A policy and a mark are installed, and the count is compared with the mark (R96). -/
def installCaptureConfig (policy : CapPolicy) (mark : Nat) (s : State) : State :=
  let s1 := s.setCap { s.cap with policy := policy, mark := mark }
  if s1.cap.log.length < mark then s1.setCap { s1.cap with armed := true }
  else if s1.cap.armed then postPending s1
  else s1

/-- How many records an acknowledgement of serial `n` removes (R94). -/
def Cap.acknowledged (c : Cap) (n : W32) : Nat :=
  match c.log with
  | [] => 0
  | r :: _ =>
    let d := (n - r.serial).toNat
    if d < c.log.length then d + 1 else if d ≤ 2147483647 then c.log.length else 0

/-- The log after an acknowledgement: the lost count is cleared where it emptied the log, and the flag returns to yes below
the mark (R94, R95). -/
def Cap.acknowledge (c : Cap) (n : W32) : Cap :=
  let k := c.acknowledged n
  let left := c.log.drop k
  { c with log := left, lost := if k ≠ 0 ∧ left.length = 0 then 0 else c.lost,
           armed := if left.length < c.mark then true else c.armed }

end Sys2Proof.Machine
end

