-- ==== Sys2Proof/Machine/Triggers.lean ====
section
/-! DEFINITION. The Trigger Table's operations: selection, firing, overrun, spending, holdoff (section 5.2). -/

namespace Sys2Proof.Machine

/-- The edge setting matches an edge (R101). -/
def TrigEdge.matches : TrigEdge → Edge → Bool
  | .both, _ => true
  | .rise, .rise => true
  | .fall, .fall => true
  | .rise, .fall => false
  | .fall, .rise => false

/-- The trigger after a firing that the Scheduler accepted (R102, R105). -/
def Trigger.afterFiring (t : Trigger) : Trigger :=
  let t1 := { t with fired := t.fired + 1, armCount := t.armCount - 1 }
  if t.armCount = 1 then { t1 with state := .spent }
  else if 0 < t.defn.holdoff then { t1 with state := .holdoff, remainder := t.defn.holdoff }
  else t1

/-- The trigger after an overrun (R103). -/
def Trigger.afterOverrun (t : Trigger) : Trigger := { t with overruns := min Config.countMax (t.overruns + 1) }

/-- A selected ARMED trigger fires: the Scheduler inserts its entry, or answers FULL (R102, R103, R105). -/
def fireTrigger (n : TrigNo) (t : Trigger) (e : EdgeReport) (s : State) : State :=
  match insertTriggerEntry n (e.onset.ticks + t.defn.delay) t.defn.template s with
  | some s1 =>
    let t1 := t.afterFiring
    let s2 := s1.setTrigger n (some t1)
    if t1.state = .spent then post (.triggerSpent n t1.fired) s2 else s2
  | none =>
    let t1 := t.afterOverrun
    post (.triggerOverrun n t1.overruns e.onset e.generation) (s.setTrigger n (some t1))

/-- One trigger looks at an edge: it is selected by source and edge, and acts in the ARMED state alone (R100, R101). -/
def offerEdge (e : EdgeReport) (n : TrigNo) (s : State) : State :=
  match s.trg[n] with
  | none => s
  | some t =>
    if t.defn.source = e.line ∧ t.defn.edge.matches e.edge = true ∧ t.state = .armed then fireTrigger n t e s else s

/-- An elapsed tick on a trigger: the holdoff remainder falls by 1, and at 0 the trigger is ARMED (R104). -/
def Trigger.tick (t : Trigger) : Trigger :=
  match t.state with
  | .holdoff => if t.remainder ≤ 1 then { t with state := .armed, remainder := 0 } else { t with remainder := t.remainder - 1 }
  | .disarmed | .armed | .spent => t

/-- The next elapsed tick on this trigger ends its holdoff (R104). -/
def Trigger.holdoffEnding (t : Trigger) : Bool := t.state == .holdoff && decide (t.remainder ≤ 1)

/-- A trigger as TRG-SET leaves it (R106). -/
def Trigger.ofDef (d : TrigDef) : Trigger :=
  { defn := d, armCount := 0, state := .disarmed, remainder := 0, fired := 0, overruns := 0 }

/-- A trigger as a profile load installs it (R111). -/
def Trigger.ofStored (t : StoredTrigger) : Trigger :=
  { defn := t.defn, armCount := t.armCount, state := if t.armed then .armed else .disarmed, remainder := 0, fired := 0,
    overruns := 0 }

/-- A trigger as it is handed to a profile save: HOLDOFF as ARMED, SPENT as DISARMED with arm count 0 (R111). -/
def Trigger.stored (t : Trigger) : StoredTrigger :=
  match t.state with
  | .disarmed => { defn := t.defn, armCount := t.armCount, armed := false }
  | .armed | .holdoff => { defn := t.defn, armCount := t.armCount, armed := true }
  | .spent => { defn := t.defn, armCount := 0, armed := false }

end Sys2Proof.Machine
end

