-- ==== Sys2Proof/Machine/Reference.lean ====
section
/-! DEFINITION. The Reference Discipline's operations: the reference line, samples, the offset history, loss, and the
installation of a configuration (chapter 6). -/

namespace Sys2Proof.Machine

/-- The reference line is removed (R114). -/
def refRemoved (s : State) : State :=
  let s1 := s.setRds { s.rds with line := none, run := 0, state := .idle, count := 0 }
  if s.rds.config.mode = .steer then claimHoldover .refOff s1 else s1

/-- Line `n` is the reference line (R114). -/
def refAssigned (n : LineNo) (s : State) : State :=
  if s.rds.config.mode = .off then s.setRds { s.rds with line := some n, run := 0 }
  else s.setRds { s.rds with line := some n, run := 0, state := .waiting, count := 0 }

/-- The offset of an onset tick (R116). -/
def offsetOf (tick : Nat) : Int := if tick < 512 then (tick : Int) else (tick : Int) - 1024

/-- The correction of an offset: negated, with −512 corrected by +511 (R116). -/
def correctionOf (offset : Int) : Int := if offset = -512 then 511 else -offset

/-- A sample is appended to the history, which keeps the newest 16 (R121). -/
def recordSample (x : Sample) (s : State) : State :=
  let h := if Config.historyMax ≤ s.rds.history.length then s.rds.history.tail else s.rds.history
  s.setRds { s.rds with history := h ++ [x] }

/-- A sample in STEER mode with an offset inside the window (R119). -/
def steerAccepted (offset : Int) (s : State) : State :=
  claimTracking .refAccept (claimSlew (correctionOf offset) (s.setRds { s.rds with run := 0 }))

/-- A sample in STEER mode with an offset outside the window, and its outcome (R120). `after` is where the TIME-STATE of a step is
posted (`stepWith`). -/
def steerOutlier (offset : Int) (after : Nat) (s : State) : State × SampleOutcome :=
  let run := s.rds.run + 1
  let s1 := s.setRds { s.rds with run := run }
  if run < s.rds.config.limit then (s1, .outlier)
  else
    let s2 := claimStep (correctionOf offset) after s1
    (s2.setRds { s2.rds with run := 0 }, .stepped)

/-- The outcome of a sample and the claims it sends (R117 to R120). -/
def settleSample (offset : Int) (generation : W16) (after : Nat) (s : State) : State × SampleOutcome :=
  if s.tmb.validity = .unset ∨ generation ≠ s.tmb.generation then (s, .ignored)
  else match s.rds.config.mode with
    | .steer => if offset.natAbs ≤ s.rds.config.window then (steerAccepted offset s, .accepted) else steerOutlier offset after s
    | .observe | .off => (s, if offset.natAbs ≤ s.rds.config.window then .accepted else .outlier)

/-- The Reference Discipline deals with an accepted edge of the reference line (R115). -/
def referenceEdge (e : EdgeReport) (after : Nat) (s : State) : State :=
  if s.rds.state = .idle ∨ e.edge ≠ s.rds.config.edge then s
  else
    let s1 := s.setRds { s.rds with count := 0, state := .active }
    let offset := offsetOf e.onset.tick
    let r := settleSample offset e.generation after s1
    recordSample { sec := e.onset.sec, offset := offset, outcome := r.2 } r.1

/-- The edge count after an elapsed tick (R122). -/
def Rds.counted (r : Rds) : Nat :=
  match r.state with
  | .active | .lost => min Config.countMax (r.count + 1)
  | .idle | .waiting => 0

/-- The next elapsed tick declares the loss of the reference (R122). -/
def Rds.losing (r : Rds) : Bool := r.state == .active && decide (r.config.timeout * Config.ticksPerSecond < r.counted)

/-- The loss of the reference: LOST, Set HOLDOVER in STEER mode, REF-LOST (R122). -/
def declareLoss (s : State) : State :=
  let s1 := s.setRds { s.rds with state := .lost, run := 0 }
  let s2 := if s1.rds.config.mode = .steer then claimHoldover .refLoss s1 else s1
  post (.refLost s2.rds.line s2.rds.config.timeout s2.tmb.validity ((s2.rds.history.getLast?.map (·.sec)).getD 0)) s2

/-- The Reference Discipline deals with an elapsed tick (R122). -/
def referenceTick (s : State) : State :=
  let s1 := s.setRds { s.rds with count := s.rds.counted }
  if s.rds.losing then declareLoss s1 else s1

/-- A configuration is installed: steps 1 to 4 of R124 (R124, R127). -/
def installRefConfig (c : RefConfig) (s : State) : State :=
  let s1 := if s.rds.config.mode = .steer ∧ c.mode ≠ .steer then claimHoldover .refOff s else s
  let r : Rds := { s1.rds with config := c, run := 0 }
  s1.setRds
    (if r.line = none ∨ c.mode = .off then { r with state := .idle, count := 0 }
     else if r.state = .idle then { r with state := .waiting, count := 0 }
     else r)

end Sys2Proof.Machine
end

