-- ==== Sys2Proof/Machine/Inputs.lean ====
section
/-! DEFINITION. The Line Unit's inputs and configuration: the filter, accepted edges, the installation of a line
configuration, and one line's part of an elapsed tick (R70 to R72, R81 to R86). -/

namespace Sys2Proof.Machine

/-! ## The filter -/

/-- Consecutive differing samples needed to accept a change (R81). -/
def LineConfig.acceptance (c : LineConfig) : Nat := if c.filter = 0 then 1 else c.filter

/-- The run count of a filter (R81). -/
def Filter.runCount (f : Filter) : Nat := match f.run with
  | none => 0
  | some r => r.count

/-- The edge that a change to a level is (R81). -/
def Edge.ofLevel : Level → Edge
  | .high => .rise
  | .low => .fall

/-- The capture-edge setting takes an edge (R84). -/
def CaptureEdges.takes : CaptureEdges → Edge → Bool
  | .both, _ => true
  | .rise, .rise => true
  | .fall, .fall => true
  | _, _ => false

/-- What a sample does to a filter: the filter it leaves, and whether a run ended short (a glitch) (R81, R83). -/
structure SampleResult where
  filter : Filter
  glitch : Bool
  deriving DecidableEq, Repr

/-- A sample against the accepted level (R81, R82). A run that starts takes `now` and `gen` as its onset. -/
def Filter.sample (f : Filter) (level : Level) (now : Instant) (gen : W16) : SampleResult :=
  if level = f.accepted then { filter := { f with run := none }, glitch := f.run.isSome }
  else
    { filter := { f with run := some (match f.run with
        | none => { count := 1, onset := now, generation := gen }
        | some r => { r with count := r.count + 1 }) }
      glitch := false }

/-- The run that has reached the acceptance length, if there is one (R81). -/
def Filter.completed (f : Filter) (need : Nat) : Option Run := f.run.filter fun r => decide (need ≤ r.count)

/-- The filter after the acceptance of a change: the accepted level becomes the sampled one, its inverse (R81). -/
def Filter.changed (f : Filter) : Filter := { accepted := f.accepted.inv, run := none }

/-- A restart of the filter: the accepted level becomes the raw level, and no run stands (R81). -/
def Filter.restart (raw : Level) : Filter := { accepted := raw, run := none }

/-! ## Accepted edges -/

/-- The Capture Log receives the edge when the line's setting takes it (R84). -/
def edgeToLog (e : EdgeReport) (s : State) : State :=
  if (s.lin[e.line]).config.capture.takes e.edge then captureEdge e s else s

/-- The Capture Log's place among the receivers of an edge: before the dealing at position `k` (R173). -/
def logAt (k : Nat) (e : EdgeReport) (order : EdgeOrder) (s : State) : State :=
  if order.logAfter = k then edgeToLog e s else s

/-- The Trigger Table deals with an edge, the triggers in rising id, and the Capture Log before or after any of them
(R84, R101, R173). R101 makes each trigger's handling complete, and neither it nor R110 says whether a request, an advance or
another block's event can fall between the handlings of two triggers that one edge selects: here none does, and all of them
come before the first or after the last. DESIGN CHOICE, log entry 29, unsafe. -/
def handToTriggers (e : EdgeReport) (order : EdgeOrder) (s : State) : State :=
  (List.finRange 8).foldl (fun x n => offerEdge e n (logAt n e order x)) s

/-- An accepted edge is handed on: to the Capture Log when the line's setting takes it, and to the Trigger Table from an INPUT line
or the Reference Discipline from the REFERENCE line (R84). The order among the receivers is free, so `order` says after how
many of the others the Capture Log comes. One trigger's dealing, and the Reference Discipline's, is one whole: the Capture Log
does not come in the middle of it. DESIGN CHOICE, log entries 8 and 29, unsafe. -/
def handOn (e : EdgeReport) (order : EdgeOrder) (s : State) : State :=
  match (s.lin[e.line]).config.role with
  | .input =>
    let s1 := handToTriggers e order s
    if 8 ≤ order.logAfter then edgeToLog e s1 else s1
  | .reference =>
    if order.logAfter = 0 then referenceEdge e order.stateAfter (edgeToLog e s)
    else edgeToLog e (referenceEdge e order.stateAfter s)
  | .off | .pushPull | .openDrain => edgeToLog e s

/-- The filter sample of line `n`: a run starts, grows, or ends short as a glitch (R81 to R83). -/
def sampleLine (n : LineNo) (f : Filter) (s : State) : State :=
  let l := s.lin[n]
  let r := f.sample (s.raw n) s.tmb.instant s.tmb.generation
  (s.setLine n { l with input := some r.filter
                        glitches := if r.glitch then min Config.countMax (l.glitches + 1) else l.glitches }).drawn

/-- The run of line `n` that has reached the acceptance length, with its filter (R81). -/
def State.completed (s : State) (n : LineNo) : Option (Filter × Run) :=
  match (s.lin[n]).input with
  | none => none
  | some f => (f.completed (s.lin[n]).config.acceptance).map fun r => (f, r)

/-- The run of line `n` is complete and its change not yet accepted (R81, R126). -/
def State.complete (s : State) (n : LineNo) : Bool := (s.completed n).isSome

/-- The acceptance of a complete run: the accepted level changes, the run ends, and the edge is handed on with the run's onset
(R81, R84). -/
def acceptRun (n : LineNo) (order : EdgeOrder) (s : State) : State :=
  match s.completed n with
  | none => s
  | some (f, r) =>
    handOn { line := n, edge := Edge.ofLevel f.changed.accepted, onset := r.onset, generation := r.generation } order
      (s.setLine n { s.lin[n] with input := some f.changed })

/-- One line's part of an elapsed tick: a pulse counts down (R77), or a filter takes a sample (R81). The change of a run that the
sample completes is accepted at once with `some order`. With `none` the acceptance comes later, so that a step or a request
can fall between the sample and what the blocks make of the edge (R97, R110, R126; DESIGN CHOICE, log entry 7, unsafe). -/
def lineTick (n : LineNo) (accept : Option EdgeOrder) (s : State) : State :=
  match (s.lin[n]).input with
  | some f =>
    match accept with
    | none => sampleLine n f s
    | some order => acceptRun n order (sampleLine n f s)
  | none => s.setLine n { s.lin[n] with output := (s.lin[n]).output.map Output.tick }

/-- The next sample of line `n` is the acceptance of a change (R81). -/
def State.accepting (s : State) (n : LineNo) : Bool :=
  match (s.lin[n]).input with
  | none => false
  | some f => s.raw n != f.accepted && decide ((s.lin[n]).config.acceptance ≤ f.runCount + 1)

/-- The next elapsed tick of line `n` is the expiry of its pulse (R77). -/
def State.expiring (s : State) (n : LineNo) : Bool :=
  match (s.lin[n]).output with
  | none => false
  | some o => o.expiring

/-! ## Configuration -/

/-- The state a role gives a line whose pin now shows `raw` (R72 steps 4 and 5). -/
def Line.configured (l : Line) (c : LineConfig) : Line :=
  { l with config := c, output := if c.role.isOutput then some { commanded := c.initial, pulse := none } else none,
           input := none }

/-- The filter of a line with an input role restarts from the level its pin shows (R72 step 5). -/
def restartFilter (n : LineNo) (s : State) : State :=
  if (s.lin[n]).config.role.isInput then
    (s.setLine n { s.lin[n] with input := some (Filter.restart (s.raw n)) }).drawn
  else s

/-- A line configuration is installed: an accepted LINE-CONFIG (R72). -/
def configureLine (n : LineNo) (c : LineConfig) (s : State) : State :=
  let l := s.lin[n]
  let s1 := if l.config.role = .reference ∧ c.role ≠ .reference then refRemoved s else s
  let s2 := restartFilter n (s1.setLine n ((s1.lin[n]).configured c))
  if c.role = .reference then refAssigned n s2 else s2

/-- The line is in the line set of an entry or in the template of a present trigger (R71). -/
def State.namedOutput (s : State) (n : LineNo) : Bool :=
  s.sch.entries.any (fun e => e.lines.getLsbD n) ||
    s.trg.toList.any (fun t => match t with
      | none => false
      | some x => x.defn.template.lines.getLsbD n)

/-- The line is the guard line of an entry or the source of a present trigger (R71). -/
def State.namedInput (s : State) (n : LineNo) : Bool :=
  s.sch.entries.any (fun e => match e.guard with
      | none => false
      | some g => g.line == n) ||
    s.trg.toList.any (fun t => match t with
      | none => false
      | some x => x.defn.source == n)

/-- The change of role would break the requirements of a line named elsewhere (R71). -/
def State.lineInUse (s : State) (n : LineNo) (role : Role) : Bool :=
  (s.namedOutput n && !role.isOutput) || (s.namedInput n && role != .input)

/-! ## The two phases of a profile load -/

/-- Phase 1 of a load: every line is set OFF, with its glitch count kept, and a removed reference line is told (R86). -/
def allLinesOff (s : State) : State :=
  let off := s.setLin (s.lin.map fun l => l.configured LineConfig.off)
  if s.lin.toList.any (fun l => l.config.role == .reference) then refRemoved off else off

/-- Phase 2 of a load: the stored records are installed, L1 first (R86). -/
def installLines (cs : Vector LineConfig 16) (s : State) : State :=
  (List.finRange 16).foldl (fun x n => configureLine n cs[n] x) s

end Sys2Proof.Machine
end

