-- ==== Sys2Proof/Machine/Flags.lean ====
section
/-! DEFINITION. The codes of the manual's enumerations, the flag bytes, and little-endian fields (R181, 10.2, 10.3). -/

namespace Sys2Proof

/-- The code of a level: LOW 0, HIGH 1 (R68). -/
def Level.code : Level → Nat
  | .low => 0
  | .high => 1

/-- The level of a code (R68). -/
def Level.ofCode (b : Byte) : Option Level := match b.toNat with
  | 0 => some .low
  | 1 => some .high
  | _ => none

/-- The code of a frame kind that carries a request (R162). -/
def ReqKind.code : ReqKind → Nat
  | .request => 0x01
  | .posted => 0x02

end Sys2Proof

namespace Sys2Proof.Machine

/-! ## Codes -/

/-- The codes of Validity (R1). -/
def Validity.code : Validity → Nat
  | .unset => 0
  | .set => 1
  | .tracking => 2
  | .holdover => 3

/-- The codes of ValidityCause (R13). -/
def ValidityCause.code : ValidityCause → Nat
  | .hostSet => 1
  | .hostClear => 2
  | .refAccept => 3
  | .refStep => 4
  | .refLoss => 5
  | .refOff => 6
  | .mainReset => 7
  | .rangeEnd => 8

/-- The codes of StepCause (R15). -/
def StepCause.code : StepCause → Nat
  | .hostSet => 1
  | .hostAdjust => 2
  | .reference => 3

/-- The codes of Anchor (10.2, entry flags bit 0). -/
def Anchor.code : Anchor → Nat
  | .calendar => 0
  | .interval => 1

/-- The Anchor of a code; a code outside the set is none (R181). -/
def Anchor.ofCode (b : Byte) : Option Anchor := match b.toNat with
  | 0 => some .calendar
  | 1 => some .interval
  | _ => none

/-- The codes of Kind (10.2). -/
def Kind.code : Kind → Nat
  | .high => 0
  | .low => 1
  | .toggle => 2
  | .pulse => 3
  | .mark => 4

/-- The Kind of a code; a code outside the set is none (R181). -/
def Kind.ofCode (b : Byte) : Option Kind := match b.toNat with
  | 0 => some .high
  | 1 => some .low
  | 2 => some .toggle
  | 3 => some .pulse
  | 4 => some .mark
  | _ => none

/-- The codes of LatePolicy (10.2, entry flags bit 1). -/
def LatePolicy.code : LatePolicy → Nat
  | .run => 0
  | .skip => 1

/-- The LatePolicy of a code; a code outside the set is none (R181). -/
def LatePolicy.ofCode (b : Byte) : Option LatePolicy := match b.toNat with
  | 0 => some .run
  | 1 => some .skip
  | _ => none

/-- The codes of Origin (10.2). -/
def Origin.code : Origin → Nat
  | .host => 0
  | .profile => 1
  | .trigger => 2

/-- The codes of TakeOutcome (R52). -/
def TakeOutcome.code : TakeOutcome → Nat
  | .run => 0
  | .runLate => 1
  | .suppressed => 2
  | .skipped => 3
  | .discarded => 4

/-- The codes of Role (R68). -/
def Role.code : Role → Nat
  | .off => 0
  | .pushPull => 1
  | .openDrain => 2
  | .input => 3
  | .reference => 4

/-- The Role of a code; a code outside the set is none (R181). -/
def Role.ofCode (b : Byte) : Option Role := match b.toNat with
  | 0 => some .off
  | 1 => some .pushPull
  | 2 => some .openDrain
  | 3 => some .input
  | 4 => some .reference
  | _ => none

/-- The codes of SafeLevel (R68). -/
def SafeLevel.code : SafeLevel → Nat
  | .low => 0
  | .high => 1
  | .keep => 2

/-- The SafeLevel of a code; a code outside the set is none (R181). -/
def SafeLevel.ofCode (b : Byte) : Option SafeLevel := match b.toNat with
  | 0 => some .low
  | 1 => some .high
  | 2 => some .keep
  | _ => none

/-- The codes of Pull (R68). -/
def Pull.code : Pull → Nat
  | .none => 0
  | .up => 1
  | .down => 2

/-- The Pull of a code; a code outside the set is none (R181). -/
def Pull.ofCode (b : Byte) : Option Pull := match b.toNat with
  | 0 => some .none
  | 1 => some .up
  | 2 => some .down
  | _ => Option.none

/-- The codes of CaptureEdges (R68). -/
def CaptureEdges.code : CaptureEdges → Nat
  | .none => 0
  | .rise => 1
  | .fall => 2
  | .both => 3

/-- The CaptureEdges of a code; a code outside the set is none (R181). -/
def CaptureEdges.ofCode (b : Byte) : Option CaptureEdges := match b.toNat with
  | 0 => some .none
  | 1 => some .rise
  | 2 => some .fall
  | 3 => some .both
  | _ => Option.none

/-- The codes of Edge (R90, R112). -/
def Edge.code : Edge → Nat
  | .rise => 0
  | .fall => 1

/-- The Edge of a code; a code outside the set is none (R181). -/
def Edge.ofCode (b : Byte) : Option Edge := match b.toNat with
  | 0 => some .rise
  | 1 => some .fall
  | _ => none

/-- The codes of CapPolicy (R89). -/
def CapPolicy.code : CapPolicy → Nat
  | .keepOldest => 0
  | .keepNewest => 1

/-- The CapPolicy of a code; a code outside the set is none (R181). -/
def CapPolicy.ofCode (b : Byte) : Option CapPolicy := match b.toNat with
  | 0 => some .keepOldest
  | 1 => some .keepNewest
  | _ => none

/-- The codes of TrigEdge (R99). -/
def TrigEdge.code : TrigEdge → Nat
  | .rise => 0
  | .fall => 1
  | .both => 2

/-- The TrigEdge of a code; a code outside the set is none (R181). -/
def TrigEdge.ofCode (b : Byte) : Option TrigEdge := match b.toNat with
  | 0 => some .rise
  | 1 => some .fall
  | 2 => some .both
  | _ => none

/-- The codes of TrigState (10.2). -/
def TrigState.code : TrigState → Nat
  | .disarmed => 0
  | .armed => 1
  | .holdoff => 2
  | .spent => 3

/-- The codes of RefMode (R112). -/
def RefMode.code : RefMode → Nat
  | .off => 0
  | .observe => 1
  | .steer => 2

/-- The RefMode of a code; a code outside the set is none (R181). -/
def RefMode.ofCode (b : Byte) : Option RefMode := match b.toNat with
  | 0 => some .off
  | 1 => some .observe
  | 2 => some .steer
  | _ => none

/-- The codes of RefState (10.3 note 4). -/
def RefState.code : RefState → Nat
  | .idle => 0
  | .waiting => 1
  | .active => 2
  | .lost => 3

/-- The codes of SampleOutcome (R121). -/
def SampleOutcome.code : SampleOutcome → Nat
  | .accepted => 0
  | .outlier => 1
  | .stepped => 2
  | .ignored => 3

/-- The codes of Fallback (R151). -/
def Fallback.code : Fallback → Nat
  | .notify => 0
  | .hold => 1
  | .safe => 2
  | .safeHold => 3
  | .restart => 4

/-- The Fallback of a code; a code outside the set is none (R181). -/
def Fallback.ofCode (b : Byte) : Option Fallback := match b.toNat with
  | 0 => some .notify
  | 1 => some .hold
  | 2 => some .safe
  | 3 => some .safeHold
  | 4 => some .restart
  | _ => none

/-- The codes of LeaseState (R151). -/
def LeaseState.code : LeaseState → Nat
  | .disabled => 0
  | .running => 1
  | .expired => 2

/-- The codes of StartCause (R176). -/
def StartCause.code : StartCause → Nat
  | .cold => 0
  | .supply => 1
  | .pin => 2
  | .request => 3
  | .lease => 4

/-- The codes of ProfileOutcome (R148). -/
def ProfileOutcome.code : ProfileOutcome → Nat
  | .loadedA => 0
  | .loadedB => 1
  | .noneValid => 2
  | .noFlash => 3
  | .skipped => 4
  | .savedA => 5
  | .savedB => 6
  | .erased => 7
  | .failed => 8

/-- The codes of ProfileOp (R148). -/
def ProfileOp.code : ProfileOp → Nat
  | .load => 0
  | .save => 1
  | .erase => 2

/-- The codes of FailCause (R148). -/
def FailCause.code : FailCause → Nat
  | .timeout => 1
  | .verify => 2

/-- The codes of Slot (R147). -/
def Slot.code : Slot → Nat
  | .a => 1
  | .b => 2

/-- The codes of Status (section 9.12). -/
def Status.code : Status → Nat
  | .ok => 0
  | .accepted => 1
  | .badFormat => 2
  | .badValue => 3
  | .unknownRequest => 4
  | .seqGap => 5
  | .full => 6
  | .notFound => 7
  | .state => 8
  | .busy => 9
  | .locked => 10
  | .noTime => 11
  | .lineInUse => 12
  | .badLine => 13
  | .noFlash => 14

/-- The operation state code of what the Profile Store is doing: IDLE 0, SCANNING 1, LOADING 2, ERASING 3, PROGRAMMING 4,
VERIFYING 5 (R128). The erase after a failure stays in ERASING (R144). -/
def PrsJob.opState : PrsJob → Nat
  | .idle => 0
  | .scanning => 1
  | .loading .. => 2
  | .saveErase | .saveRecover _ | .eraseA _ | .eraseB => 3
  | .saveProgram .. => 4
  | .saveVerify => 5

/-- The code of a slot or of none (R147). -/
def slotCode : Option Slot → Nat
  | none => 0
  | some x => x.code

/-- The code of a failure cause or of none (R148). -/
def causeCode : Option FailCause → Nat
  | none => 0
  | some x => x.code

/-- Line numbers 1..16 of a byte (R70, R106). -/
def lineOfByte (b : Byte) : Option LineNo :=
  if h : 1 ≤ b.toNat ∧ b.toNat ≤ 16 then some ⟨b.toNat - 1, by omega⟩ else none

/-- Trigger ids 1..8 of a byte (R106). -/
def trigOfByte (b : Byte) : Option TrigNo :=
  if h : 1 ≤ b.toNat ∧ b.toNat ≤ 8 then some ⟨b.toNat - 1, by omega⟩ else none

/-! ## Fields -/

/-- A one-byte field. -/
def u8 (n : Nat) : List Byte := [BitVec.ofNat 8 n]

/-- A two-byte field, least significant byte first (R181). -/
def u16 (n : Nat) : List Byte := [BitVec.ofNat 8 n, BitVec.ofNat 8 (n / 256)]

/-- A four-byte field, least significant byte first (R181). -/
def u32 (n : Nat) : List Byte :=
  [BitVec.ofNat 8 n, BitVec.ofNat 8 (n / 256), BitVec.ofNat 8 (n / 65536), BitVec.ofNat 8 (n / 16777216)]

/-- A signed two-byte field, two's complement (R181). -/
def s16 (x : Int) : List Byte := u16 (x % 65536).toNat

/-- An instant: seconds, then tick (R181). -/
def instantBytes (i : Instant) : List Byte := u32 i.sec ++ u16 i.tick

/-- A flag byte: 0 or 1 (R181). -/
def flag (b : Bool) : List Byte := [if b then 1 else 0]

/-- A run of padding bytes (R181). -/
def padding (n : Nat) : List Byte := List.replicate n 0

/-- The byte at an offset. -/
def byteAt (p : List Byte) (i : Nat) : Byte := p.getD i 0

/-- The two-byte field at an offset. -/
def u16At (p : List Byte) (i : Nat) : Nat := (byteAt p i).toNat + 256 * (byteAt p (i + 1)).toNat

/-- The four-byte field at an offset. -/
def u32At (p : List Byte) (i : Nat) : Nat := u16At p i + 65536 * u16At p (i + 2)

/-- The two-byte field at an offset, as a word. -/
def w16At (p : List Byte) (i : Nat) : W16 := BitVec.ofNat 16 (u16At p i)

/-- The four-byte field at an offset, as a word. -/
def w32At (p : List Byte) (i : Nat) : W32 := BitVec.ofNat 32 (u32At p i)

/-- The flag byte at an offset; a value with a padding bit is none (R181). -/
def flagAt (p : List Byte) (i : Nat) : Option Bool :=
  if byteAt p i = 0 then some false else if byteAt p i = 1 then some true else none

/-! ## Flag bytes -/

/-- A bit of a flag byte with its weight. -/
def bitOf (b : Bool) (weight : Nat) : Nat := if b then weight else 0

/-- The hold-reason set byte (10.3 note 1). -/
def HoldSet.byte (h : HoldSet) : List Byte := u8 (bitOf h.host 1 + bitOf h.notime 2 + bitOf h.lease 4 + bitOf h.load 8)

/-- The entry flags of an action record or a stored entry (10.2). -/
def entryFlags (anchor : Anchor) (late : LatePolicy) (notify standing rep guard : Bool) : Nat :=
  anchor.code + 2 * late.code + bitOf notify 4 + bitOf standing 8 + bitOf rep 16 + bitOf guard 32

/-- The level byte of a line status record (10.2). -/
def levelByte (commanded : Level) (pulsing : Bool) (rest raw accepted : Level) : Nat :=
  commanded.code + bitOf pulsing 2 + 4 * rest.code + 8 * raw.code + 16 * accepted.code

end Sys2Proof.Machine
end

