-- ==== Sys2Proof/Machine/Operands.lean ====
section
/-! DEFINITION. The operand forms: the payload layouts of the requests both ways, and the reading of their fields into the
values the blocks keep (chapter 10, R170, R181, R182). -/

namespace Sys2Proof

/-- A line configuration record as six bytes (10.2). -/
def LineRecord.bytes (r : LineRecord) : List Byte := [r.role, r.initial, r.safe, r.pull, r.filter, r.capture]

/-- The six bytes of a line configuration record (10.2). -/
def LineRecord.ofBytes (p : List Byte) : LineRecord :=
  { role := p.getD 0 0, initial := p.getD 1 0, safe := p.getD 2 0, pull := p.getD 3 0, filter := p.getD 4 0,
    capture := p.getD 5 0 }

end Sys2Proof

namespace Sys2Proof.Machine

/-! ## Request payloads -/

/-- The request code of a request (10.3). -/
def requestCode : Request → Nat
  | .ident => 0x01
  | .linkStatus _ => 0x02
  | .restart => 0x03
  | .timeRead => 0x10
  | .timeSet _ => 0x11
  | .timeAdjust _ _ => 0x12
  | .timeClear => 0x13
  | .trimSet _ => 0x14
  | .actAdd _ => 0x20
  | .actCancel _ => 0x21
  | .actPurge _ _ => 0x22
  | .actGet _ => 0x23
  | .actList _ => 0x24
  | .schedHold => 0x28
  | .schedRelease => 0x29
  | .schedStatus => 0x2a
  | .schedConfig _ => 0x2b
  | .lineConfig _ _ => 0x30
  | .lineDrive _ _ _ => 0x31
  | .lineStatus _ => 0x32
  | .capConfig _ _ => 0x40
  | .capRead => 0x41
  | .capAck _ => 0x42
  | .trgSet _ => 0x48
  | .trgArm _ _ => 0x49
  | .trgDisarm _ => 0x4a
  | .trgClear _ => 0x4b
  | .trgStatus => 0x4c
  | .refConfig _ => 0x50
  | .refStatus => 0x51
  | .profSave => 0x60
  | .profLoad => 0x61
  | .profErase => 0x62
  | .profStatus => 0x63
  | .profLock => 0x64
  | .leaseConfig _ _ => 0x70
  | .leaseResume => 0x71
  | .leaseStatus => 0x72

/-- The request codes of the Formats chapter (10.3). -/
def requestCodes : List Nat :=
  [0x01, 0x02, 0x03, 0x10, 0x11, 0x12, 0x13, 0x14, 0x20, 0x21,
   0x22, 0x23, 0x24, 0x28, 0x29, 0x2a, 0x2b, 0x30, 0x31, 0x32,
   0x40, 0x41, 0x42, 0x48, 0x49, 0x4a, 0x4b, 0x4c, 0x50, 0x51, 0x60,
   0x61, 0x62, 0x63, 0x64, 0x70, 0x71, 0x72]

/-- The codes of the read-type requests (R170). -/
def readTypeCodes : List Nat := [0x01, 0x02, 0x10, 0x23, 0x24, 0x2a, 0x32, 0x41, 0x4c, 0x51, 0x63, 0x72]

/-- The parameter bytes of ActAdd (10.3). -/
def encodeActAdd (p : ActAddParams) : List Byte :=
  u16 p.label.toNat ++ [p.anchor] ++ u32 p.seconds.toNat ++ u16 p.tick.toNat ++ [p.kind] ++ u16 p.lines.toNat ++ u16 p.width.toNat ++ flag p.repPresent ++ u32 p.period.toNat ++ u16 p.count.toNat ++ [p.late] ++ flag p.guardPresent ++ [p.guardLine] ++ [p.guardLevel] ++ flag p.notify ++ flag p.standing

/-- The parameters of ActAdd at their offsets; a flag byte with a padding bit is none (10.3, R181). -/
def decodeActAdd (p : List Byte) : Option ActAddParams :=
  match flagAt p 14, flagAt p 22, flagAt p 25, flagAt p 26 with
  | some repPresent, some guardPresent, some notify, some standing =>
    some { label := w16At p 0, anchor := byteAt p 2, seconds := w32At p 3, tick := w16At p 7, kind := byteAt p 9, lines := w16At p 10, width := w16At p 12, repPresent := repPresent, period := w32At p 15, count := w16At p 19, late := byteAt p 21, guardPresent := guardPresent, guardLine := byteAt p 23, guardLevel := byteAt p 24, notify := notify, standing := standing }
  | _, _, _, _ => none

/-- The parameter bytes of TrgSet (10.3). -/
def encodeTrgSet (p : TrgSetParams) : List Byte :=
  [p.id] ++ [p.source] ++ [p.edge] ++ u32 p.delay.toNat ++ u16 p.holdoff.toNat ++ [p.kind] ++ u16 p.lines.toNat ++ u16 p.width.toNat ++ [p.late] ++ flag p.notify

/-- The parameters of TrgSet at their offsets; a flag byte with a padding bit is none (10.3, R181). -/
def decodeTrgSet (p : List Byte) : Option TrgSetParams :=
  match flagAt p 15 with
  | some notify =>
    some { id := byteAt p 0, source := byteAt p 1, edge := byteAt p 2, delay := w32At p 3, holdoff := w16At p 7, kind := byteAt p 9, lines := w16At p 10, width := w16At p 12, late := byteAt p 14, notify := notify }
  | _ => none

/-- The parameter bytes of RefConfig (10.3). -/
def encodeRefConfig (p : RefConfigParams) : List Byte :=
  [p.mode] ++ [p.edge] ++ u16 p.window.toNat ++ [p.limit] ++ [p.timeout]

/-- The parameters of RefConfig at their offsets; a flag byte with a padding bit is none (10.3, R181). -/
def decodeRefConfig (p : List Byte) : Option RefConfigParams :=
  some { mode := byteAt p 0, edge := byteAt p 1, window := w16At p 2, limit := byteAt p 4, timeout := byteAt p 5 }

/-- The parameter bytes of TIME-SET: the form byte, then the fields of the form (10.3). -/
def encodeTimeSet : TimeSetForm → List Byte
  | .instant seconds tick => [0] ++ u32 seconds.toNat ++ u16 tick.toNat
  | .calendar year month day hour minute second tick => [1] ++ u16 year.toNat ++ [month, day, hour, minute, second] ++ u16 tick.toNat
  | .other form rest => form :: rest

/-- TIME-SET has one length per form; another form byte passes at any length (R181). -/
def decodeTimeSet (p : List Byte) : Option TimeSetForm :=
  match p with
  | [] => none
  | form :: rest =>
    if form = 0 then (if rest.length = 6 then some (.instant (w32At p 1) (w16At p 5)) else none)
    else if form = 1 then
      (if rest.length = 9 then
        some (.calendar (w16At p 1) (byteAt p 3) (byteAt p 4) (byteAt p 5) (byteAt p 6) (byteAt p 7) (w16At p 8))
       else none)
    else some (.other form rest)

/-- The parameter bytes of a request (10.3). -/
def encodeParams : Request → List Byte
  | .ident => []
  | .linkStatus clear => flag clear
  | .restart => []
  | .timeRead => []
  | .timeSet form => encodeTimeSet form
  | .timeAdjust mode value => [mode] ++ u32 value.toNat
  | .timeClear => []
  | .trimSet trim => u16 trim.toNat
  | .actAdd p => encodeActAdd p
  | .actCancel handle => u16 handle.toNat
  | .actPurge lines origins => u16 lines.toNat ++ [origins]
  | .actGet handle => u16 handle.toNat
  | .actList position => u16 position.toNat
  | .schedHold => []
  | .schedRelease => []
  | .schedStatus => []
  | .schedConfig tolerance => u16 tolerance.toNat
  | .lineConfig line rec => [line] ++ rec.bytes
  | .lineDrive lines action width => u16 lines.toNat ++ [action] ++ u16 width.toNat
  | .lineStatus clear => flag clear
  | .capConfig policy mark => [policy] ++ u16 mark.toNat
  | .capRead => []
  | .capAck serial => u32 serial.toNat
  | .trgSet p => encodeTrgSet p
  | .trgArm id count => [id] ++ [count]
  | .trgDisarm id => [id]
  | .trgClear id => [id]
  | .trgStatus => []
  | .refConfig p => encodeRefConfig p
  | .refStatus => []
  | .profSave => []
  | .profLoad => []
  | .profErase => []
  | .profStatus => []
  | .profLock => []
  | .leaseConfig period fallback => u16 period.toNat ++ [fallback]
  | .leaseResume => []
  | .leaseStatus => []

/-- The payload of a request: its code, then its parameters (R182). -/
def encodeRequest (r : Request) : List Byte := BitVec.ofNat 8 (requestCode r) :: encodeParams r

/-- The request that a code and its parameter bytes spell; none is a wrong length or a padding that is not 0 (R170). -/
def decodeParams (code : Nat) (p : List Byte) : Option Request :=
  match code with
  | 0x01 => if p.length = 0 then some .ident else none
  | 0x02 => if p.length = 1 then (flagAt p 0).map .linkStatus else none
  | 0x03 => if p.length = 0 then some .restart else none
  | 0x10 => if p.length = 0 then some .timeRead else none
  | 0x11 => (decodeTimeSet p).map .timeSet
  | 0x12 => if p.length = 5 then some (.timeAdjust (byteAt p 0) (w32At p 1)) else none
  | 0x13 => if p.length = 0 then some .timeClear else none
  | 0x14 => if p.length = 2 then some (.trimSet (w16At p 0)) else none
  | 0x20 => if p.length = 27 then (decodeActAdd p).map .actAdd else none
  | 0x21 => if p.length = 2 then some (.actCancel (w16At p 0)) else none
  | 0x22 => if p.length = 3 then some (.actPurge (w16At p 0) (byteAt p 2)) else none
  | 0x23 => if p.length = 2 then some (.actGet (w16At p 0)) else none
  | 0x24 => if p.length = 2 then some (.actList (w16At p 0)) else none
  | 0x28 => if p.length = 0 then some .schedHold else none
  | 0x29 => if p.length = 0 then some .schedRelease else none
  | 0x2a => if p.length = 0 then some .schedStatus else none
  | 0x2b => if p.length = 2 then some (.schedConfig (w16At p 0)) else none
  | 0x30 => if p.length = 7 then some (.lineConfig (byteAt p 0) (LineRecord.ofBytes (p.drop 1))) else none
  | 0x31 => if p.length = 5 then some (.lineDrive (w16At p 0) (byteAt p 2) (w16At p 3)) else none
  | 0x32 => if p.length = 1 then (flagAt p 0).map .lineStatus else none
  | 0x40 => if p.length = 3 then some (.capConfig (byteAt p 0) (w16At p 1)) else none
  | 0x41 => if p.length = 0 then some .capRead else none
  | 0x42 => if p.length = 4 then some (.capAck (w32At p 0)) else none
  | 0x48 => if p.length = 16 then (decodeTrgSet p).map .trgSet else none
  | 0x49 => if p.length = 2 then some (.trgArm (byteAt p 0) (byteAt p 1)) else none
  | 0x4a => if p.length = 1 then some (.trgDisarm (byteAt p 0)) else none
  | 0x4b => if p.length = 1 then some (.trgClear (byteAt p 0)) else none
  | 0x4c => if p.length = 0 then some .trgStatus else none
  | 0x50 => if p.length = 6 then (decodeRefConfig p).map .refConfig else none
  | 0x51 => if p.length = 0 then some .refStatus else none
  | 0x60 => if p.length = 0 then some .profSave else none
  | 0x61 => if p.length = 0 then some .profLoad else none
  | 0x62 => if p.length = 0 then some .profErase else none
  | 0x63 => if p.length = 0 then some .profStatus else none
  | 0x64 => if p.length = 0 then some .profLock else none
  | 0x70 => if p.length = 3 then some (.leaseConfig (w16At p 0) (byteAt p 2)) else none
  | 0x71 => if p.length = 0 then some .leaseResume else none
  | 0x72 => if p.length = 0 then some .leaseStatus else none
  | _ => none

/-- The decoding of an executed frame, in the order of R170: the request, or the request code of the reply and the status
of the first check that fails. -/
def decodePayload (kind : ReqKind) : List Byte → Except (Byte × Status) Request
  | [] => .error (0, .badFormat)
  | c :: p =>
    if !requestCodes.contains c.toNat then .error (c, .unknownRequest)
    else if kind = .posted ∧ readTypeCodes.contains c.toNat = true then .error (c, .state)
    else match decodeParams c.toNat p with
      | none => .error (c, .badFormat)
      | some r => .ok r

/-! ## Fields read into the values the blocks keep -/

/-- The filter lengths (R68). -/
def filterLengths : List Nat := [0, 1, 4, 16, 64]

/-- A field that a role does not use holds code 0 (R68). -/
def LineConfig.unusedZero (c : LineConfig) : Bool :=
  match c.role with
  | .off => c.initial == .low && c.safe == .low && c.pull == .none && c.filter == 0 && c.capture == .none
  | .pushPull => c.pull == .none && c.filter == 0 && c.capture == .none
  | .openDrain => c.filter == 0 && c.capture == .none
  | .input | .reference => c.initial == .low && c.safe == .low

/-- A line configuration record that passes the field checks of LINE-CONFIG (R70 check 3). -/
def LineRecord.config (r : LineRecord) : Option LineConfig :=
  match Role.ofCode r.role, Level.ofCode r.initial, SafeLevel.ofCode r.safe, Pull.ofCode r.pull, CaptureEdges.ofCode r.capture with
  | some role, some initial, some safe, some pull, some capture =>
    let c : LineConfig := { role := role, initial := initial, safe := safe, pull := pull, filter := r.filter.toNat,
                            capture := capture }
    if filterLengths.contains c.filter && c.unusedZero then some c else none
  | _, _, _, _, _ => none

/-- A line configuration as a record (10.2). -/
def LineConfig.record (c : LineConfig) : LineRecord :=
  { role := BitVec.ofNat 8 c.role.code, initial := BitVec.ofNat 8 c.initial.code, safe := BitVec.ofNat 8 c.safe.code,
    pull := BitVec.ofNat 8 c.pull.code, filter := BitVec.ofNat 8 c.filter, capture := BitVec.ofNat 8 c.capture.code }

/-- Kind, lines and width fit together (R26). -/
def Kind.fits (k : Kind) (lines : W16) (width : Nat) : Bool :=
  match k with
  | .high | .low | .toggle => lines != 0 && width == 0
  | .pulse => lines != 0 && width != 0
  | .mark => lines == 0 && width == 0

/-- The guard fields: absent with both fields 0, or a line 1..16 and a level (R33). -/
def readGuard (present : Bool) (line level : Byte) : Option (Option Guard) :=
  if present then
    match lineOfByte line, Level.ofCode level with
    | some n, some l => some (some { line := n, level := l })
    | _, _ => none
  else if line = 0 ∧ level = 0 then some none else none

/-- The repeat fields: absent with period and count 0, or a period of 8..619,315,200 (R33). -/
def readRep (present : Bool) (period count : Nat) : Option (Option Rep) :=
  if present then (if 8 ≤ period ∧ period ≤ 619315200 then some (some { period := period, count := count }) else none)
  else if period = 0 ∧ count = 0 then some none else none

/-- The due of ACT-ADD in the anchor it names: a CALENDAR instant, or the present instant plus an INTERVAL delay; none is out
of range (R32, R33). -/
def readDue (anchor : Anchor) (seconds tick now : Nat) : Option Instant :=
  match anchor with
  | .calendar => if seconds ≤ Config.topSecond ∧ tick ≤ 1023 then some ⟨seconds, tick⟩ else none
  | .interval =>
    let due := now + seconds * 1024 + tick
    if tick ≤ 1023 ∧ due ≤ Instant.top.ticks then some (Instant.ofTicks due) else none

/-- The entry that ACT-ADD asks for, if its fields are in range and fit together (R32, R33 check 2). Handle and stamp are the
Scheduler's. -/
def readActAdd (p : ActAddParams) (now : Nat) : Option Entry :=
  match Anchor.ofCode p.anchor, Kind.ofCode p.kind, LatePolicy.ofCode p.late,
        readGuard p.guardPresent p.guardLine p.guardLevel, readRep p.repPresent p.period.toNat p.count.toNat with
  | some anchor, some kind, some late, some guard, some rep =>
    match readDue anchor p.seconds.toNat p.tick.toNat now with
    | some due =>
      if kind.fits p.lines p.width.toNat && !(p.standing && anchor == .interval) then
        some { handle := 0, label := p.label, due := due, anchor := anchor, kind := kind, lines := p.lines,
               width := p.width.toNat, rep := rep, remaining := (rep.map (·.count)).getD 0, late := late, guard := guard,
               notify := p.notify, standing := p.standing, origin := .host, suppressed := 0, stamp := 0 }
      else none
    | none => none
  | _, _, _, _, _ => none

/-- A trigger definition that passes the field checks of TRG-SET, the id apart (R106 check 2). -/
def readTrigDef (source edge : Byte) (delay holdoff : Nat) (kind : Byte) (lines : W16) (width : Nat) (late : Byte)
    (notify : Bool) : Option TrigDef :=
  match lineOfByte source, TrigEdge.ofCode edge, Kind.ofCode kind, LatePolicy.ofCode late with
  | some src, some e, some k, some l =>
    if k != .mark && k.fits lines width && decide (delay ≤ 1048575) then
      some { source := src, edge := e, delay := delay, holdoff := holdoff,
             template := { kind := k, lines := lines, width := width, late := l, notify := notify } }
    else none
  | _, _, _, _ => none

/-- A discipline configuration that passes the field checks of REF-CONFIG (R124 check 2). -/
def readRefConfig (mode edge : Byte) (window : Nat) (limit timeout : Byte) : Option RefConfig :=
  match RefMode.ofCode mode, Edge.ofCode edge with
  | some m, some e =>
    if 1 ≤ window ∧ window ≤ 512 ∧ 1 ≤ limit.toNat ∧ limit.toNat ≤ 15 ∧ 2 ≤ timeout.toNat ∧ timeout.toNat ≤ 60 then
      some { mode := m, edge := e, window := window, limit := limit.toNat, timeout := timeout.toNat }
    else none
  | _, _ => none

/-- A capture configuration that passes the field checks of CAP-CONFIG (R96 check 2). -/
def readCapConfig (policy : Byte) (mark : Nat) : Option (CapPolicy × Nat) :=
  match CapPolicy.ofCode policy with
  | some p => if 1 ≤ mark ∧ mark ≤ 256 then some (p, mark) else none
  | none => none

/-- A lease configuration that passes the field checks of LEASE-CONFIG (R157 check 3). -/
def readLease (period : Nat) (fallback : Byte) : Option (Nat × Fallback) :=
  match Fallback.ofCode fallback with
  | some f => if period ≤ 600 then some (period, f) else none
  | none => none

/-- The claim of LINE-DRIVE, if its fields are in range and fit together (R80 check 2). -/
def readDrive (lines : W16) (action : Byte) (width : Nat) : Option Claim :=
  if lines = 0 then none
  else match action.toNat with
    | 0 => if width = 0 then some (.toLevel .high) else none
    | 1 => if width = 0 then some (.toLevel .low) else none
    | 2 => if width = 0 then some .toggle else none
    | 3 => if width = 0 then none else some (.pulse width)
    | _ => none

/-! ## Records of replies and notices -/

/-- The action record, 32 bytes (10.2). -/
def Entry.record (e : Entry) : List Byte :=
  u16 e.handle ++ u16 e.label.toNat ++ instantBytes e.due ++ u8 e.kind.code ++
  u8 (entryFlags e.anchor e.late e.notify e.standing e.rep.isSome e.guard.isSome) ++ u16 e.lines.toNat ++ u16 e.width ++
  u32 ((e.rep.map (·.period)).getD 0) ++ u16 e.remaining ++ u8 ((e.guard.map fun g => g.line.val + 1).getD 0) ++
  u8 ((e.guard.map fun g => g.level.code).getD 0) ++ u8 e.origin.code ++ u16 e.suppressed ++ padding 5

/-- The capture record, 16 bytes (10.2). -/
def CapRecord.bytes (r : CapRecord) : List Byte :=
  u32 r.serial.toNat ++ u8 (r.line.val + 1) ++ u8 r.edge.code ++ instantBytes r.instant ++ u16 r.generation.toNat ++
  u8 r.validity.code ++ padding 1

/-- The line status record, 12 bytes, with the raw level given (R85, 10.2). -/
def Line.status (l : Line) (raw : Level) : List Byte :=
  let commanded := (l.output.map (·.commanded)).getD .low
  let pulse := l.output.bind (·.pulse)
  l.config.record.bytes ++
  u8 (levelByte commanded pulse.isSome ((pulse.map (·.rest)).getD .low) raw ((l.input.map (·.accepted)).getD raw)) ++
  u16 ((pulse.map (·.remainder)).getD 0) ++ u8 ((l.input.map (·.runCount)).getD 0) ++ u16 l.glitches

/-- The trigger record, 28 bytes; an absent trigger's fields are 0 (10.2). -/
def triggerRecord (t : TrigNo) : Option Trigger → List Byte
  | none => u8 (t.val + 1) ++ padding 27
  | some x =>
    u8 (t.val + 1) ++ u8 1 ++ u8 (x.defn.source.val + 1) ++ u8 x.defn.edge.code ++ u32 x.defn.delay ++ u16 x.defn.holdoff ++
    u8 x.armCount ++ u8 x.defn.template.kind.code ++ u16 x.defn.template.lines.toNat ++ u16 x.defn.template.width ++
    u8 x.defn.template.late.code ++ flag x.defn.template.notify ++ u8 x.state.code ++ padding 1 ++ u16 x.remainder ++
    u16 x.overruns ++ u32 x.fired.toNat

/-- The history sample, 8 bytes (10.2). -/
def Sample.bytes (x : Sample) : List Byte := u32 x.sec ++ s16 x.offset ++ u8 x.outcome.code ++ padding 1

/-- The six configuration bytes of the discipline (10.3, 10.6). -/
def RefConfig.bytes (c : RefConfig) : List Byte :=
  u8 c.mode.code ++ u8 c.edge.code ++ u16 c.window ++ u8 c.limit ++ u8 c.timeout

/-- The notice code (10.4). -/
def Notice.code : Notice → Nat
  | .started .. => 0x01
  | .noticesLost _ => 0x02
  | .postedFailed .. => 0x03
  | .timeState .. => 0x10
  | .timeStep .. => 0x11
  | .slewDone .. => 0x12
  | .actionDone _ => 0x20
  | .capturePending .. => 0x40
  | .triggerOverrun .. => 0x49
  | .triggerSpent .. => 0x4A
  | .refLost .. => 0x50
  | .profileDone _ => 0x60
  | .leaseExpired .. => 0x70

/-- The notice body (10.4). -/
def Notice.body : Notice → List Byte
  | .started cause arate autoload present => u8 cause.code ++ flag arate ++ flag autoload ++ flag present
  | .noticesLost lost => u16 lost
  | .postedFailed seq code status expected => [seq, code] ++ u8 status.code ++ [expected]
  | .timeState old new cause instant gen =>
    u8 old.code ++ u8 new.code ++ u8 cause.code ++ padding 1 ++ instantBytes instant ++ u16 gen.toNat
  | .timeStep cause old new gen => u8 cause.code ++ padding 1 ++ instantBytes old ++ instantBytes new ++ u16 gen.toNat
  | .slewDone instant gen => instantBytes instant ++ u16 gen.toNat
  | .actionDone b =>
    u16 b.handle ++ u16 b.label.toNat ++ u8 b.outcome.code ++ flag b.final ++ instantBytes b.due ++ u32 b.lateness ++
    u32 b.consumed ++ u16 b.remaining ++ u16 b.generation.toNat
  | .capturePending count lost last => u16 count ++ u16 lost ++ u32 last.toNat
  | .triggerOverrun id overruns onset gen =>
    u8 (id.val + 1) ++ padding 1 ++ u16 overruns ++ instantBytes onset ++ u16 gen.toNat
  | .triggerSpent id fired => u8 (id.val + 1) ++ padding 3 ++ u32 fired.toNat
  | .refLost line timeout validity sec =>
    u8 ((line.map fun n => n.val + 1).getD 0) ++ u8 timeout ++ u8 validity.code ++ padding 1 ++ u32 sec
  | .profileDone b =>
    u8 b.op.code ++ u8 b.outcome.code ++ flag b.fallback ++ u8 (causeCode b.cause) ++ u8 (slotCode b.slot) ++ u8 b.inserted ++
    u8 b.dropped ++ padding 1 ++ u32 b.generation
  | .leaseExpired period fallback hold instant gen =>
    u16 period ++ u8 fallback.code ++ hold.byte ++ instantBytes instant ++ u16 gen.toNat

end Sys2Proof.Machine
end

