-- ==== Sys2Proof/Machine/Memory.lean ====
section
/-! DEFINITION. The serial flash as a memory: two slots of one 4 KiB sector each (R131), read, written, erased, and cut short.
The cells are kept in one canonical form: addresses strictly rising, and no cell at the erased value. -/

namespace Sys2Proof.Machine

/-- The bytes of a slot (R131). -/
abbrev slotSize : Nat := 4096

/-- What an unlisted address reads as: an erased byte (R129, R133). DEDUCED, log entry 23, unsafe. -/
def erased : Byte := 0xFF

/-- The first address of a slot (R131). -/
def Slot.base : Slot → Nat
  | .a => 0
  | .b => slotSize

/-- The canonical form from address `lo` on. -/
def Memory.wfFrom : Nat → List Host.Cell → Bool
  | _, [] => true
  | lo, (a, b) :: m => decide (lo ≤ a) && b != erased && Memory.wfFrom (a + 1) m

/-- The canonical form. -/
def Memory.wf (m : List Host.Cell) : Bool := Memory.wfFrom 0 m

/-- The byte at an address. -/
def Memory.read : List Host.Cell → Nat → Byte
  | [], _ => erased
  | (a, b) :: m, x => if a = x then b else Memory.read m x

/-- A byte written at an address; writing the erased value removes the cell. -/
def Memory.write : List Host.Cell → Nat → Byte → List Host.Cell
  | [], x, b => if b = erased then [] else [(x, b)]
  | (a, c) :: m, x, b =>
    if x < a then (if b = erased then (a, c) :: m else (x, b) :: (a, c) :: m)
    else if x = a then (if b = erased then m else (x, b) :: m)
    else (a, c) :: Memory.write m x b

/-- Bytes written from an address on. -/
def Memory.writeAll : List Host.Cell → Nat → List Byte → List Host.Cell
  | m, _, [] => m
  | m, x, b :: bs => Memory.writeAll (Memory.write m x b) (x + 1) bs

/-- The address lies in the 4 KiB sector that begins at `a`. -/
def inSector (a x : Nat) : Bool := decide (a ≤ x) && decide (x < a + slotSize)

/-- A sector erase sets every byte of the sector at `a` to 0xFF (R129). -/
def Memory.eraseSector (m : List Host.Cell) (a : Nat) : List Host.Cell := m.filter fun c => !inSector a c.1

/-- The address lies in a slot. -/
def Slot.holds (slot : Slot) (x : Nat) : Bool := inSector slot.base x

/-- The erase of a slot, which is one sector (R129, R131). -/
def Memory.erase (m : List Host.Cell) (slot : Slot) : List Host.Cell := Memory.eraseSector m slot.base

/-- A program cut short: each byte has its new value or still the old one (R144, R149; log entry 3). -/
def Memory.writeCut (draw : Nat) : List Host.Cell → Nat → List Byte → List Host.Cell
  | m, _, [] => m
  | m, x, b :: bs =>
    Memory.writeCut draw (if Config.flashByteDone draw x then Memory.write m x b else m) (x + 1) bs

/-- A sector erase cut short: each byte is erased or still holds its old value (R144, R149; log entry 3). -/
def Memory.eraseCut (draw : Nat) (m : List Host.Cell) (slot : Slot) : List Host.Cell :=
  m.filter fun c => !(slot.holds c.1 && Config.flashByteDone draw c.1)

/-- The bytes from an address on. -/
def Memory.readAll (m : List Host.Cell) (x n : Nat) : List Byte := (List.range n).map fun i => Memory.read m (x + i)

end Sys2Proof.Machine
end

