-- ==== Sys2Proof/Machine/Spi.lean ====
section
/-! DEFINITION. The SPI port of the serial flash: the commands that the Profile Store sends, their bytes, what the flash answers,
what they do to the cells, and the levels of the four pins in mode 0 (R129). -/

namespace Sys2Proof.Machine

/-- A command on the SPI port, one NCS low period (R129). -/
inductive SpiCommand where
  | readId
  | read (address count : Nat)
  | writeEnable
  | sectorErase (address : Nat)
  | pageProgram (address : Nat) (data : List Byte)
  | readStatus
  deriving DecidableEq, Repr

/-- An address as three bytes, most significant byte first (R129). -/
def addressBytes (a : Nat) : List Byte := [BitVec.ofNat 8 (a / 65536), BitVec.ofNat 8 (a / 256), BitVec.ofNat 8 a]

/-- The bytes that the Profile Store sends: the command byte, any address, then data (R129). -/
def SpiCommand.bytes : SpiCommand → List Byte
  | .readId => [0x9F]
  | .read a _ => 0x03 :: addressBytes a
  | .writeEnable => [0x06]
  | .sectorErase a => 0x20 :: addressBytes a
  | .pageProgram a bs => 0x02 :: (addressBytes a ++ bs)
  | .readStatus => [0x05]

/-- A byte as it goes over the port, most significant bit first (R129). -/
def spiBits (b : Byte) : List Level := (List.range 8).map fun i => Level.ofBool (b.getLsbD (7 - i))

/-- The byte that eight bits give, most significant bit first (R129). -/
def spiByte (ls : List Level) : Byte := ls.foldl (fun b l => 2 * b + (if l = .high then 1 else 0)) 0

/-- The bits on MOSI that carry a command, in their order (R129). -/
def SpiCommand.mosi (c : SpiCommand) : List Level := (c.bytes.map spiBits).flatten

/-- What a command leaves of the cells (R129). -/
def SpiCommand.effect (m : List Host.Cell) : SpiCommand → List Host.Cell
  | .sectorErase a => Memory.eraseSector m a
  | .pageProgram a bs => Memory.writeAll m a bs
  | .readId | .read .. | .writeEnable | .readStatus => m

/-- The cells that a command brings in (R129). -/
def SpiCommand.cells (m : List Host.Cell) : SpiCommand → List Byte
  | .read a n => Memory.readAll m a n
  | .readId | .writeEnable | .sectorErase _ | .pageProgram .. | .readStatus => []

/-- The status byte: bit 0 set means that the flash is busy; `others` gives the bits that the manual does not name (R129). -/
def statusByte (others : Byte) (busy : Bool) : Byte := (others &&& 0xFE) ||| (if busy then 0x01 else 0x00)

/-- What the flash returns after the bytes of a command: the manufacturer byte, the data read, or the status byte (R129). Of the
identification the one byte that the Profile Store looks at is shown: DESIGN CHOICE, log entry 30, unsafe. -/
def SpiCommand.answer (f : Flash) (status : Byte) (c : SpiCommand) : List Byte :=
  match c with
  | .readId => [f.maker]
  | .readStatus => [status]
  | .read .. | .writeEnable | .sectorErase _ | .pageProgram .. => c.cells f.cells

/-! ## The pins in mode 0 (R129) -/

/-- The levels of the four pins at one moment; `none` where the manual gives a data pin no level. -/
structure SpiPins where
  ncs  : Level
  sck  : Level
  mosi : Option Level
  miso : Option Level
  deriving DecidableEq, Repr

/-- The port between commands: NCS high, SCK at its rest level, low (R129). -/
def spiRest : SpiPins := ⟨.high, .low, none, none⟩

/-- One bit within an NCS low period: SCK low, where the data are driven, then SCK high, at whose rising edge they are sampled
(R129). The first bit of a command finds SCK low with no falling edge before it and is driven as NCS falls: DEDUCED, log
entry 30. -/
def spiBit (mosi miso : Option Level) : List SpiPins := [⟨.low, .low, mosi, miso⟩, ⟨.low, .high, mosi, miso⟩]

/-- One command on the pins, one NCS low period: its bytes on MOSI, then the answer on MISO, and SCK back at rest before NCS rises
(R129). What MISO shows under the command's bytes, and MOSI under the answer, is not stated. -/
def SpiCommand.pins (answer : List Byte) (c : SpiCommand) : List SpiPins :=
  spiRest :: ((c.mosi.map fun l => spiBit (some l) none).flatten ++
    (((answer.map spiBits).flatten).map fun l => spiBit none (some l)).flatten ++ [⟨.low, .low, none, none⟩, spiRest])

/-- What is sampled: the pins at each rising edge of SCK (R129). -/
def risingEdges : List SpiPins → List SpiPins
  | [] | [_] => []
  | p :: q :: rest => if p.sck = .low ∧ q.sck = .high then q :: risingEdges (q :: rest) else risingEdges (q :: rest)

/-- What the Profile Store sends for one erase or program: write enable, the command, and read status, which it repeats until bit 0
reads clear (R129). How often it polls depends on the flash's time alone. -/
def writeCycle (c : SpiCommand) : List SpiCommand := [.writeEnable, c, .readStatus]

end Sys2Proof.Machine
end

