-- ==== Sys2Proof/Machine/ProfileImage.lean ====
section
/-! DEFINITION. The profile slot: the snapshot, the slot image a save writes, and the validation that reads it back (R131 to
R134, R142, R183). -/

namespace Sys2Proof.Machine

/-! ## The body, written -/

/-- The configuration block, 16 bytes (R183). -/
def Profile.configBytes (p : Profile) : List Byte :=
  u16 p.tolerance ++ u8 p.policy.code ++ padding 1 ++ u16 p.mark ++ p.ref.bytes ++ u16 p.period ++ u8 p.fallback.code ++
  padding 1

/-- A stored trigger record, 20 bytes; an absent trigger's is all 0 (R183). -/
def storedTriggerBytes : Option StoredTrigger → List Byte
  | none => padding 20
  | some t =>
    u8 1 ++ u8 (t.defn.source.val + 1) ++ u8 t.defn.edge.code ++ u8 t.armCount ++ u32 t.defn.delay ++ u16 t.defn.holdoff ++
    u8 t.defn.template.kind.code ++ flag t.armed ++ u16 t.defn.template.lines.toNat ++ u16 t.defn.template.width ++
    u8 t.defn.template.late.code ++ flag t.defn.template.notify ++ padding 2

/-- A stored standing entry, 24 bytes (R183). -/
def StoredEntry.bytes (e : StoredEntry) : List Byte :=
  u16 e.label.toNat ++ instantBytes e.due ++ u8 e.kind.code ++
  u8 (entryFlags .calendar e.late e.notify true e.period.isSome e.guard.isSome) ++ u16 e.lines.toNat ++ u16 e.width ++
  u32 (e.period.getD 0) ++ u16 e.remaining ++ u8 ((e.guard.map fun g => g.line.val + 1).getD 0) ++
  u8 ((e.guard.map fun g => g.level.code).getD 0) ++ padding 2

/-- The body (R132, R183). -/
def Profile.body (p : Profile) : List Byte :=
  p.configBytes ++ (p.lines.toList.map fun c => c.record.bytes).flatten ++ (p.triggers.toList.map storedTriggerBytes).flatten ++
  u8 p.entries.length ++ padding 1 ++ (p.entries.map StoredEntry.bytes).flatten

/-- The header, 32 bytes (R131, R183). -/
def slotHeader (generation : Nat) (body : List Byte) : List Byte :=
  [0x4F, 0x51, 0x50, 0x46] ++ u8 1 ++ padding 3 ++ u32 generation ++ u16 body.length ++ padding 2 ++ u32 (crc32 body) ++
  padding 12

/-- The slot image: header, then body (R142, R183). -/
def slotImage (generation : Nat) (p : Profile) : List Byte := slotHeader generation p.body ++ p.body

/-! ## The snapshot -/

/-- A standing entry as a save stores it (R132, R142). -/
def Entry.stored (e : Entry) : StoredEntry :=
  { label := e.label, due := e.due, kind := e.kind, lines := e.lines, width := e.width, period := e.rep.map (·.period),
    remaining := e.remaining, late := e.late, guard := e.guard, notify := e.notify }

/-- The snapshot: the content of the body, gathered from the blocks (R142). -/
def snapshot (s : State) : Profile :=
  { tolerance := s.sch.tolerance, policy := s.cap.policy, mark := s.cap.mark, ref := s.rds.config, period := s.lsm.period,
    fallback := s.lsm.fallback, lines := s.lin.map (·.config), triggers := s.trg.map (fun t => t.map Trigger.stored),
    entries := (s.sch.entries.filter (·.standing)).map Entry.stored }

/-! ## The body, read back -/

/-- A stored trigger record read back (R133): an absent one is all 0; a present one passes the field checks of TRG-SET. -/
def readStoredTrigger (p : List Byte) : Option (Option StoredTrigger) :=
  match flagAt p 0 with
  | none => none
  | some false => if (p.take 20).all (· == 0) then some none else none
  | some true =>
    match readTrigDef (byteAt p 1) (byteAt p 2) (u32At p 4) (u16At p 8) (byteAt p 10) (w16At p 12) (u16At p 14) (byteAt p 16)
            ((flagAt p 17).getD false), flagAt p 11, flagAt p 17 with
    | some d, some armed, some _ =>
      if byteAt p 18 = 0 ∧ byteAt p 19 = 0 then some (some { defn := d, armCount := (byteAt p 3).toNat, armed := armed })
      else none
    | _, _, _ => none

/-- A stored standing entry read back (R133): the field checks of ACT-ADD, with the CALENDAR anchor and the standing flag. -/
def readStoredEntry (p : List Byte) : Option StoredEntry :=
  let flags := byteAt p 9
  match Kind.ofCode (byteAt p 8), readGuard (flags.getLsbD 5) (byteAt p 20) (byteAt p 21),
        readRep (flags.getLsbD 4) (u32At p 14) (u16At p 18), readDue .calendar (u32At p 2) (u16At p 6) 0 with
  | some kind, some guard, some rep, some due =>
    if kind.fits (w16At p 10) (u16At p 12) && !flags.getLsbD 0 && flags.getLsbD 3 && !flags.getLsbD 6 && !flags.getLsbD 7 &&
       byteAt p 22 == 0 && byteAt p 23 == 0 then
      some { label := w16At p 0, due := due, kind := kind, lines := w16At p 10, width := u16At p 12,
             period := rep.map (·.period), remaining := u16At p 18, late := if flags.getLsbD 1 then .skip else .run,
             guard := guard, notify := flags.getLsbD 2 }
    else none
  | _, _, _, _ => none

/-- All of a list, or none. -/
def allSome {α : Type} : List (Option α) → Option (List α)
  | [] => some []
  | none :: _ => none
  | some x :: xs => (allSome xs).map (x :: ·)

/-- Sixteen items as a vector. -/
def toVector {α : Type} (n : Nat) (xs : List α) : Option (Vector α n) :=
  if h : xs.length = n then some ⟨xs.toArray, by simp [h]⟩ else none

/-- The roles of a stored profile, judged against its own line records (R133). -/
def Profile.rolesFit (p : Profile) : Bool :=
  let output := fun (n : LineNo) => (p.lines[n]).role.isOutput
  let input := fun (n : LineNo) => (p.lines[n]).role == .input
  decide ((p.lines.toList.filter fun c => c.role == .reference).length ≤ 1) &&
  p.entries.all (fun e => everyLine e.lines output && (match e.guard with
    | none => true
    | some g => input g.line)) &&
  p.triggers.toList.all (fun t => match t with
    | none => true
    | some x => everyLine x.defn.template.lines output && input x.defn.source)

/-- The body read back: none if a value, a role, a count or a padding is not as R133 asks. -/
def readBody (b : List Byte) : Option Profile :=
  let n := (byteAt b 272).toNat
  if b.length = 274 + 24 * n ∧ n ≤ Config.standingMax ∧ byteAt b 3 = 0 ∧ byteAt b 15 = 0 ∧ byteAt b 273 = 0 ∧
     u16At b 0 ≤ 1023 then
    match readCapConfig (byteAt b 2) (u16At b 4), readRefConfig (byteAt b 6) (byteAt b 7) (u16At b 8) (byteAt b 10) (byteAt b 11),
          readLease (u16At b 12) (byteAt b 14),
          (allSome ((List.range 16).map fun i => LineRecord.config (LineRecord.ofBytes (b.drop (16 + 6 * i))))).bind (toVector 16),
          (allSome ((List.range 8).map fun i => readStoredTrigger (b.drop (112 + 20 * i)))).bind (toVector 8),
          allSome ((List.range n).map fun i => readStoredEntry (b.drop (274 + 24 * i))) with
    | some cap, some ref, some lease, some lines, some triggers, some entries =>
      let p : Profile := { tolerance := u16At b 0, policy := cap.1, mark := cap.2, ref := ref, period := lease.1,
                           fallback := lease.2, lines := lines, triggers := triggers, entries := entries }
      if p.rolesFit then some p else none
    | _, _, _, _, _, _ => none
  else none

/-! ## Validation and ranking -/

/-- The header of a slot has the right marker and version (R133, R134). -/
def headerRight (h : List Byte) : Bool := h.take 5 == [0x4F, 0x51, 0x50, 0x46, 1]

/-- The read command that brings in the header of a slot (R129, R131). -/
def headRead (slot : Slot) : SpiCommand := .read slot.base 32

/-- The header bytes of a slot, as read (R129). -/
def slotHead (m : List Host.Cell) (slot : Slot) : List Byte := (headRead slot).cells m

/-- The body length that a header gives (R131, R183). -/
def headLength (h : List Byte) : Nat := u16At h 12

/-- The read command that brings in the body of a slot, as long as its header says (R129, R131). -/
def bodyRead (slot : Slot) (h : List Byte) : SpiCommand := .read (slot.base + 32) (headLength h)

/-- The header is one that validation goes on from: marker, version, generation and body length are in range (R133). -/
def headerInRange (h : List Byte) : Bool :=
  headerRight h && decide (1 ≤ u32At h 8) && decide (u32At h 8 ≤ 0xFFFFFFFE) && decide (headLength h ≤ 4064)

/-- The reads of the validation of a slot: the header, and the body where the header is in range (R129, R133). One read of each,
and none of the body of a slot that its header rules out: DESIGN CHOICE, log entry 30, unsafe. -/
def validationReads (m : List Host.Cell) (slot : Slot) : List SpiCommand :=
  let h := slotHead m slot
  headRead slot :: (if headerInRange h then [bodyRead slot h] else [])

/-- A slot validated: its generation and content if it is valid (R133). -/
def validateSlot (m : List Host.Cell) (slot : Slot) : Option (Nat × Profile) :=
  let h := slotHead m slot
  if headerInRange h then
    let body := (bodyRead slot h).cells m
    if crc32 body = u32At h 16 then (readBody body).map fun p => (u32At h 8, p) else none
  else none

/-- The descriptor that a validation records (R134). -/
def describe : Option (Nat × Profile) → Descriptor
  | none => Descriptor.invalid
  | some x => { valid := true, generation := x.1 }

/-- The slot that a load ranks first, by the headers as read: a right header above a wrong one, then the higher generation,
then slot A (R134; for two wrong headers DESIGN CHOICE, log entry 17, safe). -/
def rankedFirst (m : List Host.Cell) : Slot :=
  let ha := slotHead m .a
  let hb := slotHead m .b
  if headerRight hb && (!headerRight ha || decide (u32At ha 8 < u32At hb 8)) then .b else .a

/-- The other slot. -/
def Slot.other : Slot → Slot
  | .a => .b
  | .b => .a

/-- The current slot, from the descriptors (R134). -/
def currentSlot (a b : Descriptor) : Option Slot :=
  if a.valid then (if b.valid && decide (a.generation < b.generation) then some .b else some .a)
  else if b.valid then some .b else none

/-- The current generation: 0 where there is no current slot (R134). -/
def currentGeneration (a b : Descriptor) : Nat :=
  match currentSlot a b with
  | none => 0
  | some .a => a.generation
  | some .b => b.generation

end Sys2Proof.Machine
end

