-- ==== Sys2Proof/Machine/Profile.lean ====
section
/-! DEFINITION. The Profile Store's work: the flash command in hand, the stages of a save, an erase and a load, and
PROFILE-DONE (sections 7.4 to 7.8). -/

namespace Sys2Proof.Machine

/-! ## The flash command in hand -/

/-- A flash command that changes the flash (R129). -/
inductive FlashCommand where
  | erase (slot : Slot)
  | program (address : Nat) (bytes : List Byte)
  deriving DecidableEq, Repr

/-- The bytes of an image that fall in a page (R143). -/
def imagePage (bytes : List Byte) (page : Nat) : List Byte := (bytes.drop (256 * page)).take 256

/-- The pages that hold bytes of an image, page 0 last (R143). -/
def programOrder (bytes : List Byte) : List Nat := (List.range ((bytes.length + 255) / 256)).tail ++ [0]

/-- The bytes of the snapshot image; none without an image. -/
def Prs.imageBytes (p : Prs) : List Byte := (p.image.map (·.bytes)).getD []

/-- The first address of the target slot. -/
def Prs.targetBase (p : Prs) : Nat := (p.target.map Slot.base).getD 0

/-- The flash command whose end the Profile Store awaits (R143 to R145). -/
def Prs.command (p : Prs) : Option FlashCommand :=
  match p.job with
  | .saveErase | .saveRecover _ => p.target.map .erase
  | .saveProgram page _ => some (.program (p.targetBase + 256 * page) (imagePage p.imageBytes page))
  | .eraseA _ => some (.erase .a)
  | .eraseB => some (.erase .b)
  | .idle | .scanning | .loading .. | .saveVerify => none

/-- What goes over the SPI port for a flash command (R129, R143, R145). -/
def FlashCommand.transfers : FlashCommand → List SpiCommand
  | .erase slot => writeCycle (.sectorErase slot.base)
  | .program a bs => writeCycle (.pageProgram a bs)

/-- A flash command carried out whole (R129). -/
def FlashCommand.run (m : List Host.Cell) (c : FlashCommand) : List Host.Cell := c.transfers.foldl SpiCommand.effect m

/-- The limit of the wait for the busy bit, in milliseconds of the crystal (R129). FLASH_TIMEOUT says that it has passed; its
measure against other ticks is left out (log entry 25). -/
def FlashCommand.limit : FlashCommand → Nat
  | .erase _ => 400
  | .program _ _ => 8

/-- A flash command cut short: every byte is old or new (log entry 3). -/
def FlashCommand.runCut (draw : Nat) (m : List Host.Cell) : FlashCommand → List Host.Cell
  | .erase slot => Memory.eraseCut draw m slot
  | .program a bs => Memory.writeCut draw m a bs

/-- The reads of a validation in hand (R129, R135, R137). A start-up reads both slots; a requested load reads both headers to rank
the slots, and the body of the other slot only where the slot ranked first is invalid. The number and the order of the reads:
DESIGN CHOICE, log entry 30, unsafe. -/
def loadReads (startUp : Bool) (m : List Host.Cell) : List SpiCommand :=
  let first := rankedFirst m
  [headRead .a, headRead .b] ++
    (if startUp || (validateSlot m first).isNone then
      (validationReads m first).tail ++ (validationReads m first.other).tail
     else (validationReads m first).tail)

/-- What the Profile Store sends over the SPI port in the stage in hand (R129, R133, R143 to R145). The read identification of a
main reset goes out within the reset. -/
def State.port (s : State) : List SpiCommand :=
  match s.prs.job with
  | .idle | .loading _ (.applying ..) => []
  | .scanning | .loading true .validating => loadReads true s.flash.cells
  | .loading false .validating => loadReads false s.flash.cells
  | .saveVerify => [.read s.prs.targetBase s.prs.imageBytes.length]
  | .saveErase | .saveProgram .. | .saveRecover _ | .eraseA _ | .eraseB => (s.prs.command.map FlashCommand.transfers).getD []

/-- The flash is busy while an erase or a program is in hand (R129). -/
def State.flashBusy (s : State) : Bool := s.prs.command.isSome

/-- The status byte that read status returns: bit 0 says whether the flash is busy, the other bits are free (R129; log
entry 32). -/
def State.flashStatus (s : State) : Byte := statusByte (Config.flashStatusBits s.draws) s.flashBusy

/-- A command on the pins, with what the flash answers to it in this state (R129). -/
def State.spi (s : State) (c : SpiCommand) : List SpiPins := c.pins (c.answer s.flash s.flashStatus)

/-- The pins of the SPI port through the stage in hand: the commands of `State.port` one after another, and the port at rest where
there is none (R129). -/
def State.portPins (s : State) : List SpiPins := spiRest :: (s.port.map s.spi).flatten

/-- The state with other flash cells. -/
def State.setCells (s : State) (m : List Host.Cell) : State := s.setFlash { s.flash with cells := m }

/-- The command in hand has been carried out. -/
def finishCommand (s : State) : State :=
  match s.prs.command with
  | none => s
  | some c => s.setCells (c.run s.flash.cells)

/-- The target reads back as the image (R143). -/
def Prs.verified (p : Prs) (m : List Host.Cell) : Bool :=
  (SpiCommand.read p.targetBase p.imageBytes.length).cells m == p.imageBytes

/-- The slot that the operation in hand writes or erases (R141, R145). -/
def Prs.slotInHand (p : Prs) : Option Slot :=
  match p.job with
  | .eraseA _ => some .a
  | .eraseB => some .b
  | .saveErase | .saveProgram .. | .saveVerify | .saveRecover _ => p.target
  | .idle | .scanning | .loading .. => none

/-- What a loss of supply may leave of the slot in hand, `m` before it and `r` after it (R149): a slot found invalid; in an erase
ahead of the programs, or one asked for by PROF-ERASE, also a slot judged by its previous contents, with its old generation; from
the programs on also a target that holds the full image. For PROF-ERASE: DEDUCED, log entry 3. -/
def Prs.lossLeaves (p : Prs) (m r : List Host.Cell) : Bool :=
  match p.slotInHand with
  | none => true
  | some slot => (validateSlot r slot).isNone || (match p.job with
    | .saveErase | .eraseA _ | .eraseB => decide (validateSlot r slot = validateSlot m slot)
    | .saveProgram .. | .saveRecover _ => p.verified r
    | .idle | .scanning | .loading .. | .saveVerify => true)

/-- The cells after a loss of supply in the midst of a flash command: each byte of its reach old or new, as far as R149 allows it,
and otherwise every byte new, as if the command had ended just before the loss (R149; log entry 3). -/
def Prs.lossCells (p : Prs) (draw : Nat) (m : List Host.Cell) (c : FlashCommand) : List Host.Cell :=
  if p.lossLeaves m (c.runCut draw m) then c.runCut draw m else c.run m

/-- The supply is lost with a command in hand (R149). -/
def lossCommand (s : State) : State :=
  match s.prs.command with
  | none => s
  | some c => (s.setCells (s.prs.lossCells s.draws s.flash.cells c)).drawn

/-- The command in hand has run into its time limit (R144; log entry 3). -/
def cutCommand (s : State) : State :=
  match s.prs.command with
  | none => s
  | some c => (s.setCells (c.runCut s.draws s.flash.cells)).drawn

/-- A main reset with the supply present: a command already sent completes, one not yet sent does not happen (R149; log
entry 2). -/
def abandonCommand (s : State) : State :=
  match s.prs.command with
  | none => s
  | some c => (if Config.flashCommandSent s.draws then s.setCells (c.run s.flash.cells) else s).drawn

/-! ## Ends -/

/-- The state with another job. -/
def State.setJob (s : State) (j : PrsJob) : State := s.setPrs { s.prs with job := j }

/-- The state with the descriptor of a slot replaced. -/
def State.setDesc (s : State) (slot : Slot) (d : Descriptor) : State :=
  match slot with
  | .a => s.setPrs { s.prs with descA := d }
  | .b => s.setPrs { s.prs with descB := d }

/-- A save or an erase ends: IDLE, no target, no image, and PROFILE-DONE (R143 to R145). -/
def endOperation (body : ProfileDone) (s : State) : State :=
  post (.profileDone body) (s.setPrs { s.prs with job := .idle, target := none, image := none })

/-- PROFILE-DONE with FAILED (R148). -/
def ProfileDone.failed (op : ProfileOp) (cause : FailCause) (slot : Option Slot) : ProfileDone :=
  { op := op, outcome := .failed, fallback := false, cause := some cause, slot := slot, generation := 0, inserted := 0,
    dropped := 0 }

/-- PROFILE-DONE that names no slot (R148). -/
def ProfileDone.plain (op : ProfileOp) (outcome : ProfileOutcome) : ProfileDone :=
  { op := op, outcome := outcome, fallback := false, cause := none, slot := none, generation := 0, inserted := 0, dropped := 0 }

/-- A failed save ends (R144). -/
def failSave (cause : FailCause) (s : State) : State := endOperation (.failed .save cause s.prs.target) s

/-- A save succeeds: the target is valid with the new generation (R143). -/
def succeedSave (s : State) : State :=
  match s.prs.target with
  | none => s
  | some slot =>
    let gen := (s.prs.image.map (·.generation)).getD 0
    endOperation { op := .save, outcome := match slot with
                                           | .a => .savedA
                                           | .b => .savedB,
                   fallback := false, cause := none, slot := some slot, generation := gen, inserted := 0, dropped := 0 }
      (s.setDesc slot { valid := true, generation := gen })

/-! ## The stages of a save and an erase -/

/-- The sector erase of the save target finishes (R143). -/
def saveErased (s : State) : State :=
  match s.prs.job with
  | .saveErase =>
    match programOrder s.prs.imageBytes with
    | [] => s
    | page :: rest => (finishCommand s).setJob (.saveProgram page rest)
  | _ => s

/-- Bytes of a page that the flash holds otherwise than it was sent them. DESIGN CHOICE, log entry 16, safe. -/
def applyFlaws (base : Nat) : List (Fin 256 × Byte) → List Host.Cell → List Host.Cell
  | [], m => m
  | (i, b) :: fs, m => applyFlaws base fs (Memory.write m (base + i.val) b)

/-- A page program finishes: the next page follows, or the verify (R143). `flaws` are the bytes that came out wrong. -/
def pageProgrammed (flaws : List (Fin 256 × Byte)) (s : State) : State :=
  match s.prs.job with
  | .saveProgram page rest =>
    let s1 := finishCommand s
    let s2 := s1.setCells (applyFlaws (s.prs.targetBase + 256 * page) flaws s1.flash.cells)
    match rest with
    | [] => s2.setJob .saveVerify
    | q :: qs => s2.setJob (.saveProgram q qs)
  | _ => s

/-- The read-back compare finishes (R143, R144). -/
def saveVerified (s : State) : State :=
  match s.prs.job with
  | .saveVerify => if s.prs.verified s.flash.cells then succeedSave s else s.setJob (.saveRecover .verify)
  | _ => s

/-- The erase after a failure finishes, and the save ends with the cause of the first failure (R144). -/
def recoveryErased (s : State) : State :=
  match s.prs.job with
  | .saveRecover cause => failSave cause (finishCommand s)
  | _ => s

/-- An erase of one slot by PROF-ERASE finishes (R145). -/
def slotErased (s : State) : State :=
  match s.prs.job with
  | .eraseA _ => let s1 := finishCommand s
                 s1.setPrs { s1.prs with job := .eraseB, target := some .b }
  | .eraseB => endOperation (.plain .erase .erased) (finishCommand s)
  | _ => s

/-- A wait for the busy bit passes its limit (R129, R144, R145). There is no wait outside an erase or a program.
The command is then over: DESIGN CHOICE, log entry 15, unsafe. -/
def flashTimedOut (s : State) : State :=
  match s.prs.job with
  | .saveErase => failSave .timeout (cutCommand s)
  | .saveProgram page _ =>
    if page = 0 then (cutCommand s).setJob (.saveRecover .timeout) else failSave .timeout (cutCommand s)
  | .saveRecover cause => failSave cause (cutCommand s)
  | .eraseA descB => endOperation (.failed .erase .timeout (some .a)) ((cutCommand s).setDesc .b descB)
  | .eraseB => endOperation (.failed .erase .timeout (some .b)) (cutCommand s)
  | .idle | .scanning | .loading .. | .saveVerify => s

/-! ## Loading -/

/-- A load ends: IDLE, LOAD removed with its pass, then PROFILE-DONE (R138 step 8). -/
def endLoad (body : ProfileDone) (s : State) : State :=
  post (.profileDone body) (removeReason .load (s.setJob .idle))

/-- The entry that a load inserts for a stored one (R139). -/
def StoredEntry.entry (e : StoredEntry) (due : Instant) (remaining : Nat) : Entry :=
  { handle := 0, label := e.label, due := due, anchor := .calendar, kind := e.kind, lines := e.lines, width := e.width,
    rep := e.period.map fun p => { period := p, count := e.remaining }, remaining := remaining, late := e.late,
    guard := e.guard, notify := e.notify, standing := true, origin := .profile, suppressed := 0, stamp := 0 }

/-- R139: a stored entry judged against the validity and the instant: the entry to insert, or none where it is dropped. -/
def StoredEntry.judge (e : StoredEntry) (validity : Validity) (now : Nat) : Option Entry :=
  if validity = .unset ∨ now < e.due.ticks then some (e.entry e.due e.remaining)
  else match e.period with
    | none => none
    | some p =>
      let k := periodsDue (now - e.due.ticks) p
      let due := e.due.ticks + k * p
      if Instant.top.ticks < due then none
      else if e.remaining = 0 then some (e.entry (Instant.ofTicks due) 0)
      else if k < e.remaining then some (e.entry (Instant.ofTicks due) (e.remaining - k))
      else none

/-- Every trigger is removed, with no notices (R111). -/
def dropTriggers (s : State) : State := s.setTrg (Vector.replicate 8 none)

/-- Every entry is removed; the counters stand (R138 step 2). -/
def dropEntries (s : State) : State := s.setSch { s.sch with entries := [] }

/-- The stored triggers are installed (R111). -/
def installTriggers (ts : Vector (Option StoredTrigger) 8) (s : State) : State :=
  s.setTrg (ts.map fun t => t.map Trigger.ofStored)

/-- One stage of R138, the insertion of entries apart. -/
def runStage (st : LoadStage) (s : State) : State :=
  match st with
  | .dropTriggers => dropTriggers s
  | .dropEntries => dropEntries s
  | .linesOff => allLinesOff s
  | .installLines cs => installLines cs s
  | .installTolerance t => s.setSch { s.sch with tolerance := t }
  | .installCapture policy mark => installCaptureConfig policy mark s
  | .installDiscipline c => installRefConfig c s
  | .installLease period fallback => installLease period fallback s
  | .insertEntry e =>
    match e.judge s.tmb.validity s.now with
    | none => s
    | some x => insertAndPass x s
  | .installTriggers ts => installTriggers ts s

/-- How many entries a stage inserts, and how many it drops (R148). -/
def LoadStage.counts (st : LoadStage) (s : State) : Nat × Nat :=
  match st with
  | .insertEntry e => if (e.judge s.tmb.validity s.now).isSome then (1, 0) else (0, 1)
  | _ => (0, 0)

/-- The stages of R138 for a stored profile, steps 1 to 7 in their order. -/
def Profile.stages (p : Profile) : List LoadStage :=
  [.dropTriggers, .dropEntries, .linesOff, .installLines p.lines, .installTolerance p.tolerance,
   .installCapture p.policy p.mark, .installDiscipline p.ref, .installLease p.period p.fallback] ++
  p.entries.map .insertEntry ++ [.installTriggers p.triggers]

/-- PROFILE-DONE at the end of a load that applied a slot (R148). -/
def ProfileDone.loaded (slot : Slot) (generation : Nat) (fallback : Bool) (inserted dropped : Nat) : ProfileDone :=
  { op := .load, outcome := match slot with
                            | .a => .loadedA
                            | .b => .loadedB,
    fallback := fallback, cause := none, slot := some slot, generation := generation, inserted := inserted,
    dropped := dropped }

/-- One step of an application: a stage, or the end of the load once no stage is left (R138). -/
def loadStep (s : State) : State :=
  match s.prs.job with
  | .loading su (.applying slot gen fb stages ins drop) =>
    match stages with
    | [] => endLoad (.loaded slot gen fb ins drop) s
    | st :: rest =>
      let c := st.counts s
      (runStage st s).setJob (.loading su (.applying slot gen fb rest (ins + c.1) (drop + c.2)))
  | _ => s

/-- As many steps of an application as the command lets fall together (R138). -/
def loadSteps : Nat → State → State
  | 0, s => s
  | k + 1, s => loadSteps k (loadStep s)

/-- A validated slot is about to be applied (R138). -/
def beginApply (su : Bool) (slot : Slot) (v : Nat × Profile) (fb : Bool) (s : State) : State :=
  s.setJob (.loading su (.applying slot v.1 fb v.2.stages 0 0))

/-- A slot is validated and its descriptor set (R134). -/
def recordSlot (slot : Slot) (s : State) : State := s.setDesc slot (describe (validateSlot s.flash.cells slot))

/-- The validation of a start-up load: both slots; the current one is applied, by fallback where the slot ranked first was
invalid (R135). -/
def startUpValidated (s : State) : State :=
  let m := s.flash.cells
  let s1 := recordSlot .b (recordSlot .a s)
  match currentSlot s1.prs.descA s1.prs.descB with
  | none => endLoad (.plain .load .noneValid) s1
  | some slot =>
    match validateSlot m slot with
    | none => s1
    | some v => beginApply true slot v (slot != rankedFirst m) s1

/-- The validation of a requested load: the slot ranked first, and the other one only if the first is invalid (R137). -/
def requestedValidated (s : State) : State :=
  let m := s.flash.cells
  let first := rankedFirst m
  let s1 := recordSlot first s
  match validateSlot m first with
  | some v => beginApply false first v false s1
  | none =>
    let s2 := recordSlot first.other s1
    match validateSlot m first.other with
    | some v => beginApply false first.other v true s2
    | none => endLoad (.plain .load .noneValid) s2

/-- The slot reads of a load are complete, or a further part of its application takes place (R135, R137, R138). -/
def loadValidated (stages : Nat) (s : State) : State :=
  match s.prs.job with
  | .loading true .validating => loadSteps stages (startUpValidated s)
  | .loading false .validating => loadSteps stages (requestedValidated s)
  | .loading _ (.applying ..) => loadSteps stages s
  | _ => s

/-- The validation of both slots with AUTOLOAD low ends (R135). -/
def scanned (s : State) : State :=
  match s.prs.job with
  | .scanning => post (.profileDone (.plain .load .skipped)) ((recordSlot .b (recordSlot .a s)).setJob .idle)
  | _ => s

end Sys2Proof.Machine
end

