-- ==== Sys2Proof/Machine/Reset.lean ====
section
/-! DEFINITION. The main reset and the start-up sequence: what every block becomes, and the notices of the new start (R7, R24,
R48, R67, R87, R98, R111, R127, R128, R130, R135, R149, R160, R176). -/

namespace Sys2Proof.Machine

/-- The manufacturer byte that the flash returns first to read identification shows a flash present (R129, R130). -/
def Flash.answers (f : Flash) : Bool := f.maker != 0x00 && f.maker != 0xFF

/-- What a main reset sends over the SPI port (R129, R130). -/
def resetPort : List SpiCommand := [.readId]

/-- The validity that a main reset leaves (R24). -/
def Validity.afterReset : Validity → Validity
  | .tracking => .holdover
  | .unset => .unset
  | .set => .set
  | .holdover => .holdover

/-- The Profile Store after a main reset; `job` is where the start-up sequence begins (R128, R135). -/
def Prs.fresh (present : Bool) (job : PrsJob) : Prs :=
  { present := present, job := job, descA := Descriptor.invalid, descB := Descriptor.invalid, target := none, image := none,
    locked := false }

/-- Where the start-up sequence begins (R135). -/
def startUpJob (present autoload : Bool) : PrsJob :=
  if autoload then .loading true .validating else if present then .scanning else .idle

/-- Every block as a main reset sets it, before STARTED is queued. The Time Base keeps the backup domain; an advance still owed
to it stays owed; the flash, the pins and the command queue are no part of the reset. -/
def resetBlocks (cause : StartCause) (s : State) : State :=
  let v := s.tmb.validity.afterReset
  let present := s.flash.answers
  { s with
    tmb := { s.tmb with validity := v, elapsed := 0 }
    sch := Sch.fresh { host := false, notime := v == .unset, lease := false, load := s.straps.autoload }
    lin := s.lin.map fun l => Line.fresh l.ext
    cap := Cap.fresh
    trg := Vector.replicate 8 none
    rds := Rds.fresh
    prs := Prs.fresh present (startUpJob present s.straps.autoload)
    lsm := Lsm.fresh
    lnk := Lnk.fresh s.straps.arate s.straps.autoload cause
    owed := s.owed.filter (· == .advance) }

/-- STARTED, the first notice of the new start (R176). -/
def postStarted (s : State) : State :=
  post (.started s.lnk.startCause s.lnk.arate s.lnk.autoload s.prs.present) s

/-- The TIME-STATE of a main reset that found TRACKING (R24). -/
def postResetState (old : Validity) (s : State) : State :=
  if old = .tracking then post (.timeState .tracking .holdover .mainReset s.tmb.instant s.tmb.generation) s else s

/-- The start-up sequence with the flash absent ends at once (R135). -/
def startUp (s : State) : State :=
  if s.prs.present then s
  else if s.lnk.autoload then endLoad (.plain .load .noFlash) s
  else post (.profileDone (.plain .load .skipped)) s

/-- A main reset with the supply present (R24, R149, R176). -/
def mainReset (cause : StartCause) (s : State) : State :=
  startUp (postResetState s.tmb.validity (postStarted (resetBlocks cause (abandonCommand s))))

/-- The pins as they stand at a reset. -/
def setPins (p : StartPins) (s : State) : State :=
  (s.setStraps ⟨p.arate, p.autoload⟩).setFlash { s.flash with maker := p.maker }

/-- A cold start: the backup domain at its cold values, then everything a main reset does (R7). -/
def coldStart (s : State) : State := mainReset .cold (s.setTmb Tmb.cold)

end Sys2Proof.Machine
end

