-- ==== Sys2Proof/Machine/RequestsTime.lean ====
section
/-! DEFINITION. What a block answers to a request, and the requests of the Time Base (R18 to R23). -/

namespace Sys2Proof.Machine

/-- The result of a request: its status, its data, and the state that the request leaves, its notices posted. -/
structure Answer where
  status : Status
  data   : List Byte
  state  : State
  deriving DecidableEq, Repr

/-- A refusal changes nothing and carries no data (R170). -/
def Answer.refuse (st : Status) (s : State) : Answer := { status := st, data := [], state := s }

/-- The request is carried out. -/
def Answer.ok (data : List Byte) (s : State) : Answer := { status := .ok, data := data, state := s }

/-- A lasting operation begins. -/
def Answer.accepted (s : State) : Answer := { status := .accepted, data := [], state := s }

/-- The data of TIME-READ (R18, 10.3). -/
def timeReadData (t : Tmb) : List Byte :=
  let c := civilOf t.instant.sec
  instantBytes t.instant ++ u16 c.year ++ u8 c.month ++ u8 c.day ++ u8 c.hour ++ u8 c.minute ++ u8 c.second ++
  u8 c.weekday ++ u16 t.instant.tick ++ u8 t.validity.code ++ u16 t.generation.toNat ++ s16 t.trim ++ s16 t.slew ++
  u32 t.elapsed.toNat

/-- TIME-READ (R18). -/
def answerTimeRead (s : State) : Answer := .ok (timeReadData s.tmb) s

/-- The instant that TIME-SET gives, if its form and fields are valid (R19). -/
def readTimeSet : TimeSetForm → Option Instant
  | .instant seconds tick =>
    if seconds.toNat ≤ Config.topSecond ∧ tick.toNat ≤ 1023 then some ⟨seconds.toNat, tick.toNat⟩ else none
  | .calendar year month day hour minute second tick =>
    if civilValid year.toNat month.toNat day.toNat hour.toNat minute.toNat second.toNat tick.toNat then
      some (instantOfCivil year.toNat month.toNat day.toNat hour.toNat minute.toNat second.toNat tick.toNat)
    else none
  | .other _ _ => none

/-- An accepted TIME-SET: the step, then the validity; `after` is where TIME-STATE is posted (R15, R19, R173). -/
def setTime (i : Instant) (after : Nat) (s : State) : State := stepWith i .hostSet (some ⟨.set, .hostSet⟩) after s

/-- TIME-SET (R19). The generation of the reply is the one the step leaves. -/
def answerTimeSet (form : TimeSetForm) (after : Nat) (s : State) : Answer :=
  match readTimeSet form with
  | none => .refuse .badValue s
  | some i => .ok (u16 (s.tmb.generation + 1).toNat) (setTime i after s)

/-- The largest step of TIME-ADJUST, one day (R20). -/
abbrev adjustMax : Nat := 88473600

/-- TIME-ADJUST with mode STEP (R20). -/
def answerAdjustStep (d : Int) (s : State) : Answer :=
  let target := (s.now : Int) + d
  if adjustMax < d.natAbs then .refuse .badValue s
  else if s.tmb.validity = .unset then .refuse .noTime s
  else if target < 0 ∨ (Instant.top.ticks : Int) < target then .refuse .badValue s
  else
    let new := Instant.ofTicks target.toNat
    .ok (instantBytes new ++ u16 (s.tmb.generation + 1).toNat) (makeStep new .hostAdjust s)

/-- TIME-ADJUST with mode SLEW (R21). -/
def answerAdjustSlew (v : Int) (s : State) : Answer :=
  if Config.slewMax < v.natAbs then .refuse .badValue s
  else if s.tmb.validity = .unset then .refuse .noTime s
  else .ok (s16 s.tmb.slew) (s.setTmb { s.tmb with slew := v })

/-- TIME-ADJUST by its mode (R20). -/
def answerTimeAdjust (mode : Byte) (value : W32) (s : State) : Answer :=
  match mode.toNat with
  | 0 => answerAdjustStep value.toInt s
  | 1 => answerAdjustSlew value.toInt s
  | _ => .refuse .badValue s

/-- TRIM-SET (R22). -/
def answerTrimSet (trim : W16) (s : State) : Answer :=
  if trim.toInt < -2048 ∨ 2047 < trim.toInt then .refuse .badValue s
  else .ok (s16 s.tmb.trim) (s.setTmb { s.tmb with trim := trim.toInt, acc := 0 })

/-- TIME-CLEAR (R23). -/
def answerTimeClear (s : State) : Answer :=
  .ok (u8 s.tmb.validity.code)
    (if s.tmb.validity = .unset then s else setValidity .unset .hostClear 0 (s.setTmb { s.tmb with slew := 0 }))

end Sys2Proof.Machine
end

