-- ==== Sys2Proof/Machine/RequestsLines.lean ====
section
/-! DEFINITION. The requests of the Line Unit, the Capture Log, the Trigger Table and the Reference Discipline (R70, R80, R85,
R93 to R96, R106 to R109, R124, R125). -/

namespace Sys2Proof.Machine

/-! ## Line Unit -/

/-- Another line than `n` has the REFERENCE role (R70 check 4). -/
def State.otherReference (s : State) (n : LineNo) : Bool :=
  (List.finRange 16).any fun m => m != n && s.lin[m].config.role == .reference

/-- LINE-CONFIG: the five checks of R70, then R72. -/
def answerLineConfig (line : Byte) (rec : LineRecord) (s : State) : Answer :=
  if s.prs.locked then .refuse .locked s
  else if s.loading then .refuse .busy s
  else match lineOfByte line, LineRecord.config rec with
    | some n, some c =>
      if c.role = .reference ∧ s.otherReference n = true then .refuse .badValue s
      else if s.lineInUse n c.role then .refuse .lineInUse s
      else .ok [] (configureLine n c s)
    | _, _ => .refuse .badValue s

/-- LINE-DRIVE (R80). -/
def answerLineDrive (lines : W16) (action : Byte) (width : W16) (s : State) : Answer :=
  if s.loading then .refuse .busy s
  else match readDrive lines action width.toNat with
    | none => .refuse .badValue s
    | some c => if everyLine lines s.outputRole then .ok [] (claimLines lines c s) else .refuse .badLine s

/-- The data of LINE-STATUS (R85). -/
def lineStatusData (s : State) : List Byte := ((List.finRange 16).map fun n => (s.lin[n]).status (s.raw n)).flatten

/-- Every glitch count at 0 (R85). -/
def clearGlitches (s : State) : State := s.setLin (s.lin.map fun l => { l with glitches := 0 })

/-- LINE-STATUS: the values are taken before the clearing (R85). A reading of floating pins draws a free value. -/
def answerLineStatus (clear : Bool) (s : State) : Answer :=
  .ok (lineStatusData s) (if clear then (clearGlitches s).drawn else s.drawn)

/-! ## Capture Log -/

/-- CAP-CONFIG (R96). -/
def answerCapConfig (policy : Byte) (mark : W16) (s : State) : Answer :=
  if s.loading then .refuse .busy s
  else match readCapConfig policy mark.toNat with
    | none => .refuse .badValue s
    | some c => .ok (u8 s.cap.policy.code ++ u16 s.cap.mark) (installCaptureConfig c.1 c.2 s)

/-- CAP-READ (R93). -/
def answerCapRead (s : State) : Answer :=
  let part := s.cap.log.take 14
  .ok (u16 s.cap.log.length ++ u16 s.cap.lost ++ u32 s.cap.lastSerial.toNat ++ u8 part.length ++
    (part.map CapRecord.bytes).flatten) s

/-- CAP-ACK (R94). -/
def answerCapAck (serial : W32) (s : State) : Answer :=
  let k := s.cap.acknowledged serial
  .ok (u16 k ++ u16 (s.cap.log.length - k)) (s.setCap (s.cap.acknowledge serial))

/-! ## Trigger Table -/

/-- The roles that TRG-SET asks of the lines it names (R106 check 3). -/
def TrigDef.rolesFit (d : TrigDef) (s : State) : Bool :=
  s.inputRole d.source && everyLine d.template.lines s.outputRole

/-- TRG-SET (R106). -/
def answerTrgSet (p : TrgSetParams) (s : State) : Answer :=
  if s.loading then .refuse .busy s
  else match trigOfByte p.id,
             readTrigDef p.source p.edge p.delay.toNat p.holdoff.toNat p.kind p.lines p.width.toNat p.late p.notify with
    | some t, some d =>
      if d.rolesFit s then .ok (flag s.trg[t].isSome) (s.setTrigger t (some (Trigger.ofDef d))) else .refuse .badLine s
    | _, _ => .refuse .badValue s

/-- The present trigger that an id names, or the status of the first check that fails (R107, R108). -/
def State.namedTrigger (s : State) (id : Byte) : Except Status (TrigNo × Trigger) :=
  if s.loading then .error .busy
  else match trigOfByte id with
    | none => .error .badValue
    | some t => match s.trg[t] with
      | none => .error .notFound
      | some x => .ok (t, x)

/-- TRG-ARM (R107). -/
def answerTrgArm (id count : Byte) (s : State) : Answer :=
  match s.namedTrigger id with
  | .error st => .refuse st s
  | .ok (t, x) =>
    .ok (u8 x.state.code) (s.setTrigger t (some { x with armCount := count.toNat, state := .armed, remainder := 0 }))

/-- TRG-DISARM (R108). -/
def answerTrgDisarm (id : Byte) (s : State) : Answer :=
  match s.namedTrigger id with
  | .error st => .refuse st s
  | .ok (t, x) => .ok (u8 x.state.code) (s.setTrigger t (some { x with state := .disarmed, remainder := 0 }))

/-- TRG-CLEAR (R108). -/
def answerTrgClear (id : Byte) (s : State) : Answer :=
  match s.namedTrigger id with
  | .error st => .refuse st s
  | .ok (t, x) => .ok (u32 x.fired.toNat ++ u16 x.overruns) (s.setTrigger t none)

/-- TRG-STATUS (R109). -/
def answerTrgStatus (s : State) : Answer :=
  .ok (((List.finRange 8).map fun t => triggerRecord t s.trg[t]).flatten) s

/-! ## Reference Discipline -/

/-- REF-CONFIG (R124). -/
def answerRefConfig (p : RefConfigParams) (s : State) : Answer :=
  if s.loading then .refuse .busy s
  else match readRefConfig p.mode p.edge p.window.toNat p.limit p.timeout with
    | none => .refuse .badValue s
    | some c =>
      let s1 := installRefConfig c s
      .ok (u8 s1.rds.state.code) s1

/-- REF-STATUS (R125). -/
def answerRefStatus (s : State) : Answer :=
  .ok (s.rds.config.bytes ++ u8 ((s.rds.line.map fun n => n.val + 1).getD 0) ++ u8 s.rds.state.code ++ u8 s.rds.run ++
    u16 s.rds.count ++ u8 s.rds.history.length ++ (s.rds.history.map Sample.bytes).flatten) s

end Sys2Proof.Machine
end

