-- ==== Sys2Proof/Machine/RequestsSchedule.lean ====
section
/-! DEFINITION. The requests of the Scheduler (R32 to R46). -/

namespace Sys2Proof.Machine

/-- The roles that ACT-ADD asks of the lines an entry names (R33 check 3). -/
def Entry.rolesFit (e : Entry) (s : State) : Bool :=
  everyLine e.lines s.outputRole && (match e.guard with
    | none => true
    | some g => s.inputRole g.line)

/-- The schedule has no room for the entry (R33 check 5). -/
def Sch.full (c : Sch) (standing : Bool) : Bool :=
  decide (Config.scheduleMax ≤ c.entries.length) || (standing && decide (Config.standingMax ≤ c.standing))

/-- ACT-ADD: the five checks of R33, then the insertion of R34. The reply's flag is judged at the moment of the request. -/
def answerActAdd (p : ActAddParams) (s : State) : Answer :=
  if s.loading then .refuse .busy s
  else match readActAdd p s.now with
    | none => .refuse .badValue s
    | some e =>
      if !e.rolesFit s then .refuse .badLine s
      else if e.anchor = .calendar ∧ s.tmb.validity = .unset then .refuse .noTime s
      else if s.sch.full e.standing then .refuse .full s
      else .ok (u16 s.sch.newHandle ++ flag (decide (e.due.ticks + s.sch.tolerance < s.now))) (insertAndPass e s)

/-- The schedule without the entries that satisfy `p`; the counters stand (R31). -/
def Sch.without (c : Sch) (p : Entry → Bool) : Sch := { c with entries := c.entries.filter fun e => !p e }

/-- ACT-CANCEL (R36). -/
def answerActCancel (handle : W16) (s : State) : Answer :=
  if s.loading then .refuse .busy s
  else match s.sch.find handle.toNat with
    | none => .refuse .notFound s
    | some _ => .ok [] (s.setSch (s.sch.without fun e => e.handle == handle.toNat))

/-- The bit of an origin in the origin set of ACT-PURGE (10.3 note 2). -/
def Origin.bit (o : Origin) : Nat := o.code

/-- The entry matches a line set and an origin set; an empty set matches every entry (R37). -/
def Entry.matches (e : Entry) (lines : W16) (origins : Byte) : Bool :=
  (lines == 0 || (lines &&& e.lines) != 0) && (origins == 0 || origins.getLsbD e.origin.bit)

/-- ACT-PURGE (R37). -/
def answerActPurge (lines : W16) (origins : Byte) (s : State) : Answer :=
  if s.loading then .refuse .busy s
  else if 8 ≤ origins.toNat then .refuse .badValue s
  else .ok (u8 (s.sch.entries.filter fun e => e.matches lines origins).length)
    (s.setSch (s.sch.without fun e => e.matches lines origins))

/-- ACT-GET (R38). -/
def answerActGet (handle : W16) (s : State) : Answer :=
  match s.sch.find handle.toNat with
  | none => .refuse .notFound s
  | some e => .ok e.record s

/-- ACT-LIST (R39). -/
def answerActList (position : W16) (s : State) : Answer :=
  let part := (s.sch.entries.drop position.toNat).take 7
  .ok (u8 s.sch.entries.length ++ u8 part.length ++ (part.map Entry.record).flatten) s

/-- SCHED-HOLD (R42). -/
def answerSchedHold (s : State) : Answer :=
  let s1 := addReason .host s
  .ok s1.sch.hold.byte s1

/-- SCHED-RELEASE: the reply is formed before the taking (R43). -/
def answerSchedRelease (s : State) : Answer := .ok (s.sch.hold.put .host false).byte (removeReason .host s)

/-- SCHED-STATUS (R44). -/
def answerSchedStatus (s : State) : Answer :=
  .ok (u8 s.sch.entries.length ++ u8 s.sch.standing ++ s.sch.hold.byte ++ u16 s.sch.tolerance ++
    (match s.sch.entries with
     | [] => flag false ++ instantBytes Instant.zero
     | e :: _ => flag true ++ instantBytes e.due)) s

/-- SCHED-CONFIG (R45). -/
def answerSchedConfig (tolerance : W16) (s : State) : Answer :=
  if s.loading then .refuse .busy s
  else if 1023 < tolerance.toNat then .refuse .badValue s
  else .ok (u16 s.sch.tolerance) (s.setSch { s.sch with tolerance := tolerance.toNat })

end Sys2Proof.Machine
end

