-- ==== Sys2Proof/Machine/RequestsPart.lean ====
section
/-! DEFINITION. The requests of the Profile Store, the Lease Monitor and the Link Controller, and the answer to any request
(R136, R141, R145 to R147, R156 to R158, R177 to R179). -/

namespace Sys2Proof.Machine

/-! ## Profile Store -/

/-- The checks that PROF-SAVE, PROF-LOAD and PROF-ERASE share, in their order (R136, R141, R145). -/
def Prs.refusal (p : Prs) : Option Status :=
  if !p.present then some .noFlash else if p.locked then some .locked else if p.job ≠ .idle then some .busy else none

/-- The largest generation of a slot (R131). -/
abbrev generationMax : Nat := 0xFFFFFFFE

/-- The slot that a save writes: never the current one (R141). -/
def Prs.saveTarget (p : Prs) : Slot :=
  match currentSlot p.descA p.descB with
  | none => .a
  | some slot => slot.other

/-- The acceptance of PROF-SAVE: snapshot, target, generation, descriptor, ERASING (R141, R142). -/
def beginSave (s : State) : State :=
  let slot := s.prs.saveTarget
  let gen := currentGeneration s.prs.descA s.prs.descB + 1
  let s1 := s.setDesc slot Descriptor.invalid
  s1.setPrs { s1.prs with job := .saveErase, target := some slot,
                          image := some { generation := gen, bytes := slotImage gen (snapshot s) } }

/-- PROF-SAVE (R141). -/
def answerProfSave (s : State) : Answer :=
  match s.prs.refusal with
  | some st => .refuse st s
  | none =>
    if currentGeneration s.prs.descA s.prs.descB = generationMax then .refuse .state s else .accepted (beginSave s)

/-- PROF-LOAD (R136). -/
def answerProfLoad (s : State) : Answer :=
  match s.prs.refusal with
  | some st => .refuse st s
  | none =>
    if s.sch.hold.host then .accepted (addReason .load (s.setJob (.loading false .validating))) else .refuse .state s

/-- PROF-ERASE (R145). -/
def answerProfErase (s : State) : Answer :=
  match s.prs.refusal with
  | some st => .refuse st s
  | none =>
    .accepted (s.setPrs { s.prs with job := .eraseA s.prs.descB, descA := Descriptor.invalid, descB := Descriptor.invalid,
                                     target := some .a })

/-- The bytes of a descriptor in PROF-STATUS (10.3). -/
def Descriptor.bytes (d : Descriptor) : List Byte := flag d.valid ++ u32 d.generation

/-- PROF-STATUS (R147). -/
def answerProfStatus (s : State) : Answer :=
  .ok (flag s.prs.present ++ s.prs.descA.bytes ++ s.prs.descB.bytes ++ u8 (slotCode (currentSlot s.prs.descA s.prs.descB)) ++
    u8 s.prs.job.opState ++ u8 (slotCode s.prs.target) ++ flag s.prs.locked) s

/-- PROF-LOCK (R146). -/
def answerProfLock (s : State) : Answer := .ok (flag s.prs.locked) (s.setPrs { s.prs with locked := true })

/-! ## Lease Monitor -/

/-- LEASE-CONFIG (R157). -/
def answerLeaseConfig (period : W16) (fallback : Byte) (s : State) : Answer :=
  if s.loading then .refuse .busy s
  else if s.lsm.state = .expired then .refuse .state s
  else match readLease period.toNat fallback with
    | none => .refuse .badValue s
    | some c => .ok (u16 s.lsm.period ++ u8 s.lsm.fallback.code) (s.setLsm (Lsm.install c.1 c.2))

/-- LEASE-RESUME: a new run, then the removal of LEASE; the reply is formed before the taking (R156). With period 0 the state
is DISABLED and the count 0 (R151). -/
def answerLeaseResume (s : State) : Answer :=
  if s.lsm.state = .expired then
    .ok (s.sch.hold.put .lease false).byte
      (removeReason .lease
        (s.setLsm { s.lsm with state := if 0 < s.lsm.period then .running else .disabled, count := 0 }))
  else .refuse .state s

/-- LEASE-STATUS (R158). -/
def answerLeaseStatus (s : State) : Answer :=
  .ok (u16 s.lsm.period ++ u8 s.lsm.fallback.code ++ u8 s.lsm.state.code ++ u16 s.lsm.secondsLeft) s

/-! ## Link Controller -/

/-- IDENT: the fields of R177 in the layout of 10.3, which R182 has a reply follow. R130 says that IDENT reports the flash presence
too; neither R177 nor that layout has a field for it, and the layout is followed. DESIGN CHOICE, log entry 27, unsafe. -/
def answerIdent (s : State) : Answer :=
  .ok (u16 0x5242 ++ u16 0x0216 ++ u8 1 ++ u8 16 ++ u8 Config.scheduleMax ++ u8 Config.standingMax ++ u8 8 ++
    u16 Config.captureMax ++ u8 Config.noticeMax ++ u8 Config.inboundMax ++ u8 Config.payloadMax ++ flag s.lnk.arate ++
    flag s.lnk.autoload ++ u8 s.lnk.startCause.code ++ flag s.prs.locked) s

/-- The sequence state in LINK-STATUS: FREE, or expecting with E, L and L's kind (R178, 10.3). -/
def SeqState.bytes : SeqState → List Byte
  | .free => padding 4
  | .expecting e l kind => u8 1 ++ [e, l] ++ u8 kind.code

/-- The six counters in LINK-STATUS (R178, 10.3). -/
def Counters.bytes (c : Counters) : List Byte :=
  u16 c.crc ++ u16 c.timeout ++ u16 c.framing ++ u16 c.overflow ++ u16 c.gap ++ u16 c.duplicate

/-- The data of LINK-STATUS (R178). -/
def linkStatusData (k : Lnk) : List Byte :=
  k.counters.bytes ++ u8 k.credits ++ u8 k.notices.length ++ u16 k.lost ++ k.seqState.bytes

/-- LINK-STATUS: the values are taken before the clearing (R178). -/
def answerLinkStatus (clear : Bool) (s : State) : Answer :=
  .ok (linkStatusData s.lnk) (if clear then s.setLnk { s.lnk with counters := Counters.zero } else s)

/-- RESTART, as its own block sees it; what follows is the Link Controller's (R179). -/
def answerRestart (s : State) : Answer := .ok [] s

/-! ## Any request -/

/-- The owner's answer to a request that passed the Link Controller's checks (R170). `after` is where the TIME-STATE of a TIME-SET
is posted (R173). -/
def answer (r : Request) (after : Nat) (s : State) : Answer :=
  match r with
  | .ident => answerIdent s
  | .linkStatus clear => answerLinkStatus clear s
  | .restart => answerRestart s
  | .timeRead => answerTimeRead s
  | .timeSet form => answerTimeSet form after s
  | .timeAdjust mode value => answerTimeAdjust mode value s
  | .timeClear => answerTimeClear s
  | .trimSet trim => answerTrimSet trim s
  | .actAdd p => answerActAdd p s
  | .actCancel handle => answerActCancel handle s
  | .actPurge lines origins => answerActPurge lines origins s
  | .actGet handle => answerActGet handle s
  | .actList position => answerActList position s
  | .schedHold => answerSchedHold s
  | .schedRelease => answerSchedRelease s
  | .schedStatus => answerSchedStatus s
  | .schedConfig tolerance => answerSchedConfig tolerance s
  | .lineConfig line rec => answerLineConfig line rec s
  | .lineDrive lines action width => answerLineDrive lines action width s
  | .lineStatus clear => answerLineStatus clear s
  | .capConfig policy mark => answerCapConfig policy mark s
  | .capRead => answerCapRead s
  | .capAck serial => answerCapAck serial s
  | .trgSet p => answerTrgSet p s
  | .trgArm id count => answerTrgArm id count s
  | .trgDisarm id => answerTrgDisarm id s
  | .trgClear id => answerTrgClear id s
  | .trgStatus => answerTrgStatus s
  | .refConfig p => answerRefConfig p s
  | .refStatus => answerRefStatus s
  | .profSave => answerProfSave s
  | .profLoad => answerProfLoad s
  | .profErase => answerProfErase s
  | .profStatus => answerProfStatus s
  | .profLock => answerProfLock s
  | .leaseConfig period fallback => answerLeaseConfig period fallback s
  | .leaseResume => answerLeaseResume s
  | .leaseStatus => answerLeaseStatus s

end Sys2Proof.Machine
end

