-- ==== Sys2Proof/Machine/Serial.lean ====
section
/-! DEFINITION. The serial line of the message link: a byte as the levels of its bits on TXD and RXD, and the rate of the bits
(R161). -/

namespace Sys2Proof.Machine

/-- The level of TXD between bytes (R161). -/
def serialIdle : Level := .high

/-- A byte as it stands on the line, bit by bit: a start bit, 8 data bits, least significant bit first, and a stop bit. The start bit
is the level that an idle line does not have (R161 gives it none: DEDUCED, log entry 31, unsafe), and a right stop bit reads high
(R161). -/
def character (b : Byte) : List Level :=
  serialIdle.inv :: ((List.range 8).map fun i => Level.ofBool (b.getLsbD i)) ++ [serialIdle]

/-- Bytes as one unbroken run of bits (R161). -/
def serialBits (bs : List Byte) : List Level := (bs.map character).flatten

/-- The byte of data bits, least significant bit first (R161). -/
def byteOfLevels (ls : List Level) : Byte := ls.foldr (fun l b => 2 * b + (if l = .high then 1 else 0)) 0

/-- The ten levels of a received byte, one for each bit: the byte, and whether its stop bit reads high. Levels that do not begin with
a start bit are no byte (R161; log entry 31). -/
def readCharacter : List Level → Option (Byte × Bool)
  | [.low, d0, d1, d2, d3, d4, d5, d6, d7, stop] => some (byteOfLevels [d0, d1, d2, d3, d4, d5, d6, d7], stop == .high)
  | _ => none

/-- The rate of the line in bits per second, by the ARATE strap as sampled (R161). -/
def serialRate (arate : Bool) : Nat := if arate then 460800 else 115200

end Sys2Proof.Machine
end

