-- ==== Sys2Proof/Machine/Link.lean ====
section
/-! DEFINITION. The Link Controller: receiver, inbound queue, sequence state, reply cache, execution of frames, transmitter and
link reset (chapter 9). -/

namespace Sys2Proof.Machine

/-! ## Frames as bytes -/

/-- SYNC (R162). -/
abbrev syncByte : Byte := 0xA5

/-- The two CRC bytes, low byte first (R162). -/
def crcField (c : W16) : List Byte := [c.setWidth 8, (c >>> 8).setWidth 8]

/-- The header bytes and the payload, which the CRC covers (R162). -/
def frameCore (kind seq : Byte) (payload : List Byte) : List Byte :=
  BitVec.ofNat 8 payload.length :: kind :: seq :: payload

/-- A frame with a given CRC field (R162). -/
def frameWith (kind seq : Byte) (payload : List Byte) (crc : W16) : List Byte :=
  syncByte :: (frameCore kind seq payload ++ crcField crc)

/-- A frame as the host sends it (R162). -/
def frameBytes (kind seq : Byte) (payload : List Byte) : List Byte :=
  frameWith kind seq payload (crc16 (frameCore kind seq payload))

end Sys2Proof.Machine

namespace Sys2Proof

/-- The KIND byte of a frame that carries a request (R162). -/
def ReqKind.byte (k : ReqKind) : Byte := BitVec.ofNat 8 k.code

end Sys2Proof

namespace Sys2Proof.Machine

/-! ## Counters -/

/-- A link counter rises by 1 and holds at 65535 (R178). -/
def bump (n : Nat) : Nat := min Config.countMax (n + 1)

/-- The state with other link counters. -/
def State.setCounters (s : State) (c : Counters) : State := s.setLnk { s.lnk with counters := c }

/-- The framing count rises (R163, R165). -/
def countFraming (s : State) : State := s.setCounters { s.lnk.counters with framing := bump s.lnk.counters.framing }

/-- The CRC count rises (R165). -/
def countCrc (s : State) : State := s.setCounters { s.lnk.counters with crc := bump s.lnk.counters.crc }

/-- The timeout count rises (R164). -/
def countTimeout (s : State) : State := s.setCounters { s.lnk.counters with timeout := bump s.lnk.counters.timeout }

/-- The overflow count rises (R166). -/
def countOverflow (s : State) : State := s.setCounters { s.lnk.counters with overflow := bump s.lnk.counters.overflow }

/-- The gap count rises (R169). -/
def countGap (s : State) : State := s.setCounters { s.lnk.counters with gap := bump s.lnk.counters.gap }

/-- The duplicate count rises (R168). -/
def countDuplicate (s : State) : State := s.setCounters { s.lnk.counters with duplicate := bump s.lnk.counters.duplicate }

/-! ## Replies -/

/-- The reply to a RESTART (R179). -/
def Reply.isRestart : Reply → Bool
  | .answer _ _ _ _ _ restart => restart
  | .linkReset _ => false

/-- A reply resent from the cache: the repeat flag is set (R168). -/
def Reply.repeated : Reply → Reply
  | .answer seq code st _ data _ => .answer seq code st true data false
  | .linkReset seq => .linkReset seq

/-- The payload of a reply as it goes out (R182). -/
def Reply.payload : Reply → List Byte
  | .answer _ code st again data _ => [code] ++ u8 st.code ++ flag again ++ data
  | .linkReset _ => []

/-- A reply is placed in the reply buffer, and an idle transmitter takes it (R166, R172). -/
def placeReply (r : Reply) (s : State) : State :=
  s.setLnk (Lnk.choose { s.lnk with replies := s.lnk.replies ++ [r] })

/-- The frame that the transmitter is sending, as bytes (R162, R172; DEDUCED, log entry 26, safe). -/
def Lnk.sending (k : Lnk) : Option (List Byte) :=
  match k.tx with
  | .notice q n => some (frameBytes 0x82 q ([BitVec.ofNat 8 n.code] ++ n.body))
  | .reply =>
    match k.replies with
    | .answer seq code st again data restart :: _ =>
      some (frameBytes 0x81 seq (Reply.payload (.answer seq code st again data restart)))
    | .linkReset seq :: _ => some (frameBytes 0x84 seq [])
    | [] => none
  | .idle | .forReply => none

/-- The bits on TXD of the frame that the transmitter is sending, one unbroken run; none where it is idle, and TXD then rests at
`serialIdle` (R161). -/
def Lnk.txd (k : Lnk) : List Level := serialBits (k.sending.getD [])

/-- The rate of TXD and RXD: set by ARATE as sampled at the last main reset, whatever the strap does since (R161). -/
def Lnk.rate (k : Lnk) : Nat := serialRate k.arate

/-! ## Reception -/

/-- A REQUEST or POSTED frame is offered to the inbound queue (R166). -/
def offerFrame (f : HostFrame) (s : State) : State :=
  if s.lnk.inbound.length < Config.inboundMax then s.setLnk { s.lnk with inbound := s.lnk.inbound ++ [f] }
  else countOverflow s

/-- Credits are added, held at 32, and an idle transmitter looks at the queue (R172, R174). -/
def addCredits (n : Nat) (s : State) : State :=
  s.setLnk (Lnk.choose { s.lnk with credits := min Config.creditMax (s.lnk.credits + n) })

/-- A CREDIT frame (R165). -/
def creditFrame (payload : List Byte) (s : State) : State :=
  match payload with
  | [n] => if 1 ≤ n.toNat ∧ n.toNat ≤ Config.creditMax then addCredits n.toNat s else countFraming s
  | _ => countFraming s

/-- The replies in transmission: at most the oldest (R166). -/
def Lnk.inHand (k : Lnk) : List Reply := match k.tx with
  | .reply => k.replies.take 1
  | _ => []

/-- The waiting replies (R166). -/
def Lnk.waiting (k : Lnk) : List Reply := match k.tx with
  | .reply => k.replies.drop 1
  | _ => k.replies

/-- The link reset, steps 1 to 8 of R175. -/
def Lnk.afterReset (k : Lnk) (seq : Byte) : Lnk :=
  Lnk.choose { k with inbound := [], replies := k.inHand ++ [.linkReset seq], notices := [], lost := 0, credits := 2,
                      cache := .empty, seqState := .free }

/-- A link reset; where it discards the waiting reply to a RESTART, the main reset takes place instead of its remaining steps
(R175, R179). -/
def linkReset (seq : Byte) (s : State) : State :=
  if s.lnk.waiting.any Reply.isRestart then mainReset .request s else s.setLnk (s.lnk.afterReset seq)

/-- A complete frame with a good CRC: the report to the Lease Monitor, then the handling by KIND (R152, R165). -/
def goodFrame (kind seq : Byte) (payload : List Byte) (s : State) : State :=
  let s1 := renewLease s
  match kind.toNat with
  | 0x01 => offerFrame ⟨⟨.request, seq⟩, payload⟩ s1
  | 0x02 => offerFrame ⟨⟨.posted, seq⟩, payload⟩ s1
  | 0x03 => creditFrame payload s1
  | 0x04 => if payload = [] then linkReset seq s1 else countFraming s1
  | _ => countFraming s1

/-- The state with another receiver state. -/
def State.setRx (s : State) (r : Receiver) : State := s.setLnk { s.lnk with rx := r }

/-- The receiver returns to HUNT and scans bytes again before it takes further ones (R163, R165). -/
def rescan (held : List Byte) (s : State) : State := s.setLnk { s.lnk with rx := .hunt, backlog := held ++ s.lnk.backlog }

/-- A frame is complete: `held` are its bytes after SYNC, its CRC bytes included (R165). -/
def completeFrame (held : List Byte) (s : State) : State :=
  let n := (byteAt held 0).toNat
  let core := held.take (3 + n)
  if crcField (crc16 core) = held.drop (3 + n) then goodFrame (byteAt held 1) (byteAt held 2) (core.drop 3) (s.setRx .hunt)
  else countCrc (rescan held s)

/-- The receiver after SEQ (R163). -/
def afterSeq (held : List Byte) (s : State) : State :=
  let n := (byteAt held 0).toNat
  if Config.payloadMax < n then countFraming (rescan held s)
  else s.setRx (if n = 0 then .check held else .body held)

/-- The receiver moves on one byte (R163). -/
def receiverStep (b : Byte) (s : State) : State :=
  match s.lnk.rx with
  | .hunt => if b = syncByte then s.setRx (.header []) else s
  | .header held =>
    let h := held ++ [b]
    if h.length < 3 then s.setRx (.header h) else afterSeq h s
  | .body held =>
    let h := held ++ [b]
    s.setRx (if h.length < 3 + (byteAt h 0).toNat then .body h else .check h)
  | .check held =>
    let h := held ++ [b]
    if h.length < 5 + (byteAt h 0).toNat then s.setRx (.check h) else completeFrame h s

/-- The bytes a receiver state holds, SYNC counted with them. -/
def Receiver.size : Receiver → Nat
  | .hunt => 0
  | .header held | .body held | .check held => held.length + 1

/-- Enough steps to scan all waiting bytes: a step takes a byte from the backlog, and a discard gives back fewer bytes than the
frame had. -/
def Lnk.scanSteps (k : Lnk) : Nat :=
  let n := k.rx.size + k.backlog.length
  n * n + k.backlog.length

/-- A byte with a low stop bit (R163). -/
def badStopBit (s : State) : State := countFraming (s.setRx .hunt)

/-- The receiver is inside a frame. -/
def Receiver.inFrame : Receiver → Bool
  | .hunt => false
  | .header _ | .body _ | .check _ => true

/-- A gap of more than 5 ms inside a frame; in HUNT there is no limit (R164). The length of the gap is left
to the environment: DESIGN CHOICE, log entry 25, unsafe. -/
def gapElapsed (s : State) : State := if s.lnk.rx.inFrame then countTimeout (s.setRx .hunt) else s

/-! ## Taking frames -/

/-- What the sequence state says of a frame (R167). -/
inductive Verdict where
  | execute
  | duplicate
  | discard
  | outOfTurn (e : Byte)
  deriving DecidableEq, Repr

/-- A frame judged against the sequence state (R167). -/
def SeqState.judge (q : SeqState) (h : FrameHead) : Verdict :=
  match q with
  | .free => .execute
  | .expecting e l kind =>
    if h.seq = e then .execute
    else if h.seq = l then (if h.kind = .request ∧ kind = .request then .duplicate else .discard)
    else .outOfTurn e

/-- OK and ACCEPTED: the request was taken (R170). -/
def Status.taken : Status → Bool
  | .ok | .accepted => true
  | _ => false

/-- The request code of a frame as received, 0 with an empty payload (R169, R171). -/
def HostFrame.code (f : HostFrame) : Byte := f.payload.headD 0

/-- The reply to an executed REQUEST (R170). -/
def formReply (seq code : Byte) (st : Status) (data : List Byte) (restart : Bool) : Reply :=
  .answer seq code st false (if st.taken then data else []) restart

/-- The reply enters the cache and the buffer; a RESTART becomes pending with it (R168, R170, R179). -/
def settleRequest (r : Reply) (s : State) : State :=
  s.setLnk (Lnk.choose { s.lnk with
    cache := .reply r
    replies := s.lnk.replies ++ [r]
    restartPending := s.lnk.restartPending || r.isRestart
    tx := if s.lnk.tx = .forReply then .idle else s.lnk.tx })

/-- The result of an executed POSTED frame (R168, R170, R171). -/
def settlePosted (f : HostFrame) (st : Status) (s : State) : State :=
  let s1 := s.setLnk { s.lnk with cache := .posted }
  if st.taken then s1 else post (.postedFailed f.head.seq f.code st 0) s1

/-- An idle transmitter waits for the reply that is being formed: notices of the execution come after it (R170). DEDUCED,
log entry 22, unsafe. -/
def holdForReply (s : State) : State := if s.lnk.tx = .idle then s.setLnk { s.lnk with tx := .forReply } else s

/-- The sequence state after the execution of a frame (R167). -/
def advanceSeq (h : FrameHead) (s : State) : State := s.setLnk { s.lnk with seqState := .expecting (h.seq + 1) h.seq h.kind }

/-- A REQUEST is executed (R170). -/
def runRequest (f : HostFrame) (after : Nat) (s : State) : State :=
  match decodePayload .request f.payload with
  | .error (code, st) => settleRequest (formReply f.head.seq code st [] false) s
  | .ok r =>
    let a := answer r after (holdForReply s)
    settleRequest (formReply f.head.seq f.code a.status a.data (r == .restart)) a.state

/-- A POSTED frame is executed; a posted RESTART resets at once (R170, R179). -/
def runPosted (f : HostFrame) (after : Nat) (s : State) : State :=
  match decodePayload .posted f.payload with
  | .error (_, st) => settlePosted f st s
  | .ok r =>
    if r = .restart then mainReset .request s
    else
      let a := answer r after s
      settlePosted f a.status a.state

/-- A frame is executed (R167, R170). `after` is where the TIME-STATE of a TIME-SET is posted (R173). -/
def executeFrame (f : HostFrame) (after : Nat) (s : State) : State :=
  let s1 := advanceSeq f.head s
  match f.head.kind with
  | .request => runRequest f after s1
  | .posted => runPosted f after s1

/-- A frame that repeats L: answered from the cache, or discarded (R168). -/
def repeatFrame (answered : Bool) (s : State) : State :=
  let s1 := countDuplicate s
  match answered, s1.lnk.cache with
  | true, .reply r => placeReply r.repeated s1
  | _, _ => s1

/-- A frame out of turn (R169, R171). -/
def gapFrame (f : HostFrame) (e : Byte) (s : State) : State :=
  let s1 := countGap s
  match f.head.kind with
  | .request => placeReply (.answer f.head.seq f.code .seqGap false [e] false) s1
  | .posted => post (.postedFailed f.head.seq f.code .seqGap e) s1

/-- A taken frame is dealt with (R167). -/
def dealFrame (f : HostFrame) (after : Nat) (s : State) : State :=
  match s.lnk.seqState.judge f.head with
  | .execute => executeFrame f after s
  | .duplicate => repeatFrame true s
  | .discard => repeatFrame false s
  | .outOfTurn e => gapFrame f e s

/-- The head of the inbound queue can be taken (R167, R179). -/
def Lnk.canTake (k : Lnk) : Bool := k.inbound ≠ [] && decide (k.replies.length < Config.replyMax) && !k.restartPending

/-- The head of the inbound queue is taken (R167). -/
def takeHead (after : Nat) (s : State) : State :=
  if s.lnk.canTake then
    match s.lnk.inbound with
    | [] => s
    | f :: rest => dealFrame f after (s.setLnk { s.lnk with inbound := rest })
  else s

/-- Heads are taken one after another, as many as the taking names; the others wait, since the order against other events is free
(R167, R180). -/
def takeHeads (ks : Taking) (s : State) : State := ks.foldl (fun x k => takeHead k x) s

/-- Every head that can be taken is taken; no taking adds a frame to the queue (R167). -/
def takeAll (after : Nat) (s : State) : State := takeHeads (List.replicate s.lnk.inbound.length after) s

/-- The head is taken if it can be and `p` holds of its verdict and its frame. -/
def takeHeadIf (p : Verdict → HostFrame → Bool) (s : State) : State :=
  match s.lnk.inbound with
  | [] => s
  | f :: _ => if p (s.lnk.seqState.judge f.head) f then takeHead 0 s else s

/-- The verdict is a repeat of L (R168). -/
def Verdict.isRepeat : Verdict → Bool
  | .duplicate | .discard => true
  | .execute | .outOfTurn _ => false

/-- The verdict is out of turn (R169). -/
def Verdict.isGap : Verdict → Bool
  | .outOfTurn _ => true
  | .execute | .duplicate | .discard => false

/-- A frame that is executed and fails the checks of R170. -/
def HostFrame.undecodable (f : HostFrame) : Bool := match decodePayload f.head.kind f.payload with
  | .error _ => true
  | .ok _ => false

/-! ## The transmitter -/

/-- The transmitter has sent its frame, or is idle and something has arrived (R172); the last byte of a RESTART reply is
followed by the main reset (R179). -/
def transmitted (s : State) : State :=
  match s.lnk.tx, s.lnk.replies with
  | .reply, r :: rest =>
    let s1 := s.setLnk { s.lnk with tx := .idle, replies := rest }
    if r.isRestart then mainReset .request s1 else s1.setLnk s1.lnk.choose
  | .notice _ _, _ => s.setLnk (Lnk.choose { s.lnk with tx := .idle })
  | _, _ => s.setLnk s.lnk.choose

/-! ## Bytes from the line -/

/-- The waiting bytes are scanned one after another. After each of them heads may be taken, as the list says, so that a taking can
fall between two frames found in bytes that are scanned again (R165, R180). A main reset in the middle drops the bytes still
to be scanned: R176 puts the receiver in HUNT and does not speak of them (DESIGN CHOICE, log entry 28, unsafe). -/
def scan : Nat → List Taking → State → State
  | 0, _, s => s
  | k + 1, ts, s =>
    match s.lnk.backlog with
    | [] => s
    | b :: rest => scan k ts.tail (takeHeads (ts.headD []) (receiverStep b (s.setLnk { s.lnk with backlog := rest })))

/-- A byte arrives on RXD (R163). -/
def receiveByte (b : Byte) (ts : List Taking) (s : State) : State :=
  let s1 := s.setLnk { s.lnk with backlog := s.lnk.backlog ++ [b] }
  scan s1.lnk.scanSteps ts s1

/-- The levels of one byte on RXD: a byte with a high stop bit is received, one with a low stop bit is a byte framing error
(R161, R163). BYTE_RECEIVED is the first and BYTE_FRAMING_ERROR the second. -/
def receiveCharacter (levels : List Level) (ts : List Taking) (s : State) : State :=
  match readCharacter levels with
  | some (b, true) => receiveByte b ts s
  | some (_, false) => badStopBit s
  | none => s

/-- Bytes arrive one after another, with no head taken between them. -/
def receiveBytes (bs : List Byte) (s : State) : State := bs.foldl (fun x b => receiveByte b [] x) s

/-! ## Whole frames -/

/-- A host sends a request in a frame of its own, and the heads of the inbound queue are taken. `after` is where the TIME-STATE of
a TIME-SET is posted. DESIGN CHOICE, log entry 10, unsafe. -/
def sendRequestAfter (h : FrameHead) (r : Request) (after : Nat) (s : State) : State :=
  takeAll after (receiveBytes (frameBytes h.kind.byte h.seq (encodeRequest r)) s)

/-- The same for a request with no free order of notices. -/
def sendRequest (h : FrameHead) (r : Request) (s : State) : State := sendRequestAfter h r 0 s

end Sys2Proof.Machine
end

