-- ==== Sys2Proof/Machine/Tick.lean ====
section
/-! DEFINITION. The elapsed tick: what it owes to the blocks, how a block deals with its part, and the supply's coming and going
(R2, R6, R7, R17, R66, R78, R82, R84, R88, R104, R126, R153, R159). -/

namespace Sys2Proof.Machine

/-! ## The parts of a tick -/

/-- The lease deals with an elapsed tick; RESTART is a main reset after LEASE-EXPIRED (R153, R155). -/
def leaseTick (s : State) : State :=
  match s.lsm.state with
  | .running =>
    if s.lsm.expiring then
      let s1 := expireLease s
      if s.lsm.fallback = .restart then mainReset .lease s1 else s1
    else s.setLsm { s.lsm with count := s.lsm.count + 1 }
  | .disabled | .expired => s

/-- A trigger deals with an elapsed tick (R104). -/
def triggerTick (t : TrigNo) (s : State) : State := s.setTrigger t (s.trg[t].map Trigger.tick)

/-- The units that one elapsed tick gives to the blocks (R2). -/
def tickUnits : List TickUnit :=
  .advance :: ((List.finRange 16).map .line ++ (List.finRange 8).map .trigger ++ [.reference, .lease])

end Sys2Proof.Machine

namespace Sys2Proof

/-- The unit that a part deals with. -/
def TickPart.unit : TickPart → Machine.TickUnit
  | .advance _ => .advance
  | .line n _ => .line n
  | .trigger t => .trigger t
  | .reference => .reference
  | .lease => .lease

end Sys2Proof

namespace Sys2Proof.Machine

/-- The part that deals with a unit where no order is asked for. -/
def TickUnit.part : TickUnit → TickPart
  | .advance => .advance 0
  | .line n => .line n (some ⟨0, 0⟩)
  | .trigger t => .trigger t
  | .reference => .reference
  | .lease => .lease

/-- A block does its part of a tick. -/
def doPart (p : TickPart) (s : State) : State :=
  match p with
  | .advance ownAfter => advanceInstant ownAfter s
  | .line n accept => lineTick n accept s
  | .trigger t => triggerTick t s
  | .reference => referenceTick s
  | .lease => leaseTick s

/-- A block deals with its part of a tick if it is still owed. -/
def deal (p : TickPart) (s : State) : State :=
  if s.owed.contains p.unit then doPart p (s.setOwed (s.owed.erase p.unit)) else s

/-- A list of parts, dealt with in its order. -/
def dealAll (ps : List TickPart) (s : State) : State := ps.foldl (fun x p => deal p x) s

/-- Every complete run is accepted (R81). -/
def acceptRuns (s : State) : State := (List.finRange 16).foldl (fun x n => acceptRun n ⟨0, 0⟩ x) s

/-- Everything still owed is dealt with before the next tick begins: the runs that are complete are accepted, and the owed parts
follow. -/
def settle (s : State) : State :=
  let s1 := acceptRuns s
  dealAll (s1.owed.map TickUnit.part) s1

/-- A nominal tick: what the last one still owes, the elapsed counter, the parts given out, and those dealt with now (R2).
DESIGN CHOICE, log entry 7, unsafe. -/
def nominalTick (now : List TickPart) (s : State) : State :=
  let s1 := settle s
  dealAll now ((s1.setTmb { s1.tmb with elapsed := s1.tmb.elapsed + 1 }).setOwed tickUnits)

/-- A nominal tick while VDD is absent (R6); without the backup domain there is no time base to advance. -/
def backupAdvance (s : State) : State := if s.tmb.marker then advanceBackup s else s

/-- A part is dealt with when it is owed and `due` says that the event of the row would come about in it. DESIGN CHOICE,
log entry 6, unsafe. -/
def dealIf (due : Bool) (p : TickPart) (s : State) : State := if due then deal p s else s

/-- The next advance makes a trim carry (R8). -/
def Tmb.carrying (t : Tmb) : Bool := (trimCarry t.acc t.trim).1 != 0

/-- The next advance reads phase 63 with a remainder (R9). -/
def Tmb.correcting (t : Tmb) : Bool := decide (t.phase = 63) && decide (t.slew ≠ 0)

/-- The next advance is a range end (R12). -/
def Tmb.ending (t : Tmb) : Bool := t.advance.rangeEnd

/-- The advance still owed, when it is a range end. The row has no operand for the place of TIME-STATE among the notices of the
pass, so that place is a free value (R12, R173; DESIGN CHOICE, log entry 8, safe). -/
def dealRangeEnd (s : State) : State :=
  if s.tmb.ending && s.owed.contains .advance then (deal (.advance (Config.rangeEndAfter s.draws)) s).drawn else s

/-- The next elapsed tick ends the holdoff of trigger `t` (R104). -/
def State.holdoffEnding (s : State) (t : TrigNo) : Bool := match s.trg[t] with
  | none => false
  | some x => x.holdoffEnding

/-! ## Supply -/

/-- VDD goes away: an advance the time base still owes is its own, every other owed part is gone with the main domain, and a
flash command in hand is cut short, within what R149 lets it leave (R6, R149). What else the main domain holds is kept: DESIGN CHOICE, log entry 14, unsafe. -/
def losePower (s : State) : State :=
  let s1 := lossCommand s
  let s2 := if s1.owed.contains .advance then advanceBackup s1 else s1
  ((s2.setOwed []).setPrs (Prs.fresh s2.prs.present .idle)).setPower false

/-- VDD comes up (R7). -/
def gainPower (nrstHeld : Bool) (pins : StartPins) (s : State) : State :=
  let s1 := setPins pins (s.setPower true)
  if s1.tmb.marker then mainReset (if nrstHeld then .pin else .supply) s1 else coldStart s1

/-- VBAT fails while VDD is absent: the backup domain loses its contents (R7). -/
def loseBackup (s : State) : State := s.setTmb { s.tmb with marker := false }

/-- The outside drives a line pin, or lets it go (R69); it moves a strap, which the next main reset samples (R161); or the flash
comes to answer another byte to read identification, which the next main reset reads (R130). Other pairs are no event. -/
def changePin (pin : Pin) (drive : PinDrive) (s : State) : State :=
  match pin, drive with
  | .line n, .released => s.setLine n { s.lin[n] with ext := none }
  | .line n, .held l => s.setLine n { s.lin[n] with ext := some l }
  | .arate, .held l => s.setStraps { s.straps with arate := l == .high }
  | .autoload, .held l => s.setStraps { s.straps with autoload := l == .high }
  | .flash, .answering maker => s.setFlash { s.flash with maker := maker }
  | .line _, .answering _ | .arate, .released | .arate, .answering _ | .autoload, .released | .autoload, .answering _
  | .flash, .released | .flash, .held _ => s

end Sys2Proof.Machine
end

