-- ==== Sys2Proof/Machine/Whole.lean ====
section
/-! DEFINITION. What the meanings share: the type of their answer, and the gate of the main supply. -/

namespace Sys2Proof.Machine

/-- What a command answers. -/
abbrev Outcome := Host.Outcome State Fault Refusal

/-- A command that reaches the main domain alone: while VDD is absent that domain does not run, and nothing happens (R6,
R69). DEDUCED, log entry 9, unsafe. -/
def whenPowered (f : State → State) (s : State) : Outcome := .next (if s.power then f s else s)

end Sys2Proof.Machine
end

