-- ==== Sys2Proof/Machine/ExecLink.lean ====
section
/-! DEFINITION. The meanings of the receiver's and the link's rows. -/

namespace Sys2Proof.Machine

/-- BYTE_FRAMING_ERROR (R163): A received byte with a low stop bit discards any frame in progress and raises the framing
count. -/
def execByteFramingError (s : State) : Outcome :=
  whenPowered badStopBit s

/-- FRAME_LEN_DISCARD (R163): A frame whose LEN is above 250 is discarded when its SEQ byte arrives, and the header bytes
are rescanned. -/
def execFrameLenDiscard (len : Byte) (kind : Byte) (seq : Byte) (s : State) : Outcome :=
  whenPowered (receiveBytes [syncByte, len, kind, seq]) s

/-- FRAME_TIMEOUT (R164): A gap of more than 5 ms between bytes of a frame discards the frame and raises the timeout count.
-/
def execFrameTimeout (s : State) : Outcome :=
  whenPowered gapElapsed s

/-- FRAME_CRC_DISCARD (R165): A complete frame with a bad CRC is discarded, the CRC count rises and its bytes are rescanned.
-/
def execFrameCrcDiscard (kind : Byte) (seq : Byte) (payload : List Byte) (crc : W16) (s : State) : Outcome :=
  whenPowered (receiveBytes (frameWith kind seq payload crc)) s

/-- FRAME_ENQUEUE (R166): `take` says which queue heads are taken before the next command (R180). -/
def execFrameEnqueue (h : FrameHead) (payload : List Byte) (take : Taking) (s : State) : Outcome :=
  whenPowered (fun x => takeHeads take (receiveBytes (frameBytes h.kind.byte h.seq payload) x)) s

/-- FRAME_UNKNOWN_KIND (R165): A CRC-good frame of unknown kind is discarded and counted as framing. -/
def execFrameUnknownKind (kind : Byte) (seq : Byte) (payload : List Byte) (s : State) : Outcome :=
  whenPowered (receiveBytes (frameBytes kind seq payload)) s

/-- CREDIT (R174): A CREDIT frame adds its credits to the credit count, held at 32. -/
def execCredit (seq : Byte) (payload : List Byte) (s : State) : Outcome :=
  whenPowered (receiveBytes (frameBytes 0x03 seq payload)) s

/-- LINK_RESET (R175): A LINK-RESET frame clears the inbound queue, waiting replies, notices, the cache and the sequence
state, and queues LINK-RESET-REPLY. -/
def execLinkReset (seq : Byte) (payload : List Byte) (s : State) : Outcome :=
  whenPowered (receiveBytes (frameBytes 0x04 seq payload)) s

/-- FRAME_DUPLICATE (R168): the head of the queue is taken, when it repeats L. -/
def execFrameDuplicate (s : State) : Outcome :=
  whenPowered (takeHeadIf fun v _ => v.isRepeat) s

/-- FRAME_OUT_OF_TURN (R169): the head of the queue is taken, when it is out of turn. -/
def execFrameOutOfTurn (s : State) : Outcome :=
  whenPowered (takeHeadIf fun v _ => v.isGap) s

/-- REQUEST_DECODE_FAIL (R170): the head of the queue is taken, when it is executed and fails a check of R170. -/
def execRequestDecodeFail (s : State) : Outcome :=
  whenPowered (takeHeadIf fun v f => v == .execute && f.undecodable) s

/-- TRANSMIT_DONE (R172): The transmitter finishes a frame, or is idle when something arrives, and chooses the next reply or
credited notice. -/
def execTransmitDone (take : Taking) (s : State) : Outcome :=
  whenPowered (fun x => takeHeads take (transmitted x)) s

/-- BYTE_RECEIVED (R163): A byte arrives on RXD and moves the receiver between HUNT, HEADER, BODY and CHECK, a 0xA5 in HUNT
beginning a frame. `takes` says which queue heads are taken after each byte that is scanned (R180). -/
def execByteReceived (b : Byte) (takes : List Taking) (s : State) : Outcome :=
  whenPowered (receiveByte b takes) s

end Sys2Proof.Machine
end

