-- ==== Sys2Proof/Machine/ExecProfile.lean ====
section
/-! DEFINITION. The meanings of the rows of the Profile Store's work. -/

namespace Sys2Proof.Machine

/-- SCAN_DONE (R135): Validation of both slots with AUTOLOAD low ends: the descriptors are set, the state becomes IDLE and
PROFILE-DONE SKIPPED is posted. -/
def execScanDone (s : State) : Outcome :=
  whenPowered scanned s

/-- LOAD_SLOT_VALIDATED (R137): The slot reads and validation of a load complete and the load applies the chosen slot or
ends with NONE_VALID. -/
def execLoadSlotValidated (stages : Nat) (s : State) : Outcome :=
  whenPowered (loadValidated stages) s

/-- SAVE_ERASE_DONE (R143): The sector erase of the save target finishes and programming begins. -/
def execSaveEraseDone (s : State) : Outcome :=
  whenPowered saveErased s

/-- PAGE_PROGRAM_DONE (R143): A page program of the save image finishes, and the next page or verify follows. -/
def execPageProgramDone (flaws : List (Fin 256 × Byte)) (s : State) : Outcome :=
  whenPowered (pageProgrammed flaws) s

/-- VERIFY_DONE (R143): The read-back compare finishes: on a match the target becomes current and PROFILE-DONE SAVED is
posted. -/
def execVerifyDone (s : State) : Outcome :=
  whenPowered saveVerified s

/-- FLASH_TIMEOUT (R129): A wait for the flash busy bit passes its limit, failing the save or erase in progress. -/
def execFlashTimeout (s : State) : Outcome :=
  whenPowered flashTimedOut s

/-- RECOVERY_ERASE_DONE (R144): The erase of a failed save target finishes and the save ends with FAILED. -/
def execRecoveryEraseDone (s : State) : Outcome :=
  whenPowered recoveryErased s

/-- SLOT_ERASE_DONE (R145): An erase of one slot by PROF-ERASE finishes, and the next slot is erased or ERASED is posted. -/
def execSlotEraseDone (s : State) : Outcome :=
  whenPowered slotErased s

end Sys2Proof.Machine
end

