-- ==== Sys2Proof/Machine/ExecRequests.lean ====
section
/-! DEFINITION. The meanings of the requests: the host sends the request in a frame of its own, R162 to R170 carry it to its
owner, and the reply and the notices follow. -/

namespace Sys2Proof.Machine

/-- IDENT (R177): the host sends the request. -/
def execIdent (h : FrameHead) (s : State) : Outcome :=
  whenPowered (sendRequest h .ident) s

/-- LINK_STATUS (R178): the host sends the request. -/
def execLinkStatus (h : FrameHead) (clear : Bool) (s : State) : Outcome :=
  whenPowered (sendRequest h (.linkStatus clear)) s

/-- RESTART (R179): the host sends the request. -/
def execRestart (h : FrameHead) (s : State) : Outcome :=
  whenPowered (sendRequest h .restart) s

/-- TIME_READ (R18): the host sends the request. -/
def execTimeRead (h : FrameHead) (s : State) : Outcome :=
  whenPowered (sendRequest h .timeRead) s

/-- TIME_SET (R19): the host sends the request. -/
def execTimeSet (h : FrameHead) (set : TimeSetOrder) (s : State) : Outcome :=
  whenPowered (sendRequestAfter h (.timeSet set.form) set.stateAfter) s

/-- TIME_ADJUST_STEP (R20): the host sends the request. -/
def execTimeAdjustStep (h : FrameHead) (value : W32) (s : State) : Outcome :=
  whenPowered (sendRequest h (.timeAdjust 0 value)) s

/-- TIME_ADJUST_SLEW (R21): the host sends the request. -/
def execTimeAdjustSlew (h : FrameHead) (value : W32) (s : State) : Outcome :=
  whenPowered (sendRequest h (.timeAdjust 1 value)) s

/-- TIME_CLEAR (R23): the host sends the request. -/
def execTimeClear (h : FrameHead) (s : State) : Outcome :=
  whenPowered (sendRequest h .timeClear) s

/-- TRIM_SET (R22): the host sends the request. -/
def execTrimSet (h : FrameHead) (trim : W16) (s : State) : Outcome :=
  whenPowered (sendRequest h (.trimSet trim)) s

/-- ACT_ADD (R33): the host sends the request. -/
def execActAdd (h : FrameHead) (p : ActAddParams) (s : State) : Outcome :=
  whenPowered (sendRequest h (.actAdd p)) s

/-- ACT_CANCEL (R36): the host sends the request. -/
def execActCancel (h : FrameHead) (handle : W16) (s : State) : Outcome :=
  whenPowered (sendRequest h (.actCancel handle)) s

/-- ACT_PURGE (R37): the host sends the request. -/
def execActPurge (h : FrameHead) (lines : W16) (origins : Byte) (s : State) : Outcome :=
  whenPowered (sendRequest h (.actPurge lines origins)) s

/-- ACT_GET (R38): the host sends the request. -/
def execActGet (h : FrameHead) (handle : W16) (s : State) : Outcome :=
  whenPowered (sendRequest h (.actGet handle)) s

/-- ACT_LIST (R39): the host sends the request. -/
def execActList (h : FrameHead) (position : W16) (s : State) : Outcome :=
  whenPowered (sendRequest h (.actList position)) s

/-- SCHED_HOLD (R42): the host sends the request. -/
def execSchedHold (h : FrameHead) (s : State) : Outcome :=
  whenPowered (sendRequest h .schedHold) s

/-- SCHED_RELEASE (R43): the host sends the request. -/
def execSchedRelease (h : FrameHead) (s : State) : Outcome :=
  whenPowered (sendRequest h .schedRelease) s

/-- SCHED_STATUS (R44): the host sends the request. -/
def execSchedStatus (h : FrameHead) (s : State) : Outcome :=
  whenPowered (sendRequest h .schedStatus) s

/-- SCHED_CONFIG (R45): the host sends the request. -/
def execSchedConfig (h : FrameHead) (tolerance : W16) (s : State) : Outcome :=
  whenPowered (sendRequest h (.schedConfig tolerance)) s

/-- LINE_CONFIG (R70): the host sends the request. -/
def execLineConfig (h : FrameHead) (line : Byte) (rec : LineRecord) (s : State) : Outcome :=
  whenPowered (sendRequest h (.lineConfig line rec)) s

/-- LINE_DRIVE (R80): the host sends the request. -/
def execLineDrive (h : FrameHead) (lines : W16) (action : Byte) (width : W16) (s : State) : Outcome :=
  whenPowered (sendRequest h (.lineDrive lines action width)) s

/-- LINE_STATUS (R85): the host sends the request. -/
def execLineStatus (h : FrameHead) (clear : Bool) (s : State) : Outcome :=
  whenPowered (sendRequest h (.lineStatus clear)) s

/-- CAP_CONFIG (R96): the host sends the request. -/
def execCapConfig (h : FrameHead) (policy : Byte) (mark : W16) (s : State) : Outcome :=
  whenPowered (sendRequest h (.capConfig policy mark)) s

/-- CAP_READ (R93): the host sends the request. -/
def execCapRead (h : FrameHead) (s : State) : Outcome :=
  whenPowered (sendRequest h .capRead) s

/-- CAP_ACK (R94): the host sends the request. -/
def execCapAck (h : FrameHead) (serial : W32) (s : State) : Outcome :=
  whenPowered (sendRequest h (.capAck serial)) s

/-- TRG_SET (R106): the host sends the request. -/
def execTrgSet (h : FrameHead) (p : TrgSetParams) (s : State) : Outcome :=
  whenPowered (sendRequest h (.trgSet p)) s

/-- TRG_ARM (R107): the host sends the request. -/
def execTrgArm (h : FrameHead) (id : Byte) (count : Byte) (s : State) : Outcome :=
  whenPowered (sendRequest h (.trgArm id count)) s

/-- TRG_DISARM (R108): the host sends the request. -/
def execTrgDisarm (h : FrameHead) (id : Byte) (s : State) : Outcome :=
  whenPowered (sendRequest h (.trgDisarm id)) s

/-- TRG_CLEAR (R108): the host sends the request. -/
def execTrgClear (h : FrameHead) (id : Byte) (s : State) : Outcome :=
  whenPowered (sendRequest h (.trgClear id)) s

/-- TRG_STATUS (R109): the host sends the request. -/
def execTrgStatus (h : FrameHead) (s : State) : Outcome :=
  whenPowered (sendRequest h .trgStatus) s

/-- REF_CONFIG (R124): the host sends the request. -/
def execRefConfig (h : FrameHead) (p : RefConfigParams) (s : State) : Outcome :=
  whenPowered (sendRequest h (.refConfig p)) s

/-- REF_STATUS (R125): the host sends the request. -/
def execRefStatus (h : FrameHead) (s : State) : Outcome :=
  whenPowered (sendRequest h .refStatus) s

/-- PROF_SAVE (R141): the host sends the request. -/
def execProfSave (h : FrameHead) (s : State) : Outcome :=
  whenPowered (sendRequest h .profSave) s

/-- PROF_LOAD (R136): the host sends the request. -/
def execProfLoad (h : FrameHead) (s : State) : Outcome :=
  whenPowered (sendRequest h .profLoad) s

/-- PROF_ERASE (R145): the host sends the request. -/
def execProfErase (h : FrameHead) (s : State) : Outcome :=
  whenPowered (sendRequest h .profErase) s

/-- PROF_STATUS (R147): the host sends the request. -/
def execProfStatus (h : FrameHead) (s : State) : Outcome :=
  whenPowered (sendRequest h .profStatus) s

/-- PROF_LOCK (R146): the host sends the request. -/
def execProfLock (h : FrameHead) (s : State) : Outcome :=
  whenPowered (sendRequest h .profLock) s

/-- LEASE_CONFIG (R157): the host sends the request. -/
def execLeaseConfig (h : FrameHead) (period : W16) (fallback : Byte) (s : State) : Outcome :=
  whenPowered (sendRequest h (.leaseConfig period fallback)) s

/-- LEASE_RESUME (R156): the host sends the request. -/
def execLeaseResume (h : FrameHead) (s : State) : Outcome :=
  whenPowered (sendRequest h .leaseResume) s

/-- LEASE_STATUS (R158): the host sends the request. -/
def execLeaseStatus (h : FrameHead) (s : State) : Outcome :=
  whenPowered (sendRequest h .leaseStatus) s

end Sys2Proof.Machine
end

