-- ==== Sys2Proof/Machine/ExecSupply.lean ====
section
/-! DEFINITION. The meanings of the rows of supply, reset pin, line pins and backup supply. -/

namespace Sys2Proof.Machine

/-- POWER_UP (R7): with VDD already present there is no such event. -/
def execPowerUp (nrstHeld : Bool) (pins : StartPins) (s : State) : Outcome :=
  .next (if s.power then s else gainPower nrstHeld pins s)

/-- POWER_LOSS (R6). -/
def execPowerLoss (s : State) : Outcome :=
  whenPowered losePower s

/-- BACKUP_TICK (R6): with VDD present the tick is a NOMINAL_TICK, so this event does not arise. -/
def execBackupTick (s : State) : Outcome :=
  .next (if s.power then s else backupAdvance s)

/-- NRST (R24): while VDD is absent the main domain does not run. -/
def execNrst (pins : StartPins) (s : State) : Outcome :=
  whenPowered (fun x => mainReset .pin (setPins pins x)) s

/-- RAW_LEVEL_CHANGE (R69): what the outside drives on a line pin, a strap or the flash's data pin changes. -/
def execRawLevelChange (pin : Pin) (drive : PinDrive) (s : State) : Outcome :=
  .next (changePin pin drive s)

/-- BACKUP_DOMAIN_LOSS (R7): VBAT matters while VDD is absent. -/
def execBackupDomainLoss (s : State) : Outcome :=
  .next (if s.power then s else loseBackup s)

end Sys2Proof.Machine
end

