-- ==== Sys2Proof/Machine/ExecTick.lean ====
section
/-! DEFINITION. The meanings of the tick and of what comes about when a block deals with it. -/

namespace Sys2Proof.Machine

/-- NOMINAL_TICK (R2): while VDD is absent the crystal tick is the backup domain's (R6). -/
def execNominalTick (now : List TickPart) (s : State) : Outcome :=
  .next (if s.power then nominalTick now s else backupAdvance s)

/-- TRIM_CARRY (R8): the advance still owed, when it makes a trim carry. -/
def execTrimCarry (ownAfter : Nat) (s : State) : Outcome :=
  whenPowered (dealIf s.tmb.carrying (.advance ownAfter)) s

/-- SLEW_CORRECTION (R9): the advance still owed, when it reads phase 63 with a remainder. -/
def execSlewCorrection (ownAfter : Nat) (s : State) : Outcome :=
  whenPowered (dealIf s.tmb.correcting (.advance ownAfter)) s

/-- RANGE_END (R12): the advance still owed, when it would pass the top value. -/
def execRangeEnd (s : State) : Outcome :=
  whenPowered dealRangeEnd s

/-- PULSE_EXPIRY (R77): the owed tick of line `n`, when it brings the pulse remainder to 0. -/
def execPulseExpiry (n : LineNo) (s : State) : Outcome :=
  whenPowered (dealIf (s.expiring n) (.line n none)) s

/-- EDGE_ACCEPT (R81): the acceptance of a run that is complete, or the owed sample of line `n`, when it completes the run. -/
def execEdgeAccept (n : LineNo) (order : EdgeOrder) (s : State) : Outcome :=
  whenPowered (fun x => if x.complete n then acceptRun n order x else dealIf (x.accepting n) (.line n (some order)) x) s

/-- HOLDOFF_END (R104): the owed tick of trigger `t`, when it ends the holdoff. -/
def execHoldoffEnd (t : TrigNo) (s : State) : Outcome :=
  whenPowered (dealIf (s.holdoffEnding t) (.trigger t)) s

/-- REF_LOST (R122): the owed tick of the edge count, when it passes the loss timeout. -/
def execRefLost (s : State) : Outcome :=
  whenPowered (dealIf s.rds.losing .reference) s

/-- LEASE_EXPIRY (R153): the owed tick of the lease, when it reaches the period. -/
def execLeaseExpiry (s : State) : Outcome :=
  whenPowered (dealIf s.lsm.expiring .lease) s

end Sys2Proof.Machine
end

