-- ==== Sys2Proof/Machine/Dispatch.lean ====
section
/-! DEFINITION. One arm per command, each a direct call of its meaning. -/

namespace Sys2Proof.Machine

/-- The effect of a command on everything but the queue. -/
def exec (i : Instr) (s : State) : Host.Outcome State Fault Refusal :=
  match i with
  | .powerUp nrstHeld pins => Sys2Proof.Machine.execPowerUp nrstHeld pins s
  | .powerLoss => Sys2Proof.Machine.execPowerLoss s
  | .backupTick => Sys2Proof.Machine.execBackupTick s
  | .nrst pins => Sys2Proof.Machine.execNrst pins s
  | .scanDone => Sys2Proof.Machine.execScanDone s
  | .nominalTick now => Sys2Proof.Machine.execNominalTick now s
  | .trimCarry ownAfter => Sys2Proof.Machine.execTrimCarry ownAfter s
  | .slewCorrection ownAfter => Sys2Proof.Machine.execSlewCorrection ownAfter s
  | .rangeEnd => Sys2Proof.Machine.execRangeEnd s
  | .pulseExpiry n => Sys2Proof.Machine.execPulseExpiry n s
  | .edgeAccept n order => Sys2Proof.Machine.execEdgeAccept n order s
  | .holdoffEnd t => Sys2Proof.Machine.execHoldoffEnd t s
  | .refLost => Sys2Proof.Machine.execRefLost s
  | .leaseExpiry => Sys2Proof.Machine.execLeaseExpiry s
  | .byteFramingError => Sys2Proof.Machine.execByteFramingError s
  | .frameLenDiscard len kind seq => Sys2Proof.Machine.execFrameLenDiscard len kind seq s
  | .frameTimeout => Sys2Proof.Machine.execFrameTimeout s
  | .frameCrcDiscard kind seq payload crc => Sys2Proof.Machine.execFrameCrcDiscard kind seq payload crc s
  | .frameEnqueue h payload take => Sys2Proof.Machine.execFrameEnqueue h payload take s
  | .frameUnknownKind kind seq payload => Sys2Proof.Machine.execFrameUnknownKind kind seq payload s
  | .credit seq payload => Sys2Proof.Machine.execCredit seq payload s
  | .linkReset seq payload => Sys2Proof.Machine.execLinkReset seq payload s
  | .frameDuplicate => Sys2Proof.Machine.execFrameDuplicate s
  | .frameOutOfTurn => Sys2Proof.Machine.execFrameOutOfTurn s
  | .requestDecodeFail => Sys2Proof.Machine.execRequestDecodeFail s
  | .transmitDone take => Sys2Proof.Machine.execTransmitDone take s
  | .ident h => Sys2Proof.Machine.execIdent h s
  | .linkStatus h clear => Sys2Proof.Machine.execLinkStatus h clear s
  | .restart h => Sys2Proof.Machine.execRestart h s
  | .timeRead h => Sys2Proof.Machine.execTimeRead h s
  | .timeSet h set => Sys2Proof.Machine.execTimeSet h set s
  | .timeAdjustStep h value => Sys2Proof.Machine.execTimeAdjustStep h value s
  | .timeAdjustSlew h value => Sys2Proof.Machine.execTimeAdjustSlew h value s
  | .timeClear h => Sys2Proof.Machine.execTimeClear h s
  | .trimSet h trim => Sys2Proof.Machine.execTrimSet h trim s
  | .actAdd h p => Sys2Proof.Machine.execActAdd h p s
  | .actCancel h handle => Sys2Proof.Machine.execActCancel h handle s
  | .actPurge h lines origins => Sys2Proof.Machine.execActPurge h lines origins s
  | .actGet h handle => Sys2Proof.Machine.execActGet h handle s
  | .actList h position => Sys2Proof.Machine.execActList h position s
  | .schedHold h => Sys2Proof.Machine.execSchedHold h s
  | .schedRelease h => Sys2Proof.Machine.execSchedRelease h s
  | .schedStatus h => Sys2Proof.Machine.execSchedStatus h s
  | .schedConfig h tolerance => Sys2Proof.Machine.execSchedConfig h tolerance s
  | .lineConfig h line rec => Sys2Proof.Machine.execLineConfig h line rec s
  | .lineDrive h lines action width => Sys2Proof.Machine.execLineDrive h lines action width s
  | .lineStatus h clear => Sys2Proof.Machine.execLineStatus h clear s
  | .capConfig h policy mark => Sys2Proof.Machine.execCapConfig h policy mark s
  | .capRead h => Sys2Proof.Machine.execCapRead h s
  | .capAck h serial => Sys2Proof.Machine.execCapAck h serial s
  | .trgSet h p => Sys2Proof.Machine.execTrgSet h p s
  | .trgArm h id count => Sys2Proof.Machine.execTrgArm h id count s
  | .trgDisarm h id => Sys2Proof.Machine.execTrgDisarm h id s
  | .trgClear h id => Sys2Proof.Machine.execTrgClear h id s
  | .trgStatus h => Sys2Proof.Machine.execTrgStatus h s
  | .refConfig h p => Sys2Proof.Machine.execRefConfig h p s
  | .refStatus h => Sys2Proof.Machine.execRefStatus h s
  | .profSave h => Sys2Proof.Machine.execProfSave h s
  | .profLoad h => Sys2Proof.Machine.execProfLoad h s
  | .profErase h => Sys2Proof.Machine.execProfErase h s
  | .profStatus h => Sys2Proof.Machine.execProfStatus h s
  | .profLock h => Sys2Proof.Machine.execProfLock h s
  | .leaseConfig h period fallback => Sys2Proof.Machine.execLeaseConfig h period fallback s
  | .leaseResume h => Sys2Proof.Machine.execLeaseResume h s
  | .leaseStatus h => Sys2Proof.Machine.execLeaseStatus h s
  | .loadSlotValidated stages => Sys2Proof.Machine.execLoadSlotValidated stages s
  | .saveEraseDone => Sys2Proof.Machine.execSaveEraseDone s
  | .pageProgramDone flaws => Sys2Proof.Machine.execPageProgramDone flaws s
  | .verifyDone => Sys2Proof.Machine.execVerifyDone s
  | .flashTimeout => Sys2Proof.Machine.execFlashTimeout s
  | .recoveryEraseDone => Sys2Proof.Machine.execRecoveryEraseDone s
  | .slotEraseDone => Sys2Proof.Machine.execSlotEraseDone s
  | .rawLevelChange pin drive => Sys2Proof.Machine.execRawLevelChange pin drive s
  | .backupDomainLoss => Sys2Proof.Machine.execBackupDomainLoss s
  | .byteReceived b takes => Sys2Proof.Machine.execByteReceived b takes s

end Sys2Proof.Machine
end

