-- ==== Sys2Proof/WellFormed.lean ====
section
/-! DEFINITION. Which command terms stand for an event of their row: a frame's payload fits its LEN, a form byte is one that its
constructor is for, a frame of a discarding row is one that is discarded, a tick names no part twice, a pin is driven as a pin of
its kind is. -/

namespace Sys2Proof

/-- The payload fits LEN (R162). -/
def payloadFits (payload : List Byte) : Bool := decide (payload.length ≤ Config.payloadMax)

/-- A TIME-SET of another form has a form byte that is neither 0 nor 1 (R181) and fits a frame. -/
def TimeSetForm.wf : TimeSetForm → Bool
  | .instant _ _ => true
  | .calendar .. => true
  | .other form rest => form != 0 && form != 1 && decide (rest.length + 2 ≤ Config.payloadMax)

/-- A KIND that none of the host's frames has (R162, R165). -/
def unknownKind (kind : Byte) : Bool := kind != 0x01 && kind != 0x02 && kind != 0x03 && kind != 0x04

/-- The parts of a tick name no unit twice. -/
def partsDistinct (now : List TickPart) : Bool := decide (now.map TickPart.unit).Nodup

/-- The pin can be driven so: a line pin is let go or held, a strap is held, the flash answers. -/
def Pin.takes : Pin → PinDrive → Bool
  | .line _, .released | .line _, .held _ | .arate, .held _ | .autoload, .held _ | .flash, .answering _ => true
  | .line _, .answering _ | .arate, .released | .arate, .answering _ | .autoload, .released | .autoload, .answering _
  | .flash, .released | .flash, .held _ => false

/-- The term stands for an event of its row. -/
def Instr.wf : Instr → Bool
  | .nominalTick now => partsDistinct now
  | .frameLenDiscard len _ _ => decide (Config.payloadMax < len.toNat)
  | .frameCrcDiscard kind seq payload crc =>
    payloadFits payload && crc != Machine.crc16 (Machine.frameCore kind seq payload)
  | .frameEnqueue _ payload _ => payloadFits payload
  | .frameUnknownKind kind _ payload => unknownKind kind && payloadFits payload
  | .credit _ payload => payloadFits payload
  | .linkReset _ payload => payloadFits payload
  | .timeSet _ set => set.form.wf
  | .rawLevelChange pin drive => pin.takes drive
  | .pageProgramDone flaws => decide (flaws.map Prod.fst).Nodup
  | .powerUp .. | .powerLoss | .backupTick | .nrst _ | .scanDone | .trimCarry _ | .slewCorrection _ | .rangeEnd
  | .pulseExpiry _ | .edgeAccept .. | .holdoffEnd _ | .refLost | .leaseExpiry | .byteFramingError | .frameTimeout
  | .frameDuplicate | .frameOutOfTurn | .requestDecodeFail | .transmitDone _ | .ident _ | .linkStatus .. | .restart _
  | .timeRead _ | .timeAdjustStep .. | .timeAdjustSlew .. | .timeClear _ | .trimSet .. | .actAdd .. | .actCancel ..
  | .actPurge .. | .actGet .. | .actList .. | .schedHold _ | .schedRelease _ | .schedStatus _ | .schedConfig ..
  | .lineConfig .. | .lineDrive .. | .lineStatus .. | .capConfig .. | .capRead _ | .capAck .. | .trgSet .. | .trgArm ..
  | .trgDisarm .. | .trgClear .. | .trgStatus _ | .refConfig .. | .refStatus _ | .profSave _ | .profLoad _ | .profErase _
  | .profStatus _ | .profLock _ | .leaseConfig .. | .leaseResume _ | .leaseStatus _ | .loadSlotValidated _ | .saveEraseDone
  | .verifyDone | .flashTimeout | .recoveryEraseDone | .slotEraseDone | .backupDomainLoss
  | .byteReceived .. => true

end Sys2Proof
end

