-- ==== Sys2Proof/Safety.lean ====
section
/-! DEFINITION. What the claims speak of: when the link can serve a request at once, what serving it means, and the properties
of a state that every step is meant to keep. -/

namespace Sys2Proof

/-- The frame head and the request of a row that is a request. -/
def Instr.asRequest : Instr → Option (FrameHead × Request)
  | .ident h => some (h, .ident)
  | .linkStatus h clear => some (h, .linkStatus clear)
  | .restart h => some (h, .restart)
  | .timeRead h => some (h, .timeRead)
  | .timeSet h set => some (h, .timeSet set.form)
  | .timeAdjustStep h value => some (h, .timeAdjust 0 value)
  | .timeAdjustSlew h value => some (h, .timeAdjust 1 value)
  | .timeClear h => some (h, .timeClear)
  | .trimSet h trim => some (h, .trimSet trim)
  | .actAdd h p => some (h, .actAdd p)
  | .actCancel h handle => some (h, .actCancel handle)
  | .actPurge h lines origins => some (h, .actPurge lines origins)
  | .actGet h handle => some (h, .actGet handle)
  | .actList h position => some (h, .actList position)
  | .schedHold h => some (h, .schedHold)
  | .schedRelease h => some (h, .schedRelease)
  | .schedStatus h => some (h, .schedStatus)
  | .schedConfig h tolerance => some (h, .schedConfig tolerance)
  | .lineConfig h line rec => some (h, .lineConfig line rec)
  | .lineDrive h lines action width => some (h, .lineDrive lines action width)
  | .lineStatus h clear => some (h, .lineStatus clear)
  | .capConfig h policy mark => some (h, .capConfig policy mark)
  | .capRead h => some (h, .capRead)
  | .capAck h serial => some (h, .capAck serial)
  | .trgSet h p => some (h, .trgSet p)
  | .trgArm h id count => some (h, .trgArm id count)
  | .trgDisarm h id => some (h, .trgDisarm id)
  | .trgClear h id => some (h, .trgClear id)
  | .trgStatus h => some (h, .trgStatus)
  | .refConfig h p => some (h, .refConfig p)
  | .refStatus h => some (h, .refStatus)
  | .profSave h => some (h, .profSave)
  | .profLoad h => some (h, .profLoad)
  | .profErase h => some (h, .profErase)
  | .profStatus h => some (h, .profStatus)
  | .profLock h => some (h, .profLock)
  | .leaseConfig h period fallback => some (h, .leaseConfig period fallback)
  | .leaseResume h => some (h, .leaseResume)
  | .leaseStatus h => some (h, .leaseStatus)
  | .powerUp .. | .powerLoss | .backupTick | .nrst _ | .scanDone | .nominalTick _ | .trimCarry _ | .slewCorrection _
  | .rangeEnd | .pulseExpiry _ | .edgeAccept .. | .holdoffEnd _ | .refLost | .leaseExpiry | .byteFramingError
  | .frameLenDiscard .. | .frameTimeout | .frameCrcDiscard .. | .frameEnqueue .. | .frameUnknownKind .. | .credit ..
  | .linkReset .. | .frameDuplicate | .frameOutOfTurn | .requestDecodeFail | .transmitDone _ | .loadSlotValidated _
  | .saveEraseDone | .pageProgramDone _ | .verifyDone | .flashTimeout | .recoveryEraseDone | .slotEraseDone
  | .rawLevelChange .. | .backupDomainLoss | .byteReceived .. => none

/-- Where the TIME-STATE of a row that is a request is posted among the Scheduler's notices: free for TIME-SET alone (R173; log
entry 8). -/
def Instr.stateAfter : Instr → Nat
  | .timeSet _ set => set.stateAfter
  | _ => 0

/-- A read-type request (R170). -/
def Request.isRead (r : Request) : Bool := Machine.readTypeCodes.contains (Machine.requestCode r)

/-- The request fits a frame, and its form byte is one that its constructor is for. -/
def Request.fits : Request → Bool
  | .timeSet form => form.wf
  | _ => true

/-- The request can be sent in a frame of this kind: a read-type request goes as a REQUEST (R170). -/
def Request.sendable (r : Request) (h : FrameHead) : Prop := h.kind = .posted → r.isRead = false

end Sys2Proof

namespace Sys2Proof.Machine

/-! ## Serving a request -/

/-- The part is powered and its receiver is between frames. -/
structure Listening (s : State) : Prop where
  power   : s.power = true
  rx      : s.lnk.rx = .hunt
  backlog : s.lnk.backlog = []

/-- A request with this head, sent now, is taken and executed at once: no frame is in the way, the reply buffer has room, no
RESTART is pending, and its SEQ is the one the sequence state lets be executed (R163, R166, R167). -/
structure Quiet (h : FrameHead) (s : State) : Prop where
  listening : Listening s
  inbound   : s.lnk.inbound = []
  room      : s.lnk.replies.length < Config.replyMax
  restart   : s.lnk.restartPending = false
  seq       : s.lnk.seqState = .free ∨ ∃ l k, s.lnk.seqState = .expecting h.seq l k

/-- The state as the owner of a request finds it: the lease is renewed, the sequence state has moved on, and an idle transmitter
waits for the reply (R152, R167, R170). -/
def begun (h : FrameHead) (s : State) : State :=
  match h.kind with
  | .request => holdForReply (advanceSeq h (renewLease s))
  | .posted => advanceSeq h (renewLease s)

/-- The state once the owner's result is settled: a REQUEST has its reply in the cache and the buffer, a POSTED frame that fails
posts POSTED-FAILED (R168, R170, R171). -/
def ended (h : FrameHead) (code : Byte) (st : Status) (data : List Byte) (s : State) : State :=
  match h.kind with
  | .request => settleRequest (formReply h.seq code st data false) s
  | .posted => settlePosted ⟨h, [code]⟩ st s

/-- The state after a request whose owner gives an answer. -/
def served (h : FrameHead) (r : Request) (after : Nat) (s : State) : State :=
  let a := answer r after (begun h s)
  ended h (BitVec.ofNat 8 (requestCode r)) a.status a.data a.state

/-! ## What a main reset leaves -/

/-- `t` is what a main reset makes of `s` with this start cause, these pins and this backup domain: every block at its values of a
main reset, STARTED in transmission as notice 0 on one of the two credits, behind it TIME-STATE where TRACKING became HOLDOVER,
then the PROFILE-DONE of a start-up that ended at once (R24, R48, R87, R98, R111, R127, R128, R130, R135, R160, R173, R176). A flash
command in hand has completed or has not happened (R149; which of the two is log entry 2). -/
def State.resetTo (s : State) (backup : Tmb) (cause : StartCause) (pins : StartPins) (t : State) : Prop :=
  let present := pins.maker != 0 && pins.maker != 0xFF
  let lost := backup.validity = .tracking
  let first : List (Byte × Notice) :=
    if lost then [(1, .timeState .tracking .holdover .mainReset backup.instant backup.generation)] else []
  let done : List (Byte × Notice) :=
    if present then []
    else [(if lost then 2 else 1, .profileDone (.plain .load (if pins.autoload then .noFlash else .skipped)))]
  t.power = true ∧ t.straps = ⟨pins.arate, pins.autoload⟩ ∧
  t.tmb = { backup with validity := if lost then .holdover else backup.validity, elapsed := 0 } ∧
  t.sch = { entries := [], lastHandle := 0, stamps := 0, tolerance := 2,
            hold := { host := false, notime := decide (backup.validity = .unset), lease := false,
                      load := present && pins.autoload } } ∧
  (∀ n : LineNo, t.lin[n] = { config := ⟨.off, .low, .low, .none, 0, .none⟩, output := none, input := none, glitches := 0,
                              ext := (s.lin[n]).ext }) ∧
  t.cap = { log := [], lastSerial := 0, lost := 0, policy := .keepOldest, mark := 1, armed := true } ∧
  (∀ n : TrigNo, t.trg[n] = none) ∧
  t.rds = { line := none, config := ⟨.off, .rise, 8, 3, 5⟩, state := .idle, run := 0, count := 0, history := [] } ∧
  t.prs = { present := present, job := if !present then .idle else if pins.autoload then .loading true .validating
              else .scanning,
            descA := ⟨false, 0⟩, descB := ⟨false, 0⟩, target := none, image := none, locked := false } ∧
  t.lsm = { period := 0, fallback := .notify, state := .disabled, count := 0 } ∧
  t.flash.maker = pins.maker ∧ (s.prs.command = none → t.flash.cells = s.flash.cells) ∧
  (∀ slot, s.prs.command = some (.erase slot) →
    t.flash.cells = s.flash.cells ∨ t.flash.cells = Memory.erase s.flash.cells slot) ∧
  (∀ a bs, s.prs.command = some (.program a bs) →
    t.flash.cells = s.flash.cells ∨ t.flash.cells = Memory.writeAll s.flash.cells a bs) ∧
  t.lnk = { rx := .hunt, backlog := [], inbound := [], restartPending := false, seqState := .free, cache := .empty, replies := [],
            tx := .notice 0 (.started cause pins.arate pins.autoload present), notices := first ++ done,
            nextNotice := 1 + BitVec.ofNat 8 (first ++ done).length, lost := 0, credits := 1,
            counters := { crc := 0, timeout := 0, framing := 0, overflow := 0, gap := 0, duplicate := 0 },
            arate := pins.arate, autoload := pins.autoload, startCause := cause }

/-! ## Properties that every step is meant to keep -/

/-- The Time Base in its ranges, with no slew while UNSET (R1, R14). -/
def Tmb.inRange (t : Tmb) : Prop :=
  t.instant.inRange = true ∧ -2048 ≤ t.trim ∧ t.trim ≤ 2047 ∧ -Config.trimUnit < t.acc ∧ t.acc < Config.trimUnit ∧
  t.slew.natAbs ≤ Config.slewMax ∧ t.phase ≤ 63 ∧ (t.validity = .unset → t.slew = 0)

/-- Every onset that a filter run holds is an instant of the range (R81). -/
def State.onsetsInRange (s : State) : Prop :=
  ∀ n : LineNo, ∀ f r, (s.lin[n]).input = some f → f.run = some r → r.onset.inRange = true

/-- The time base and the onsets measured by it are in range (R1). -/
def State.timeOk (s : State) : Prop := s.tmb.inRange ∧ s.onsetsInRange

/-- A link counter is within its 16 bits (R178). -/
def Counters.inRange (c : Counters) : Prop :=
  c.crc ≤ Config.countMax ∧ c.timeout ≤ Config.countMax ∧ c.framing ≤ Config.countMax ∧ c.overflow ≤ Config.countMax ∧
  c.gap ≤ Config.countMax ∧ c.duplicate ≤ Config.countMax

/-- What the transmitter is doing fits the buffer, the queue and the credits (R172). -/
def Lnk.txFits (k : Lnk) : Prop :=
  match k.tx with
  | .idle => k.replies = [] ∧ (k.notices = [] ∨ k.credits = 0)
  | .reply => k.replies ≠ []
  | .notice _ _ => True
  | .forReply => False

/-- The Link Controller between commands: its queues and counts within their limits, at most one CAPTURE-PENDING queued, a lost
count above 0 only with a full queue, the transmitter never idle with work it may do, E one above L, no byte unscanned
(R163, R166, R167, R172 to R174, R178). -/
def Lnk.ok (k : Lnk) : Prop :=
  k.credits ≤ Config.creditMax ∧ k.notices.length ≤ Config.noticeMax ∧ k.inbound.length ≤ Config.inboundMax ∧
  k.replies.length ≤ Config.replyMax ∧ k.lost ≤ Config.countMax ∧ k.counters.inRange ∧
  (k.notices.filter fun q => q.2.isCapturePending).length ≤ 1 ∧ (0 < k.lost → k.notices.length = Config.noticeMax) ∧
  k.txFits ∧ (∀ e l kind, k.seqState = .expecting e l kind → e = l + 1) ∧ k.backlog = []

/-- The serials of a log that follow a serial `q` one by one (R89). -/
def serialsFrom (q : W32) : List CapRecord → Bool
  | [] => true
  | r :: rs => r.serial == q + 1 && serialsFrom (q + 1) rs

/-- The Capture Log: at most 256 records with consecutive serials that end at the last serial; no loss is counted while the log is
empty; the flag is no from the mark on (R89, R94, R95). -/
def Cap.ok (c : Cap) : Prop :=
  c.log.length ≤ Config.captureMax ∧ serialsFrom (c.lastSerial - BitVec.ofNat 32 c.log.length) c.log = true ∧
  (c.log = [] → c.lost = 0) ∧ c.lost ≤ Config.countMax ∧ (c.armed = true → c.log.length < c.mark ∨ c.log = [])

/-- `a` stands before `b` in the schedule (R29). -/
def Entry.precedes (a b : Entry) : Prop := a.due.ticks < b.due.ticks ∨ (a.due.ticks = b.due.ticks ∧ a.stamp < b.stamp)

/-- A repeat has a period above 0, in the schedule and in the entries that a load has still to insert (R25). -/
def State.periodsOk (s : State) : Prop :=
  (∀ e ∈ s.sch.entries, ∀ r, e.rep = some r → 0 < r.period) ∧
  (∀ su slot gen fb st i d, s.prs.job = .loading su (.applying slot gen fb st i d) →
    ∀ e p, LoadStage.insertEntry e ∈ st → e.period = some p → 0 < p)

/-- The schedule is in schedule order, no two entries share a stamp, no stamp is above the counter, and a RUNNING scheduler holds
no entry whose due has come (R28, R29, R50, R61). -/
def State.scheduleOk (s : State) : Prop :=
  s.sch.entries.Pairwise Entry.precedes ∧ (s.sch.entries.map (·.stamp)).Nodup ∧
  (∀ e ∈ s.sch.entries, e.stamp ≤ s.sch.stamps) ∧ s.periodsOk ∧
  (s.power = true → s.sch.hold.isEmpty = true → ∀ e ∈ s.sch.entries, s.now < e.due.ticks)

/-- The hold reasons that other blocks own stand exactly while their cause does (R41). -/
def State.holdsOk (s : State) : Prop :=
  s.power = true → (s.sch.hold.notime = true ↔ s.tmb.validity = .unset) ∧ (s.sch.hold.load = true ↔ s.loading = true)

/-- The lease state goes with the period, and a RUNNING count is below the limit (R151, R153). -/
def Lsm.ok (l : Lsm) : Prop :=
  match l.state with
  | .disabled => l.period = 0 ∧ l.count = 0
  | .running => 0 < l.period ∧ l.count < l.limit
  | .expired => True

/-- The Reference Discipline: IDLE exactly without a line or with mode OFF, the count at 0 in IDLE and WAITING and within its
16 bits, at most 16 samples (R112, R113, R121). -/
def Rds.ok (r : Rds) : Prop :=
  (r.state = .idle ↔ r.line = none ∨ r.config.mode = .off) ∧ (r.state = .idle ∨ r.state = .waiting → r.count = 0) ∧
  r.count ≤ Config.countMax ∧ r.history.length ≤ Config.historyMax

/-- The application of a profile slot is under way. -/
def State.applying (s : State) : Bool := match s.prs.job with
  | .loading _ (.applying ..) => true
  | _ => false

/-- Every line named in an entry's line set or a trigger template has an output role, and every line named as a guard or as a
trigger source has the INPUT role (R71). -/
def State.rolesOk (s : State) : Prop :=
  (∀ n, s.namedOutput n = true → s.outputRole n = true) ∧ (∀ n, s.namedInput n = true → s.inputRole n = true)

/-- The reference line is the one line with the REFERENCE role (R70, R114). -/
def State.referenceOk (s : State) : Prop := ∀ n : LineNo, (s.lin[n]).config.role = .reference ↔ s.rds.line = some n

/-- The application of a profile under way has done the stages it has behind it: `k` of them, with the rest still in hand. Once
the triggers have been dropped none is back before the last stage, the entries are gone until the stored ones come, the lines
are OFF and then the stored ones, and what is still to be inserted fits the stored lines (R111, R133, R138). -/
def State.applied (s : State) (p : Profile) (k : Nat) : Prop :=
  p.rolesFit = true ∧
  (0 < k → k < p.stages.length → ∀ n : TrigNo, s.trg[n] = none) ∧
  (2 ≤ k → k ≤ 8 → s.sch.entries = []) ∧
  (k = 3 → ∀ n : LineNo, (s.lin[n]).config = LineConfig.off) ∧
  (4 ≤ k → ∀ n : LineNo, (s.lin[n]).config = p.lines[n])

/-- Every application of a profile under way is at one of its stages (R138). -/
def State.loadOk (s : State) : Prop :=
  ∀ su slot gen fb st i d, s.prs.job = .loading su (.applying slot gen fb st i d) →
    ∃ p k, st = p.stages.drop k ∧ s.applied p k

/-- Each line has the state that its role gives it, a pulse shows the inverse of its rest level, and a run is no longer than its
acceptance length (R73, R81). -/
def Line.ok (l : Line) : Prop :=
  l.output.isSome = l.config.role.isOutput ∧ l.input.isSome = l.config.role.isInput ∧
  (∀ o p, l.output = some o → o.pulse = some p → o.commanded = p.rest.inv) ∧
  (∀ f r, l.input = some f → f.run = some r → 0 < r.count ∧ r.count ≤ l.config.acceptance) ∧
  l.glitches ≤ Config.countMax

/-- Every line is as its role says. -/
def State.linesOk (s : State) : Prop := ∀ n : LineNo, (s.lin[n]).ok

end Sys2Proof.Machine
end

