-- ==== Sys2Proof/Certificates/Slice0/Obligations.lean ====
section
/-! DEFINITION. The statements for the provers. Each docstring names the rules of the spec that the statement formalises or rests
on. A request row is stated as one equation: the state after it is the owner's change, made between `begun` and `ended`, so
everything that the equation does not write is as it was. -/

open Sys2Proof Sys2Proof.Machine

/-! ## Steps -/

/-- The command at the front of the queue runs on the part with the queue's rest. The queue is the model's own (log entry 5). -/
def Obligations.StepRunsFrontCommand : Prop :=
  ∀ (c : Instr) (rest : List Instr) (s : State), s.pending = c :: rest → step s = exec c (s.setPending rest)

/-- Every command answers a next state and leaves the queue of waiting commands as it is. That no command stops the part is the
model's reading (DEDUCED, log entry 20), and the queue is the model's own (log entry 5). -/
def Obligations.EveryCommandAnswers : Prop :=
  ∀ (c : Instr) (s : State), ∃ t, exec c s = .next t ∧ t.pending = s.pending

/-! ## Requests and their frames -/

/-- The payload of every request decodes to that request, with every parameter at every value (R170, 10.3); a read-type
request sent posted fails with STATE (R170). -/
def Obligations.PayloadsDecode : Prop :=
  ∀ (r : Request) (k : ReqKind), r.fits = true →
    (encodeRequest r).length ≤ Config.payloadMax ∧
    decodePayload k (encodeRequest r) =
      if k = .posted ∧ r.isRead = true then .error (BitVec.ofNat 8 (requestCode r), .state) else .ok r

/-- A request sent to a part whose link is quiet is received byte by byte, renews the lease, is taken, decoded and handed to its
owner, and its result is settled; a read-type request sent posted fails with STATE, reaches no owner, and counts as executed
(R152, R163, R165 to R168, R170). RESTART has statements of its own. That the
whole frame arrives and is taken in one row is log entry 10, and that a reply goes before the notices of its execution log
entry 22. -/
def Obligations.RequestsAreServed : Prop :=
  ∀ (i : Instr) (h : FrameHead) (r : Request) (s : State), i.asRequest = some (h, r) → Quiet h s → r.fits = true →
    (r.sendable h → r ≠ .restart → exec i s = .next (served h r i.stateAfter s)) ∧
    (h.kind = .posted → r.isRead = true →
      exec i s = .next (ended h (BitVec.ofNat 8 (requestCode r)) .state [] (begun h s)))

/-- What serving adds to the owner's change: the lease renewed, the sequence state moved on, and for a REQUEST the reply in the
cache and the buffer, for a POSTED frame the cache's note and, where the request was not taken, POSTED-FAILED. All else is as
it was (R152, R167, R168, R170, R171). -/
def Obligations.ServingTouchesTheLink : Prop :=
  ∀ (q code : Byte) (st : Status) (data : List Byte) (s : State), s.lnk.tx ≠ .forReply →
    (let r := Reply.answer q code st false (if st.taken then data else []) false
     ended ⟨.request, q⟩ code st data (begun ⟨.request, q⟩ s) =
       (s.setLsm s.lsm.renew).setLnk { s.lnk with
         seqState := .expecting (q + 1) q .request, cache := .reply r, replies := s.lnk.replies ++ [r],
         tx := if s.lnk.tx = .idle then .reply else s.lnk.tx }) ∧
    (let t := (s.setLsm s.lsm.renew).setLnk { s.lnk with seqState := .expecting (q + 1) q .posted, cache := .posted }
     ended ⟨.posted, q⟩ code st data (begun ⟨.posted, q⟩ s) =
       if st.taken then t else post (.postedFailed q code st 0) t)

/-! ## Reads -/

/-- TIME-READ replies with the instant, its calendar fields, the tick, the validity, the generation, the trim, the slew
remainder and the elapsed counter, all of one moment; IDENT with the identification, the capacities, the straps as sampled, the
start cause and the lock flag. Neither changes anything (R18, R177, 10.3). R130 says that IDENT reports the flash presence too;
that the reply has no byte for it, as R182 and 10.3 lay it out, is the model's choice (log entry 27). -/
def Obligations.TimeReadAndIdentReply : Prop :=
  ∀ (q : Byte) (s : State), Quiet ⟨.request, q⟩ s →
    (let c := civilOf s.tmb.instant.sec
     exec (.timeRead ⟨.request, q⟩) s = .next (ended ⟨.request, q⟩ 0x10 .ok
       (u32 s.tmb.instant.sec ++ u16 s.tmb.instant.tick ++ u16 c.year ++ u8 c.month ++ u8 c.day ++ u8 c.hour ++ u8 c.minute ++
        u8 c.second ++ u8 c.weekday ++ u16 s.tmb.instant.tick ++ u8 s.tmb.validity.code ++ u16 s.tmb.generation.toNat ++
        s16 s.tmb.trim ++ s16 s.tmb.slew ++ u32 s.tmb.elapsed.toNat) (begun ⟨.request, q⟩ s))) ∧
    exec (.ident ⟨.request, q⟩) s = .next (ended ⟨.request, q⟩ 0x01 .ok
      ([0x42, 0x52, 0x16, 0x02, 1, 16, 128, 64, 8, 0x00, 0x01, 32, 4, 250] ++ flag s.lnk.arate ++ flag s.lnk.autoload ++
       u8 s.lnk.startCause.code ++ flag s.prs.locked) (begun ⟨.request, q⟩ s))

/-- The status reads reply OK with the values of one moment and change nothing in their owners, but for the counts that a
clear flag clears after they were taken; the records they carry are laid out as 10.2 and 10.3 give them, with the codes of
their enumerations (R38, R39, R44, R68, R85, R93, R109, R121, R125, R147, R158, R178, R181, 10.2, 10.3). LINE-STATUS reads pins,
so the draw count of the free values moves on (log entry 1). -/
def Obligations.StatusReadsReply : Prop :=
  (∀ (q : Byte) (s : State), Quiet ⟨.request, q⟩ s →
    let h : FrameHead := ⟨.request, q⟩
    let b := begun h s
    (∀ w e, s.sch.find w.toNat = some e → exec (.actGet h w) s = .next (ended h 0x23 .ok e.record b)) ∧
    (∀ w, s.sch.find w.toNat = none → exec (.actGet h w) s = .next (ended h 0x23 .notFound [] b)) ∧
    (∀ p, exec (.actList h p) s = .next (ended h 0x24 .ok
      (let part := (s.sch.entries.drop p.toNat).take 7
       u8 s.sch.entries.length ++ u8 part.length ++ (part.map Entry.record).flatten) b)) ∧
    exec (.schedStatus h) s = .next (ended h 0x2A .ok
      (u8 s.sch.entries.length ++ u8 (s.sch.entries.filter (·.standing)).length ++ s.sch.hold.byte ++ u16 s.sch.tolerance ++
       (match s.sch.entries.head? with
        | none => flag false ++ instantBytes Instant.zero
        | some e => flag true ++ instantBytes e.due)) b) ∧
    (∀ clear, exec (.lineStatus h clear) s = .next (ended h 0x32 .ok
      ((List.finRange 16).map fun n => (s.lin[n]).status (s.raw n)).flatten
      ((if clear then b.setLin (b.lin.map fun l => { l with glitches := 0 }) else b).setDraws (s.draws + 1)))) ∧
    exec (.capRead h) s = .next (ended h 0x41 .ok
      (u16 s.cap.log.length ++ u16 s.cap.lost ++ u32 s.cap.lastSerial.toNat ++ u8 (min 14 s.cap.log.length) ++
       ((s.cap.log.take 14).map CapRecord.bytes).flatten) b) ∧
    exec (.trgStatus h) s = .next (ended h 0x4C .ok ((List.finRange 8).map fun t => triggerRecord t s.trg[t]).flatten b) ∧
    exec (.refStatus h) s = .next (ended h 0x51 .ok
      (s.rds.config.bytes ++ u8 ((s.rds.line.map fun n => n.val + 1).getD 0) ++ u8 s.rds.state.code ++ u8 s.rds.run ++
       u16 s.rds.count ++ u8 s.rds.history.length ++ (s.rds.history.map Sample.bytes).flatten) b) ∧
    exec (.profStatus h) s = .next (ended h 0x63 .ok
      (flag s.prs.present ++ flag s.prs.descA.valid ++ u32 s.prs.descA.generation ++ flag s.prs.descB.valid ++
       u32 s.prs.descB.generation ++ u8 (slotCode (currentSlot s.prs.descA s.prs.descB)) ++ u8 s.prs.job.opState ++
       u8 (slotCode s.prs.target) ++ flag s.prs.locked) b) ∧
    exec (.leaseStatus h) s = .next (ended h 0x72 .ok
      (u16 s.lsm.period ++ u8 s.lsm.fallback.code ++ u8 s.lsm.state.code ++
       u16 (if s.lsm.state = .running then s.lsm.period else 0)) b) ∧
    (∀ clear, exec (.linkStatus h clear) s = .next (ended h 0x02 .ok
      (s.lnk.counters.bytes ++ u8 s.lnk.credits ++ u8 s.lnk.notices.length ++ u16 s.lnk.lost ++
       [1, q + 1, q, 1]) (if clear then b.setLnk { b.lnk with counters := Counters.zero } else b)))) ∧
  (∀ n : Nat, u8 n = [BitVec.ofNat 8 n] ∧ u16 n = [BitVec.ofNat 8 n, BitVec.ofNat 8 (n / 256)] ∧
    u32 n = [BitVec.ofNat 8 n, BitVec.ofNat 8 (n / 256), BitVec.ofNat 8 (n / 65536), BitVec.ofNat 8 (n / 16777216)]) ∧
  (∀ e : Entry, e.record.length = 32 ∧ e.record =
    u16 e.handle ++ u16 e.label.toNat ++ u32 e.due.sec ++ u16 e.due.tick ++ u8 e.kind.code ++
    u8 ((if e.anchor = .interval then 1 else 0) + (if e.late = .skip then 2 else 0) + (if e.notify then 4 else 0) +
      (if e.standing then 8 else 0) + (if e.rep = none then 0 else 16) + (if e.guard = none then 0 else 32)) ++
    u16 e.lines.toNat ++ u16 e.width ++
    (match e.rep with
      | none => [0, 0, 0, 0]
      | some r => u32 r.period) ++ u16 e.remaining ++
    (match e.guard with
      | none => [0, 0]
      | some g => u8 (g.line.val + 1) ++ u8 g.level.code) ++ u8 e.origin.code ++ u16 e.suppressed ++ [0, 0, 0, 0, 0]) ∧
  (∀ r : CapRecord, r.bytes.length = 16 ∧ r.bytes =
    u32 r.serial.toNat ++ u8 (r.line.val + 1) ++ u8 r.edge.code ++ u32 r.instant.sec ++ u16 r.instant.tick ++
    u16 r.generation.toNat ++ u8 r.validity.code ++ [0]) ∧
  (∀ (l : Line) (raw : Level), (l.status raw).length = 12 ∧ l.status raw =
    u8 l.config.role.code ++ u8 l.config.initial.code ++ u8 l.config.safe.code ++ u8 l.config.pull.code ++
    u8 l.config.filter ++ u8 l.config.capture.code ++
    (let outputs : Nat × Nat := match l.output with
       | none => (0, 0)
       | some ⟨c, none⟩ => (c.code, 0)
       | some ⟨c, some p⟩ => (c.code + 2 + 4 * p.rest.code, p.remainder)
     let inputs : Nat × Nat := match l.input with
       | none => (raw.code, 0)
       | some ⟨a, none⟩ => (a.code, 0)
       | some ⟨a, some r⟩ => (a.code, r.count)
     u8 (outputs.1 + 8 * raw.code + 16 * inputs.1) ++ u16 outputs.2 ++ u8 inputs.2) ++ u16 l.glitches) ∧
  (∀ t : TrigNo, triggerRecord t none = u8 (t.val + 1) ++ List.replicate 27 0) ∧
  (∀ (t : TrigNo) (x : Trigger), (triggerRecord t (some x)).length = 28 ∧ triggerRecord t (some x) =
    u8 (t.val + 1) ++ [1] ++ u8 (x.defn.source.val + 1) ++ u8 x.defn.edge.code ++ u32 x.defn.delay ++ u16 x.defn.holdoff ++
    u8 x.armCount ++ u8 x.defn.template.kind.code ++ u16 x.defn.template.lines.toNat ++ u16 x.defn.template.width ++
    u8 x.defn.template.late.code ++ [if x.defn.template.notify then 1 else 0] ++ u8 x.state.code ++ [0] ++ u16 x.remainder ++
    u16 x.overruns ++ u32 x.fired.toNat) ∧
  (∀ x : Sample, x.bytes.length = 8 ∧ x.bytes = u32 x.sec ++ u16 (x.offset % 65536).toNat ++ u8 x.outcome.code ++ [0]) ∧
  (∀ c : RefConfig, c.bytes = u8 c.mode.code ++ u8 c.edge.code ++ u16 c.window ++ u8 c.limit ++ u8 c.timeout) ∧
  (∀ c : Counters, c.bytes =
    u16 c.crc ++ u16 c.timeout ++ u16 c.framing ++ u16 c.overflow ++ u16 c.gap ++ u16 c.duplicate) ∧
  (∀ h : HoldSet, h.byte =
    u8 ((if h.host then 1 else 0) + (if h.notime then 2 else 0) + (if h.lease then 4 else 0) + (if h.load then 8 else 0))) ∧
  [Level.low, .high].map Level.code = [0, 1] ∧ [Edge.rise, .fall].map Edge.code = [0, 1] ∧
  [TrigEdge.rise, .fall, .both].map TrigEdge.code = [0, 1, 2] ∧ [LatePolicy.run, .skip].map LatePolicy.code = [0, 1] ∧
  [Kind.high, .low, .toggle, .pulse, .mark].map Kind.code = [0, 1, 2, 3, 4] ∧
  [Origin.host, .profile, .trigger].map Origin.code = [0, 1, 2] ∧
  [Role.off, .pushPull, .openDrain, .input, .reference].map Role.code = [0, 1, 2, 3, 4] ∧
  [SafeLevel.low, .high, .keep].map SafeLevel.code = [0, 1, 2] ∧ [Pull.none, .up, .down].map Pull.code = [0, 1, 2] ∧
  [CaptureEdges.none, .rise, .fall, .both].map CaptureEdges.code = [0, 1, 2, 3] ∧
  [Validity.unset, .set, .tracking, .holdover].map Validity.code = [0, 1, 2, 3] ∧
  [TrigState.disarmed, .armed, .holdoff, .spent].map TrigState.code = [0, 1, 2, 3] ∧
  [RefMode.off, .observe, .steer].map RefMode.code = [0, 1, 2] ∧
  [RefState.idle, .waiting, .active, .lost].map RefState.code = [0, 1, 2, 3] ∧
  [SampleOutcome.accepted, .outlier, .stepped, .ignored].map SampleOutcome.code = [0, 1, 2, 3] ∧
  [Fallback.notify, .hold, .safe, .safeHold, .restart].map Fallback.code = [0, 1, 2, 3, 4] ∧
  [LeaseState.disabled, .running, .expired].map LeaseState.code = [0, 1, 2]

/-! ## Time -/

/-- TIME-SET steps the instant to the one given, by its seconds and tick or by its calendar fields, sets the validity to SET with the
step, and replies with the new generation; with invalid fields it is refused with BAD_VALUE and changes nothing (R5, R15, R19).
Where TIME-STATE stands among the Scheduler's notices of the step is free, and the row's operand says it (log entry 8). -/
def Obligations.TimeSetSteps : Prop :=
  ∀ (h : FrameHead) (after : Nat) (s : State), Quiet h s →
    let set := fun i : Instant => stepWith i .hostSet (some ⟨.set, .hostSet⟩) after (begun h s)
    (∀ (seconds : W32) (tick : W16), exec (.timeSet h ⟨.instant seconds tick, after⟩) s = .next
      (if seconds.toNat ≤ 3155759999 ∧ tick.toNat ≤ 1023 then
        ended h 0x11 .ok (u16 (s.tmb.generation + 1).toNat) (set ⟨seconds.toNat, tick.toNat⟩)
       else ended h 0x11 .badValue [] (begun h s))) ∧
    (∀ (y : W16) (mo d hr mi se : Byte) (tick : W16), exec (.timeSet h ⟨.calendar y mo d hr mi se tick, after⟩) s = .next
      (if civilValid y.toNat mo.toNat d.toNat hr.toNat mi.toNat se.toNat tick.toNat then
        ended h 0x11 .ok (u16 (s.tmb.generation + 1).toNat)
          (set (instantOfCivil y.toNat mo.toNat d.toNat hr.toNat mi.toNat se.toNat tick.toNat))
       else ended h 0x11 .badValue [] (begun h s))) ∧
    (∀ (form : Byte) (rest : List Byte), (TimeSetForm.other form rest).wf = true →
      exec (.timeSet h ⟨.other form rest, after⟩) s = .next (ended h 0x11 .badValue [] (begun h s)))

/-- Valid calendar fields and the instant they give are each other's conversion, the instant lies in the range, and the weekday
follows from the day number (R3, R4, R5). -/
def Obligations.CalendarRoundTrip : Prop :=
  (∀ y mo d hr mi se tick : Nat, civilValid y mo d hr mi se tick = true →
    let i := instantOfCivil y mo d hr mi se tick
    i.inRange = true ∧ i.tick = tick ∧
    civilOf i.sec = { year := y, month := mo, day := d, hour := hr, minute := mi, second := se,
                      weekday := (i.sec / 86400 + 5) % 7 + 1 }) ∧
  (∀ sec : Nat, sec ≤ 3155759999 →
    let c := civilOf sec
    civilValid c.year c.month c.day c.hour c.minute c.second 0 = true ∧
    instantOfCivil c.year c.month c.day c.hour c.minute c.second 0 = ⟨sec, 0⟩)

/-- A step, with the change of validity that its operation brings: the instant is replaced, the generation rises, the slew is
cancelled, the outlier run ends. TIME-STEP comes first, then ACTION-DONE with DISCARDED for every INTERVAL entry with notify that
is carried past the range, in schedule order, with the TIME-STATE of the operation behind `after` of the Scheduler's dealings.
A CALENDAR entry keeps its due, an INTERVAL entry is shifted by the difference, not below 0. A HELD scheduler takes nothing; a
RUNNING one, or one that the change of validity sets RUNNING, makes a pass over the re-sorted schedule, which leaves nothing due
and loses nothing not yet due. Nothing outside the time base, the schedule, the lines' outputs, the outlier run and the notices
changes (R13, R14, R15, R41, R60, R61, R62, R123, R173). That `after` says where TIME-STATE stands among the Scheduler's notices is
the model's choice (log entry 8). -/
def Obligations.StepsReplaceTheInstant : Prop :=
  ∀ (new : Instant) (cause : StepCause) (change : Option ValidityChange) (after : Nat) (s : State),
    let t := stepWith new cause change after s
    let v := match change with
      | none => s.tmb.validity
      | some c => c.target
    let freed := s.tmb.validity = .unset ∧ v ≠ .unset
    let shifted := fun e : Entry => if e.anchor = .calendar then e.due.ticks else e.due.ticks + new.ticks - s.now
    let lost := fun e : Entry => decide (e.anchor = .interval) && decide (Instant.top.ticks + s.now < e.due.ticks + new.ticks)
    let gone := s.sch.entries.filter lost
    let told := fun es : List Entry => (es.filter (·.notify)).map fun e => Notice.actionDone
      { handle := e.handle, label := e.label, outcome := .discarded, final := true, due := e.due, lateness := 0, consumed := 0,
        remaining := e.remaining, generation := s.tmb.generation + 1 }
    let own := match change with
      | none => []
      | some c => if c.target = s.tmb.validity then []
                  else [Notice.timeState s.tmb.validity c.target c.cause new (s.tmb.generation + 1)]
    let stepped := Notice.timeStep cause s.tmb.instant new (s.tmb.generation + 1)
    t.tmb = { s.tmb with instant := new, generation := s.tmb.generation + 1, slew := 0, validity := v } ∧
    t.rds = { s.rds with run := 0 } ∧
    t.power = s.power ∧ t.straps = s.straps ∧ t.cap = s.cap ∧ t.trg = s.trg ∧ t.prs = s.prs ∧ t.lsm = s.lsm ∧
    t.flash = s.flash ∧ t.owed = s.owed ∧ t.draws = s.draws ∧ t.pending = s.pending ∧
    t.sch.hold = (if freed then { s.sch.hold with notime := false } else s.sch.hold) ∧
    t.sch.tolerance = s.sch.tolerance ∧ t.sch.lastHandle = s.sch.lastHandle ∧
    (∀ n : LineNo, (t.lin[n]).config = (s.lin[n]).config ∧ (t.lin[n]).input = (s.lin[n]).input) ∧
    (t.sch.hold.isEmpty = false → t.lin = s.lin ∧
      (∀ e ∈ s.sch.entries, e.anchor = .calendar → e ∈ t.sch.entries) ∧
      (∀ e ∈ s.sch.entries, e.anchor = .interval → e.due.ticks + new.ticks ≤ Instant.top.ticks + s.now →
        { e with due := Instant.ofTicks (e.due.ticks + new.ticks - s.now) } ∈ t.sch.entries) ∧
      (∀ x ∈ t.sch.entries, ∃ e ∈ s.sch.entries, x = { e with due := x.due } ∧
        (e.anchor = .calendar → x.due = e.due) ∧
        (e.anchor = .interval → x.due.ticks = e.due.ticks + new.ticks - s.now ∧ x.due.ticks ≤ Instant.top.ticks))) ∧
    (t.sch.hold.isEmpty = true → (∀ e ∈ s.sch.entries, ∀ r, e.rep = some r → 0 < r.period) →
      (∀ e ∈ t.sch.entries, new.ticks < e.due.ticks) ∧
      (∀ e ∈ s.sch.entries, lost e = false → new.ticks < shifted e →
        ∃ x ∈ t.sch.entries, x = { e with due := x.due, stamp := x.stamp } ∧ x.due.ticks = shifted e)) ∧
    (own = [] → (∀ e ∈ s.sch.entries, ∀ r, e.rep = some r → 0 < r.period) → ∃ u, t = pass u ∧ u.tmb = t.tmb ∧ u.lin = s.lin ∧ u.sch.hold = t.sch.hold ∧ u.sch.stamps = s.sch.stamps ∧
      u.sch.entries.Pairwise (fun a b => a.before b = true) ∧
      u.sch.entries.Perm ((s.sch.entries.filter fun e => !lost e).map fun e =>
        if e.anchor = .calendar then e else { e with due := Instant.ofTicks (shifted e) })) ∧
    (s.lnk.tx ≠ .idle → s.lnk.notices.length + s.sch.entries.length + 2 ≤ Config.noticeMax →
      s.lnk.notices ++ [(s.lnk.nextNotice, stepped)] <+: t.lnk.notices ∧
      (t.sch.hold.isEmpty = false → t.lnk.notices.map Prod.snd =
        s.lnk.notices.map Prod.snd ++ stepped :: (told (gone.take after) ++ own ++ told (gone.drop after))) ∧
      (t.sch.hold.isEmpty = true → s.lnk.notices.map Prod.snd ++ stepped ::
        (if after < gone.length then told (gone.take after) ++ own ++ told (gone.drop after) else told gone)
          <+: t.lnk.notices.map Prod.snd))

/-- A change of validity posts TIME-STATE and moves NOTIME with UNSET; an event that leads to the validity already held does
nothing (R13, R14, R41). Where it starts a pass, TIME-STATE is posted behind `after` of its takings, which is free (R173; log
entry 8). -/
def Obligations.ValidityChangesAreReported : Prop :=
  ∀ (v : Validity) (cause : ValidityCause) (after : Nat) (s : State),
    let t := setValidity v cause after s
    let own := Notice.timeState s.tmb.validity v cause s.tmb.instant s.tmb.generation
    (v = s.tmb.validity → t = s) ∧ t.tmb = { s.tmb with validity := v } ∧
    (v ≠ s.tmb.validity → (v = .unset → t.sch = { s.sch with hold := s.sch.hold.put .notime true }) ∧
      (s.tmb.validity = .unset → t.sch.hold = s.sch.hold.put .notime false) ∧
      (v ≠ .unset → s.tmb.validity ≠ .unset → t.sch = s.sch) ∧
      (s.lnk.tx ≠ .idle → s.lnk.notices.length < Config.noticeMax → after = 0 ∨ s.tmb.validity ≠ .unset →
        s.lnk.notices ++ [(s.lnk.nextNotice, own)] <+: t.lnk.notices) ∧
      (s.lnk.tx ≠ .idle → s.lnk.notices.length + after < Config.noticeMax → own ∈ t.lnk.notices.map Prod.snd)) ∧
    t.power = s.power ∧ t.straps = s.straps ∧ t.cap = s.cap ∧ t.trg = s.trg ∧ t.rds = s.rds ∧ t.prs = s.prs ∧
    t.lsm = s.lsm ∧ t.flash = s.flash ∧ t.owed = s.owed ∧ t.draws = s.draws ∧ t.pending = s.pending

/-- TIME-ADJUST: STEP and SLEW with their checks in order; a refusal changes nothing. TIME-CLEAR clears the slew and changes the
validity to UNSET, replies with the validity found, and changes nothing where it is already UNSET (R20, R21, R23). -/
def Obligations.TimeAdjustsAndClears : Prop :=
  ∀ (h : FrameHead) (v : W32) (s : State), Quiet h s →
    (let target := (s.tmb.instant.ticks : Int) + v.toInt
     exec (.timeAdjustStep h v) s = .next
      (if 88473600 < v.toInt.natAbs then ended h 0x12 .badValue [] (begun h s)
       else if s.tmb.validity = .unset then ended h 0x12 .noTime [] (begun h s)
       else if target < 0 ∨ (Instant.top.ticks : Int) < target then ended h 0x12 .badValue [] (begun h s)
       else ended h 0x12 .ok (instantBytes (Instant.ofTicks target.toNat) ++ u16 (s.tmb.generation + 1).toNat)
         (makeStep (Instant.ofTicks target.toNat) .hostAdjust (begun h s)))) ∧
    exec (.timeAdjustSlew h v) s = .next
      (if 16384 < v.toInt.natAbs then ended h 0x12 .badValue [] (begun h s)
       else if s.tmb.validity = .unset then ended h 0x12 .noTime [] (begun h s)
       else ended h 0x12 .ok (s16 s.tmb.slew) ((begun h s).setTmb { s.tmb with slew := v.toInt })) ∧
    exec (.timeClear h) s = .next (ended h 0x13 .ok (u8 s.tmb.validity.code)
      (if s.tmb.validity = .unset then begun h s
       else setValidity .unset .hostClear 0 ((begun h s).setTmb { s.tmb with slew := 0 })))

/-- TRIM-SET installs a trim in range, clears the accumulator and replies with the previous trim; a value out of range is
refused with BAD_VALUE and changes nothing (R22). -/
def Obligations.TrimSets : Prop :=
  ∀ (h : FrameHead) (v : W16) (s : State), Quiet h s →
    exec (.trimSet h v) s = .next
      (if -2048 ≤ v.toInt ∧ v.toInt ≤ 2047 then
        ended h 0x14 .ok (s16 s.tmb.trim) ((begun h s).setTmb { s.tmb with trim := v.toInt, acc := 0 })
       else ended h 0x14 .badValue [] (begun h s))

/-! ## The schedule -/

/-- ACT-ADD: the five checks of R33 in their order, and the fields of the entry asked for; an accepted request inserts the entry and takes it at once where it is due,
and the reply carries the new handle and the late-on-insertion flag of the moment of the request (R32, R33, R34). -/
def Obligations.ActAddChecksAndInserts : Prop :=
  ∀ (h : FrameHead) (p : ActAddParams) (s : State), Quiet h s →
    (s.loading = true → exec (.actAdd h p) s = .next (ended h 0x20 .busy [] (begun h s))) ∧
    (s.loading = false → readActAdd p s.now = none → exec (.actAdd h p) s = .next (ended h 0x20 .badValue [] (begun h s))) ∧
    (readActAdd p s.now = none ↔
      1 < p.anchor.toNat ∨ 4 < p.kind.toNat ∨ 1 < p.late.toNat ∨
      (p.guardPresent = true ∧ (p.guardLine.toNat < 1 ∨ 16 < p.guardLine.toNat ∨ 1 < p.guardLevel.toNat)) ∨
      (p.guardPresent = false ∧ (p.guardLine ≠ 0 ∨ p.guardLevel ≠ 0)) ∨
      (p.kind = 4 ∧ p.lines ≠ 0) ∨ (p.kind ≠ 4 ∧ p.lines = 0) ∨ (p.kind = 3 ∧ p.width = 0) ∨ (p.kind ≠ 3 ∧ p.width ≠ 0) ∨
      (p.repPresent = true ∧ (p.period.toNat < 8 ∨ 619315200 < p.period.toNat)) ∨
      (p.repPresent = false ∧ (p.period ≠ 0 ∨ p.count ≠ 0)) ∨ (p.standing = true ∧ p.anchor = 1) ∨
      (p.anchor = 0 ∧ (3155759999 < p.seconds.toNat ∨ 1023 < p.tick.toNat)) ∨
      (p.anchor = 1 ∧ (1023 < p.tick.toNat ∨ Instant.top.ticks < s.now + p.seconds.toNat * 1024 + p.tick.toNat))) ∧
    (∀ e, readActAdd p s.now = some e →
      e.label = p.label ∧ e.anchor = (if p.anchor = 0 then .calendar else .interval) ∧
      e.due.ticks = (if p.anchor = 0 then 0 else s.now) + p.seconds.toNat * 1024 + p.tick.toNat ∧ e.kind.code = p.kind.toNat ∧
      e.lines = p.lines ∧ e.width = p.width.toNat ∧
      e.rep = (if p.repPresent then some ⟨p.period.toNat, p.count.toNat⟩ else none) ∧ e.remaining = p.count.toNat ∧
      e.late.code = p.late.toNat ∧
      e.guard.map (fun g => (g.line.val + 1, g.level.code)) =
        (if p.guardPresent then some (p.guardLine.toNat, p.guardLevel.toNat) else none) ∧
      e.notify = p.notify ∧ e.standing = p.standing ∧ e.origin = .host ∧ e.suppressed = 0) ∧
    (∀ e, s.loading = false → readActAdd p s.now = some e →
      exec (.actAdd h p) s = .next
        (if (∃ n : LineNo, p.lines.getLsbD n = true ∧ (s.lin[n]).config.role ≠ .pushPull ∧ (s.lin[n]).config.role ≠ .openDrain) ∨
            (p.guardPresent = true ∧ ∃ n : LineNo, p.guardLine.toNat = n.val + 1 ∧ (s.lin[n]).config.role ≠ .input) then
           ended h 0x20 .badLine [] (begun h s)
         else if e.anchor = .calendar ∧ s.tmb.validity = .unset then ended h 0x20 .noTime [] (begun h s)
         else if 128 ≤ s.sch.entries.length ∨ (e.standing = true ∧ 64 ≤ s.sch.standing) then
           ended h 0x20 .full [] (begun h s)
         else ended h 0x20 .ok (u16 s.sch.newHandle ++ flag (decide (e.due.ticks + s.sch.tolerance < s.now)))
           (insertAndPass e (begun h s))))

/-- In a schedule of at most 128 entries the new handle is 1..65535, held by no entry, and the next one after the last-assigned
handle where that is free; an insertion puts the entry behind every entry due no later and before every entry due later, with
the highest stamp. With the stamp counter at its last value the entries present are first numbered from 1 on in their order, and
nothing else of them changes (R27, R28, R30). -/
def Obligations.InsertionsTakeTheirPlace : Prop :=
  ∀ (c : Sch) (e : Entry),
    (c.entries.length ≤ 128 → c.lastHandle ≤ 65535 →
      1 ≤ c.newHandle ∧ c.newHandle ≤ 65535 ∧ (∀ x ∈ c.entries, x.handle ≠ c.newHandle) ∧
      ((∀ x ∈ c.entries, x.handle ≠ nextCandidate c.lastHandle) → c.newHandle = nextCandidate c.lastHandle)) ∧
    (c.entries.Pairwise Entry.precedes → c.stamps ≠ stampTop →
      ∃ before after, c.entries = before ++ after ∧
        (c.insertNew e).entries = before ++ { e with handle := c.newHandle, stamp := c.stamps + 1 } :: after ∧
        (∀ x ∈ before, x.due.ticks ≤ e.due.ticks) ∧ (∀ x ∈ after, e.due.ticks < x.due.ticks) ∧
        (c.insertNew e).lastHandle = c.newHandle ∧ (c.insertNew e).stamps = c.stamps + 1) ∧
    (c.stamps = stampTop → (c.insertNew e).stamps = c.entries.length + 1) ∧
    (c.entries.Pairwise Entry.precedes → c.stamps = stampTop →
      let stamped : Nat → List Entry → List Entry := fun first es => (es.zipIdx first).map fun p => { p.1 with stamp := p.2 }
      ∃ before after, c.entries = before ++ after ∧
        (c.insertNew e).entries = stamped 1 before ++
          { e with handle := c.newHandle, stamp := c.entries.length + 1 } :: stamped (before.length + 1) after ∧
        (∀ x ∈ before, x.due.ticks ≤ e.due.ticks) ∧ (∀ x ∈ after, e.due.ticks < x.due.ticks) ∧
        (c.insertNew e).lastHandle = c.newHandle)

/-- ACT-CANCEL removes the entry that holds the handle, ACT-PURGE every entry that matches both sets; neither sends a claim, posts
a notice or moves a counter (R36, R37). -/
def Obligations.CancelsAndPurges : Prop :=
  ∀ (h : FrameHead) (s : State), Quiet h s →
    (∀ w : W16, exec (.actCancel h w) s = .next
      (if s.loading = true then ended h 0x21 .busy [] (begun h s)
       else if ∀ e ∈ s.sch.entries, e.handle ≠ w.toNat then ended h 0x21 .notFound [] (begun h s)
       else ended h 0x21 .ok []
         ((begun h s).setSch { s.sch with entries := s.sch.entries.filter fun e => e.handle != w.toNat }))) ∧
    (∀ (lines : W16) (origins : Byte), exec (.actPurge h lines origins) s = .next
      (if s.loading = true then ended h 0x22 .busy [] (begun h s)
       else if 7 < origins.toNat then ended h 0x22 .badValue [] (begun h s)
       else
         let hit := fun e : Entry => (decide (lines = 0) || decide (lines &&& e.lines ≠ 0)) &&
                                     (decide (origins = 0) || origins.getLsbD e.origin.code)
         ended h 0x22 .ok (u8 (s.sch.entries.filter hit).length)
           ((begun h s).setSch { s.sch with entries := s.sch.entries.filter fun e => !hit e })))

/-- SCHED-HOLD adds HOST, SCHED-RELEASE removes it and takes what is due where the set is then empty, SCHED-CONFIG sets the
tolerance (R42, R43, R45). -/
def Obligations.HoldsReleasesConfigures : Prop :=
  ∀ (h : FrameHead) (s : State), Quiet h s →
    exec (.schedHold h) s = .next (ended h 0x28 .ok ({ s.sch.hold with host := true } : HoldSet).byte
      ((begun h s).setSch { s.sch with hold := { s.sch.hold with host := true } })) ∧
    (let free : Sch := { s.sch with hold := { s.sch.hold with host := false } }
     exec (.schedRelease h) s = .next (ended h 0x29 .ok free.hold.byte
      (if s.sch.hold.host = true ∧ free.hold.isEmpty = true then pass ((begun h s).setSch free)
       else (begun h s).setSch free))) ∧
    (∀ w : W16, exec (.schedConfig h w) s = .next
      (if s.loading = true then ended h 0x2B .busy [] (begun h s)
       else if 1023 < w.toNat then ended h 0x2B .badValue [] (begun h s)
       else ended h 0x2B .ok (u16 s.sch.tolerance) ((begun h s).setSch { s.sch with tolerance := w.toNat })))

/-- The outcome of an occurrence from its lateness, its late policy and its guard; what a taking consumes: the occurrences due by
then, no more than the count, with the next due the first of the series after the instant; and a pass over one due entry: the
claim where the occurrence runs, the entry gone or behind every entry due no later, ACTION-DONE where notify is set
(R50, R52 to R58); and the claim of each kind (R54). -/
def Obligations.TakingsClaimConsumeAndReport : Prop :=
  (∀ e : Entry, (e.kind = .high → e.claim = some (.toLevel .high)) ∧ (e.kind = .low → e.claim = some (.toLevel .low)) ∧
    (e.kind = .toggle → e.claim = some .toggle) ∧ (e.kind = .pulse → e.claim = some (.pulse e.width)) ∧
    (e.kind = .mark → e.claim = none)) ∧
  (∀ (late tol : Nat) (policy : LatePolicy) (guard : Bool),
    occurrenceOutcome late tol policy guard =
      if late ≤ tol then (if guard then .run else .suppressed)
      else if policy = .skip then .skipped else if guard then .runLate else .suppressed) ∧
  (∀ (e : Entry) (late : Nat), e.rep = none →
    (e.consume late).consumed = 1 ∧ (e.consume late).remaining = 0 ∧ (e.consume late).nextDue = none) ∧
  (∀ (e : Entry) (r : Rep) (late : Nat), e.rep = some r → 0 < r.period →
    ∃ k, (∀ j, e.due.ticks + j * r.period ≤ e.due.ticks + late ↔ j < k) ∧
      (r.count = 0 → (e.consume late).consumed = k ∧ (e.consume late).remaining = e.remaining) ∧
      (r.count ≠ 0 → (e.consume late).consumed = min k e.remaining ∧
        (e.consume late).remaining = e.remaining - min k e.remaining) ∧
      (e.consume late).nextDue =
        if (r.count ≠ 0 ∧ e.remaining ≤ k) ∨ Instant.top.ticks < e.due.ticks + k * r.period then none
        else some (e.due.ticks + k * r.period)) ∧
  (∀ (e : Entry) (rest : List Entry) (s : State), s.sch.entries = e :: rest → s.sch.hold.isEmpty = true →
    e.due.ticks ≤ s.now → (∀ x ∈ rest, s.now < x.due.ticks) → rest.Pairwise Entry.precedes →
    (∀ r, e.rep = some r → 0 < r.period) →
    let t := pass s
    let late := s.now - e.due.ticks
    let guard := match e.guard with
      | none => true
      | some g => (s.lin[g.line]).input.map (·.accepted) == some g.level
    let out := occurrenceOutcome late s.sch.tolerance e.late guard
    let c := e.consume late
    t.lin = (match e.claim with
      | none => s.lin
      | some x => if out.runs then (claimLines e.lines x s).lin else s.lin) ∧
    (c.nextDue = none → t.sch.entries = rest) ∧
    (∀ due, c.nextDue = some due → s.sch.stamps ≠ stampTop → ∃ before after, rest = before ++ after ∧
      (∀ x ∈ before, x.due.ticks ≤ due) ∧ (∀ x ∈ after, due < x.due.ticks) ∧
      t.sch.entries = before ++ { e with
        due := Instant.ofTicks due, remaining := c.remaining, stamp := s.sch.stamps + 1
        suppressed := if out = .suppressed then min 65535 (e.suppressed + 1) else e.suppressed } :: after) ∧
    (e.notify = false → t.lnk = s.lnk) ∧
    (e.notify = true → t.lnk = (s.lnk.enqueue (.actionDone
      { handle := e.handle, label := e.label, outcome := out, final := c.nextDue.isNone, due := e.due,
        lateness := min late 4294967295, consumed := min c.consumed 4294967295, remaining := c.remaining,
        generation := s.tmb.generation })).choose))

/-- A pass of a RUNNING scheduler takes every entry due at or before the instant: in a schedule in order, with every period above
0, none is left; the time base, the reason set and the handles are not touched, and an entry not yet due stays (R50). -/
def Obligations.PassesTakeEverythingDue : Prop :=
  ∀ s : State, s.sch.entries.Pairwise Entry.precedes → s.sch.hold.isEmpty = true →
    (∀ e ∈ s.sch.entries, ∀ r, e.rep = some r → 0 < r.period) →
    let t := pass s
    (∀ e ∈ t.sch.entries, s.now < e.due.ticks) ∧
    (∀ e ∈ s.sch.entries, s.now < e.due.ticks → ∃ x ∈ t.sch.entries, x = { e with stamp := x.stamp }) ∧
    t.tmb = s.tmb ∧ t.sch.hold = s.sch.hold ∧ t.sch.lastHandle = s.sch.lastHandle ∧ t.sch.tolerance = s.sch.tolerance ∧
    t.cap = s.cap ∧ t.trg = s.trg ∧ t.rds = s.rds ∧ t.prs = s.prs ∧ t.lsm = s.lsm ∧ t.flash = s.flash ∧
    (∀ n : LineNo, (t.lin[n]).config = (s.lin[n]).config ∧ (t.lin[n]).input = (s.lin[n]).input ∧
      (t.lin[n]).glitches = (s.lin[n]).glitches) ∧
    (∀ n : LineNo, (∀ e ∈ s.sch.entries, e.due.ticks ≤ s.now → e.lines.getLsbD n = false) → t.lin[n] = s.lin[n])

/-! ## Lines, captures, triggers, reference -/

/-- LINE-CONFIG: the checks of R70 in their order; an accepted request installs the record, gives the line the state of its role,
keeps its glitch count, and leaves every other line as it was. A restarted filter accepts the level its pin shows, which is free
where nothing decides it (log entry 1). A reference line given up makes the discipline IDLE and ends TRACKING in STEER mode; a
line made the reference line makes it WAITING unless the mode is OFF (R69, R70, R71, R72, R81, R113, R114). -/
def Obligations.LineConfigures : Prop :=
  ∀ (h : FrameHead) (line : Byte) (rec : LineRecord) (s : State), Quiet h s →
    (s.prs.locked = true → exec (.lineConfig h line rec) s = .next (ended h 0x30 .locked [] (begun h s))) ∧
    (s.prs.locked = false → s.loading = true →
      exec (.lineConfig h line rec) s = .next (ended h 0x30 .busy [] (begun h s))) ∧
    (LineRecord.config rec = none ↔
      4 < rec.role.toNat ∨ 1 < rec.initial.toNat ∨ 2 < rec.safe.toNat ∨ 2 < rec.pull.toNat ∨
      rec.filter.toNat ∉ [0, 1, 4, 16, 64] ∨ 3 < rec.capture.toNat ∨
      (rec.role.toNat ≠ 1 ∧ rec.role.toNat ≠ 2 ∧ (rec.initial ≠ 0 ∨ rec.safe ≠ 0)) ∨ (rec.role.toNat < 2 ∧ rec.pull ≠ 0) ∨
      (rec.role.toNat < 3 ∧ (rec.filter ≠ 0 ∨ rec.capture ≠ 0))) ∧
    (∀ c, LineRecord.config rec = some c → c.record = rec) ∧
    (s.prs.locked = false → s.loading = false → line.toNat < 1 ∨ 16 < line.toNat ∨ LineRecord.config rec = none →
      exec (.lineConfig h line rec) s = .next (ended h 0x30 .badValue [] (begun h s))) ∧
    (∀ (n : LineNo) (c : LineConfig), s.prs.locked = false → s.loading = false → line.toNat = n.val + 1 → LineRecord.config rec = some c →
      (exec (.lineConfig h line rec) s = .next
        (if c.role = .reference ∧ ∃ m : LineNo, m ≠ n ∧ (s.lin[m]).config.role = .reference then
          ended h 0x30 .badValue [] (begun h s)
         else if (s.namedOutput n = true ∧ c.role.isOutput = false) ∨ (s.namedInput n = true ∧ c.role ≠ .input) then
          ended h 0x30 .lineInUse [] (begun h s)
         else ended h 0x30 .ok [] (configureLine n c (begun h s)))) ∧
      (let t := configureLine n c s
       let pull := if s.power = false then none else match c.pull with
         | .up => some Level.high
         | .down => some Level.low
         | .none => none
       let shown := pinLevel none (s.lin[n]).ext pull (if Config.floatingHigh s.draws n then .high else .low)
       (t.lin[n]).config = c ∧
       (t.lin[n]).output = (if c.role.isOutput then some { commanded := c.initial, pulse := none } else none) ∧
       (t.lin[n]).input = (if c.role.isInput then some { accepted := shown, run := none } else none) ∧
       t.draws = (if c.role.isInput then s.draws + 1 else s.draws) ∧
       (let given := c.role = .reference
        let removed := (s.lin[n]).config.role = .reference ∧ c.role ≠ .reference
        let ends := removed ∧ s.rds.config.mode = .steer ∧ s.tmb.validity = .tracking
        t.rds = (if given then
            (if s.rds.config.mode = .off then { s.rds with line := some n, run := 0 }
             else { s.rds with line := some n, run := 0, state := .waiting, count := 0 })
          else if removed then { s.rds with line := none, run := 0, state := .idle, count := 0 } else s.rds) ∧
        t.tmb = (if ends then { s.tmb with validity := .holdover } else s.tmb) ∧
        t.lnk = (if ends then
          (s.lnk.enqueue (.timeState .tracking .holdover .refOff s.tmb.instant s.tmb.generation)).choose else s.lnk)) ∧
       (t.lin[n]).glitches = (s.lin[n]).glitches ∧ (t.lin[n]).ext = (s.lin[n]).ext ∧
       (∀ m : LineNo, m ≠ n → t.lin[m] = s.lin[m]) ∧
       t.cap = s.cap ∧ t.trg = s.trg ∧ t.prs = s.prs ∧ t.lsm = s.lsm ∧ t.flash = s.flash ∧ t.sch = s.sch))

/-- LINE-DRIVE: its checks in order, then one claim on each member of the set and on no other line; and what each claim does to an
output state (R75, R76, R80). -/
def Obligations.LineDrives : Prop :=
  (∀ (h : FrameHead) (lines : W16) (action : Byte) (width : W16) (s : State), Quiet h s →
    exec (.lineDrive h lines action width) s = .next
      (if s.loading = true then ended h 0x31 .busy [] (begun h s)
       else if 3 < action.toNat ∨ lines = 0 ∨ (action = 3 ∧ width = 0) ∨ (action ≠ 3 ∧ width ≠ 0) then
         ended h 0x31 .badValue [] (begun h s)
       else if ∀ n : LineNo, lines.getLsbD n = true → s.outputRole n = true then
         ended h 0x31 .ok [] (claimLines lines
           (if action = 0 then .toLevel .high else if action = 1 then .toLevel .low else if action = 2 then .toggle
            else .pulse width.toNat) (begun h s))
       else ended h 0x31 .badLine [] (begun h s))) ∧
  (∀ (lines : W16) (c : Claim) (s : State) (n : LineNo),
    ((claimLines lines c s).lin[n] =
      if lines.getLsbD n = true then
        { s.lin[n] with output := (s.lin[n]).output.map fun o => o.claim (s.lin[n]).config.safe c }
      else s.lin[n])) ∧
  (∀ (o : Output) (safe : SafeLevel) (l : Level) (w : Nat),
    o.claim safe (.toLevel l) = ⟨l, none⟩ ∧ o.claim safe .toggle = ⟨o.commanded.inv, none⟩ ∧
    o.claim safe (.pulse w) = (match o.pulse with
      | none => ⟨o.commanded.inv, some ⟨o.commanded, w⟩⟩
      | some p => ⟨o.commanded, some ⟨p.rest, w⟩⟩))

/-- CAP-CONFIG installs policy and mark and compares the count with the mark; CAP-ACK removes the records up to the serial named,
by its distance from the oldest, and clears the lost count where it empties the log (R94, R95, R96). -/
def Obligations.CaptureConfiguresAndAcknowledges : Prop :=
  ∀ (h : FrameHead) (s : State), Quiet h s →
    (∀ (policy : Byte) (mark : W16), exec (.capConfig h policy mark) s = .next
      (if s.loading = true then ended h 0x40 .busy [] (begun h s)
       else match CapPolicy.ofCode policy, decide (1 ≤ mark.toNat ∧ mark.toNat ≤ 256) with
         | some p, true => ended h 0x40 .ok (u8 s.cap.policy.code ++ u16 s.cap.mark)
             (let c : Cap := { s.cap with policy := p, mark := mark.toNat }
              if s.cap.log.length < mark.toNat then (begun h s).setCap { c with armed := true }
              else if s.cap.armed = true then
                post (.capturePending s.cap.log.length s.cap.lost s.cap.lastSerial)
                  ((begun h s).setCap { c with armed := false })
              else (begun h s).setCap c)
         | _, _ => ended h 0x40 .badValue [] (begun h s))) ∧
    (∀ w : W32,
      let k := match s.cap.log with
        | [] => 0
        | r :: _ =>
          let d := (w - r.serial).toNat
          if d < s.cap.log.length then d + 1 else if d ≤ 2147483647 then s.cap.log.length else 0
      let left := s.cap.log.drop k
      exec (.capAck h w) s = .next (ended h 0x42 .ok (u16 k ++ u16 left.length)
        ((begun h s).setCap { s.cap with
          log := left
          lost := if 0 < k ∧ left = [] then 0 else s.cap.lost
          armed := if left.length < s.cap.mark then true else s.cap.armed })))

/-- TRG-SET defines a trigger DISARMED with its counts at 0; TRG-ARM arms it with a count, TRG-DISARM disarms it, TRG-CLEAR makes
it absent; no other trigger changes (R106, R107, R108). -/
def Obligations.TriggerRequests : Prop :=
  ∀ (h : FrameHead) (s : State), Quiet h s →
    (∀ p : TrgSetParams, s.loading = true → exec (.trgSet h p) s = .next (ended h 0x48 .busy [] (begun h s))) ∧
    (∀ p : TrgSetParams,
      (readTrigDef p.source p.edge p.delay.toNat p.holdoff.toNat p.kind p.lines p.width.toNat p.late p.notify = none ↔
        p.source.toNat < 1 ∨ 16 < p.source.toNat ∨ 2 < p.edge.toNat ∨ 3 < p.kind.toNat ∨ 1 < p.late.toNat ∨
        1048575 < p.delay.toNat ∨ p.lines = 0 ∨ (p.kind = 3 ∧ p.width = 0) ∨ (p.kind ≠ 3 ∧ p.width ≠ 0)) ∧
      (s.loading = false → (p.id.toNat < 1 ∨ 8 < p.id.toNat ∨
          readTrigDef p.source p.edge p.delay.toNat p.holdoff.toNat p.kind p.lines p.width.toNat p.late p.notify = none) →
        exec (.trgSet h p) s = .next (ended h 0x48 .badValue [] (begun h s)))) ∧
    (∀ (p : TrgSetParams) (t : TrigNo) (d : TrigDef), s.loading = false → p.id.toNat = t.val + 1 →
      readTrigDef p.source p.edge p.delay.toNat p.holdoff.toNat p.kind p.lines p.width.toNat p.late p.notify = some d →
      (d.source.val + 1 = p.source.toNat ∧ d.edge.code = p.edge.toNat ∧ d.delay = p.delay.toNat ∧ d.holdoff = p.holdoff.toNat ∧
        d.template.kind.code = p.kind.toNat ∧ d.template.lines = p.lines ∧ d.template.width = p.width.toNat ∧
        d.template.late.code = p.late.toNat ∧ d.template.notify = p.notify) ∧
      exec (.trgSet h p) s = .next
        (if s.inputRole d.source = true ∧ ∀ n : LineNo, p.lines.getLsbD n = true → s.outputRole n = true then
          ended h 0x48 .ok (flag (s.trg[t]).isSome)
            ((begun h s).setTrg (s.trg.set t (some { defn := d, armCount := 0, state := .disarmed, remainder := 0,
                                                     fired := 0, overruns := 0 })))
         else ended h 0x48 .badLine [] (begun h s))) ∧
    (∀ (id : Byte) (count : Byte) (st : Status),
      (s.loading = true ∧ st = .busy) ∨ (s.loading = false ∧ (id.toNat < 1 ∨ 8 < id.toNat) ∧ st = .badValue) ∨
        (s.loading = false ∧ ∃ t : TrigNo, id.toNat = t.val + 1 ∧ s.trg[t] = none ∧ st = .notFound) →
      exec (.trgArm h id count) s = .next (ended h 0x49 st [] (begun h s)) ∧
      exec (.trgDisarm h id) s = .next (ended h 0x4A st [] (begun h s)) ∧
      exec (.trgClear h id) s = .next (ended h 0x4B st [] (begun h s))) ∧
    (∀ (id : Byte) (count : Byte) (t : TrigNo) (x : Trigger), s.loading = false → id.toNat = t.val + 1 →
      s.trg[t] = some x →
      exec (.trgArm h id count) s = .next (ended h 0x49 .ok (u8 x.state.code)
        ((begun h s).setTrg (s.trg.set t (some { x with armCount := count.toNat, state := .armed, remainder := 0 })))) ∧
      exec (.trgDisarm h id) s = .next (ended h 0x4A .ok (u8 x.state.code)
        ((begun h s).setTrg (s.trg.set t (some { x with state := .disarmed, remainder := 0 })))) ∧
      exec (.trgClear h id) s = .next (ended h 0x4B .ok (u32 x.fired.toNat ++ u16 x.overruns)
        ((begun h s).setTrg (s.trg.set t none))))

/-- REF-CONFIG: its checks in order; an accepted request ends TRACKING where it leaves STEER, installs the configuration, ends the
outlier run and settles the state, which the reply carries (R113, R124). -/
def Obligations.RefConfigures : Prop :=
  ∀ (h : FrameHead) (p : RefConfigParams) (s : State), Quiet h s →
    (s.loading = true → exec (.refConfig h p) s = .next (ended h 0x50 .busy [] (begun h s))) ∧
    (s.loading = false → readRefConfig p.mode p.edge p.window.toNat p.limit p.timeout = none →
      exec (.refConfig h p) s = .next (ended h 0x50 .badValue [] (begun h s))) ∧
    (readRefConfig p.mode p.edge p.window.toNat p.limit p.timeout = none ↔
      2 < p.mode.toNat ∨ 1 < p.edge.toNat ∨ p.window.toNat < 1 ∨ 512 < p.window.toNat ∨ p.limit.toNat < 1 ∨ 15 < p.limit.toNat ∨
      p.timeout.toNat < 2 ∨ 60 < p.timeout.toNat) ∧
    (∀ c, readRefConfig p.mode p.edge p.window.toNat p.limit p.timeout = some c →
      c.mode.code = p.mode.toNat ∧ c.edge.code = p.edge.toNat ∧ c.window = p.window.toNat ∧ c.limit = p.limit.toNat ∧
      c.timeout = p.timeout.toNat) ∧
    (∀ c, s.loading = false → readRefConfig p.mode p.edge p.window.toNat p.limit p.timeout = some c →
      let idle := s.rds.line = none ∨ c.mode = .off
      let r : Rds := { s.rds with
        config := c
        run := 0
        state := if idle then .idle else if s.rds.state = .idle then .waiting else s.rds.state
        count := if idle ∨ s.rds.state = .idle then 0 else s.rds.count }
      exec (.refConfig h p) s = .next (ended h 0x50 .ok (u8 r.state.code)
        ((if s.rds.config.mode = .steer ∧ c.mode ≠ .steer ∧ s.tmb.validity = .tracking then
            setValidity .holdover .refOff 0 (begun h s) else begun h s).setRds r)))

/-- An edge of the reference line in the configured direction restarts the edge count, makes the state ACTIVE, gives one sample
with the offset of its onset tick, and is recorded; an outlier or a mode below STEER claims nothing, an accepted STEER sample
replaces the slew by the correction and sets TRACKING; any other edge changes nothing (R115 to R119, R121). -/
def Obligations.ReferenceEdgesAreSampled : Prop :=
  ∀ (e : EdgeReport) (after : Nat) (s : State), e.onset.tick ≤ 1023 →
    (s.rds.state = .idle ∨ e.edge ≠ s.rds.config.edge → referenceEdge e after s = s) ∧
    (s.rds.state ≠ .idle → e.edge = s.rds.config.edge →
      let t := referenceEdge e after s
      let offset : Int := if e.onset.tick < 512 then e.onset.tick else (e.onset.tick : Int) - 1024
      t.rds.count = 0 ∧ t.rds.state = .active ∧ t.rds.config = s.rds.config ∧ t.rds.line = s.rds.line ∧
      (∃ outcome, t.rds.history.getLast? = some { sec := e.onset.sec, offset := offset, outcome := outcome } ∧
        ((s.tmb.validity = .unset ∨ e.generation ≠ s.tmb.generation) →
          outcome = .ignored ∧ t.tmb = s.tmb ∧ t.sch = s.sch ∧ t.lin = s.lin ∧ t.lnk = s.lnk ∧ t.rds.run = s.rds.run) ∧
        (s.tmb.validity ≠ .unset → e.generation = s.tmb.generation → s.rds.config.mode ≠ .steer →
          outcome = (if offset.natAbs ≤ s.rds.config.window then .accepted else .outlier) ∧ t.tmb = s.tmb ∧
          t.sch = s.sch ∧ t.lnk = s.lnk) ∧
        (s.tmb.validity ≠ .unset → e.generation = s.tmb.generation → s.rds.config.mode = .steer →
          offset.natAbs ≤ s.rds.config.window →
          outcome = .accepted ∧ t.rds.run = 0 ∧
          t.tmb = { s.tmb with slew := if offset = -512 then 511 else -offset, validity := .tracking }) ∧
        (s.tmb.validity ≠ .unset → e.generation = s.tmb.generation → s.rds.config.mode = .steer →
          s.rds.config.window < offset.natAbs → s.rds.run + 1 < s.rds.config.limit →
          outcome = .outlier ∧ t.rds.run = s.rds.run + 1 ∧ t.tmb = s.tmb ∧ t.sch = s.sch ∧ t.lnk = s.lnk) ∧
        (s.tmb.validity ≠ .unset → e.generation = s.tmb.generation → s.rds.config.mode = .steer →
          s.rds.config.window < offset.natAbs → s.rds.config.limit ≤ s.rds.run + 1 →
          outcome = .stepped ∧ t.rds.run = 0 ∧ t.tmb.validity = .tracking ∧ t.tmb.generation = s.tmb.generation + 1 ∧
          t.tmb.slew = 0 ∧
          t.tmb.instant = stepTarget s.now (if offset = -512 then 511 else -offset))))

/-! ## Profile and lease requests -/

/-- PROF-SAVE, PROF-LOAD and PROF-ERASE: their checks in order, and what each begins; PROF-LOCK sets the flag in any state.
The snapshot holds what the blocks then hold: a trigger in HOLDOFF as ARMED and a SPENT one as DISARMED with arm count 0, the
standing entries in schedule order, and no others (R111, R136, R141, R142, R145, R146). -/
def Obligations.ProfileRequests : Prop :=
  (∀ s : State,
    let p := snapshot s
    p.tolerance = s.sch.tolerance ∧ p.policy = s.cap.policy ∧ p.mark = s.cap.mark ∧ p.ref = s.rds.config ∧
    p.period = s.lsm.period ∧ p.fallback = s.lsm.fallback ∧ (∀ n : LineNo, p.lines[n] = (s.lin[n]).config) ∧
    (∀ n : TrigNo, p.triggers[n] = match s.trg[n] with
      | none => none
      | some x => some { defn := x.defn, armCount := if x.state = .spent then 0 else x.armCount,
                         armed := decide (x.state = .armed ∨ x.state = .holdoff) }) ∧
    p.entries = (s.sch.entries.filter (·.standing)).map fun e =>
      { label := e.label, due := e.due, kind := e.kind, lines := e.lines, width := e.width,
        period := e.rep.map (·.period), remaining := e.remaining, late := e.late, guard := e.guard, notify := e.notify }) ∧
  ∀ (h : FrameHead) (s : State), Quiet h s →
    (∀ st : Status, (s.prs.present = false ∧ st = .noFlash) ∨
        (s.prs.present = true ∧ s.prs.locked = true ∧ st = .locked) ∨
        (s.prs.present = true ∧ s.prs.locked = false ∧ s.prs.job ≠ .idle ∧ st = .busy) →
      exec (.profSave h) s = .next (ended h 0x60 st [] (begun h s)) ∧
      exec (.profLoad h) s = .next (ended h 0x61 st [] (begun h s)) ∧
      exec (.profErase h) s = .next (ended h 0x62 st [] (begun h s))) ∧
    (s.prs.present = true → s.prs.locked = false → s.prs.job = .idle →
      (let gen := currentGeneration s.prs.descA s.prs.descB
       let slot := match currentSlot s.prs.descA s.prs.descB with
         | some .a => Slot.b
         | some .b => Slot.a
         | none => Slot.a
       exec (.profSave h) s = .next
        (if gen = 0xFFFFFFFE then ended h 0x60 .state [] (begun h s)
         else ended h 0x60 .accepted [] ((begun h s).setPrs { s.prs with
           job := .saveErase
           target := some slot
           image := some ⟨gen + 1, slotImage (gen + 1) (snapshot s)⟩
           descA := if slot = .a then ⟨false, 0⟩ else s.prs.descA
           descB := if slot = .b then ⟨false, 0⟩ else s.prs.descB }))) ∧
      exec (.profLoad h) s = .next
        (if s.sch.hold.host = true then
          ended h 0x61 .accepted [] (((begun h s).setPrs { s.prs with job := .loading false .validating }).setSch
            { s.sch with hold := { s.sch.hold with load := true } })
         else ended h 0x61 .state [] (begun h s)) ∧
      exec (.profErase h) s = .next (ended h 0x62 .accepted [] ((begun h s).setPrs { s.prs with
        job := .eraseA s.prs.descB, target := some .a, descA := ⟨false, 0⟩, descB := ⟨false, 0⟩ }))) ∧
    exec (.profLock h) s = .next (ended h 0x64 .ok (flag s.prs.locked) ((begun h s).setPrs { s.prs with locked := true }))

/-- LEASE-CONFIG: its checks in order, then the configuration with the count at 0; LEASE-RESUME ends an expiry, removes LEASE and
takes what is due where the set is then empty (R151, R156, R157). That a resumption with period 0 leaves the count 0 is the model's
reading (DEDUCED, log entry 24): R156 names no count there, and R151 holds it at 0. -/
def Obligations.LeaseRequests : Prop :=
  ∀ (h : FrameHead) (s : State), Quiet h s →
    (∀ (w : W16) (f : Byte), exec (.leaseConfig h w f) s = .next
      (if s.loading = true then ended h 0x70 .busy [] (begun h s)
       else if s.lsm.state = .expired then ended h 0x70 .state [] (begun h s)
       else match Fallback.ofCode f, decide (w.toNat ≤ 600) with
         | some x, true => ended h 0x70 .ok (u16 s.lsm.period ++ u8 s.lsm.fallback.code) ((begun h s).setLsm
             { period := w.toNat, fallback := x, state := if w.toNat = 0 then .disabled else .running, count := 0 })
         | _, _ => ended h 0x70 .badValue [] (begun h s))) ∧
    (s.lsm.state ≠ .expired → exec (.leaseResume h) s = .next (ended h 0x71 .state [] (begun h s))) ∧
    (s.lsm.state = .expired →
      let free : Sch := { s.sch with hold := { s.sch.hold with lease := false } }
      let u := ((begun h s).setLsm { s.lsm with state := if s.lsm.period = 0 then .disabled else .running, count := 0 }).setSch free
      exec (.leaseResume h) s = .next (ended h 0x71 .ok free.hold.byte
        (if s.sch.hold.lease = true ∧ free.hold.isEmpty = true then pass u else u)))

/-- RESTART: a REQUEST forms an OK reply and becomes pending, and the main reset with start cause REQUEST comes when that reply has
been sent; a POSTED one resets at once (R179). -/
def Obligations.Restarts : Prop :=
  ∀ (q : Byte) (s : State),
    (Quiet ⟨.request, q⟩ s → s.lnk.tx ≠ .forReply →
      let r := Reply.answer q 0x03 .ok false [] true
      exec (.restart ⟨.request, q⟩) s = .next ((s.setLsm s.lsm.renew).setLnk { s.lnk with
        seqState := .expecting (q + 1) q .request, cache := .reply r, replies := s.lnk.replies ++ [r],
        restartPending := true, tx := if s.lnk.tx = .idle then .reply else s.lnk.tx })) ∧
    (Quiet ⟨.posted, q⟩ s →
      exec (.restart ⟨.posted, q⟩) s = .next (mainReset .request (advanceSeq ⟨.posted, q⟩ (renewLease s)))) ∧
    (∀ (take : Taking) (c : Byte) (st : Status) (a : Bool) (d : List Byte) (rest : List Reply), s.power = true →
      s.lnk.tx = .reply → s.lnk.replies = .answer q c st a d true :: rest →
      exec (.transmitDone take) s = .next (mainReset .request (s.setLnk { s.lnk with tx := .idle, replies := rest })))

/-! ## The link -/

/-- Every good frame renews the lease. FRAME_ENQUEUE: a REQUEST or POSTED frame joins the inbound queue, or with 4 frames present is
discarded and counted. CREDIT adds 1..32 credits, held at 32, and lets an idle transmitter send a notice; a CREDIT or LINK-RESET
with another payload and a frame of an unknown kind are discarded and counted as framing (R152, R165, R166, R172, R174, R180).
That FRAME_ENQUEUE then takes the heads that its operand `take` names is the model's choice (log entry 8). -/
def Obligations.GoodFramesReachTheirHandler : Prop :=
  ∀ (q : Byte) (s : State), Listening s →
    let u := s.setLsm s.lsm.renew
    (∀ (h : FrameHead) (p : List Byte), p.length ≤ 250 →
      let t := u.setLnk (if s.lnk.inbound.length < 4 then { s.lnk with inbound := s.lnk.inbound ++ [⟨h, p⟩] }
                         else { s.lnk with counters := { s.lnk.counters with
                           overflow := min 65535 (s.lnk.counters.overflow + 1) } })
      exec (.frameEnqueue h p []) s = .next t ∧ ∀ take, exec (.frameEnqueue h p take) s = .next (takeHeads take t)) ∧
    let bad := u.setLnk { s.lnk with counters := { s.lnk.counters with framing := min 65535 (s.lnk.counters.framing + 1) } }
    (∀ n : Byte, 1 ≤ n.toNat → n.toNat ≤ 32 →
      exec (.credit q [n]) s =
        .next (u.setLnk (Lnk.choose { s.lnk with credits := min 32 (s.lnk.credits + n.toNat) }))) ∧
    (∀ p : List Byte, p.length ≤ 250 → (∀ n : Byte, p = [n] → n.toNat = 0 ∨ 32 < n.toNat) → exec (.credit q p) s = .next bad) ∧
    (∀ p : List Byte, p.length ≤ 250 → p ≠ [] → exec (.linkReset q p) s = .next bad) ∧
    (∀ (kind : Byte) (p : List Byte), p.length ≤ 250 → unknownKind kind = true →
      exec (.frameUnknownKind kind q p) s = .next bad)

/-- LINK-RESET: the lease is renewed; inbound queue, waiting replies, notices, lost count, cache and sequence state are emptied,
the credits are 2, LINK-RESET-REPLY is placed behind a reply in transmission; the counters, the notice number, the receiver and
every other block are kept. Where a waiting RESTART reply would be discarded, the main reset comes instead (R152, R175, R179). -/
def Obligations.LinkResets : Prop :=
  ∀ (q : Byte) (s : State), Listening s → s.lnk.tx ≠ .forReply →
    (s.lnk.waiting.any Reply.isRestart = false →
      exec (.linkReset q []) s = .next ((s.setLsm s.lsm.renew).setLnk { s.lnk with
        inbound := [], replies := s.lnk.inHand ++ [.linkReset q], notices := [], lost := 0, credits := 2, cache := .empty,
        seqState := .free, tx := if s.lnk.tx = .idle then .reply else s.lnk.tx })) ∧
    (s.lnk.waiting.any Reply.isRestart = true →
      exec (.linkReset q []) s = .next (mainReset .request (s.setLsm s.lsm.renew)))

/-- A frame with a LEN above 250 is discarded at its SEQ byte, one with a bad CRC at its last byte; each is counted and does not
renew the lease, and the bytes after its SYNC are received again from HUNT (R163, R165). A main reset found
among them is left out: what then becomes of the rest is log entry 28. -/
def Obligations.DiscardedFramesAreScannedAgain : Prop :=
  ∀ s : State, Listening s → s.lnk.waiting.any Reply.isRestart = false →
    (∀ len kind q : Byte, 250 < len.toNat →
      exec (.frameLenDiscard len kind q) s = .next (receiveBytes [len, kind, q]
        (s.setCounters { s.lnk.counters with framing := min 65535 (s.lnk.counters.framing + 1) }))) ∧
    (∀ (kind q : Byte) (p : List Byte) (crc : W16), p.length ≤ 250 →
      crc ≠ crc16 (BitVec.ofNat 8 p.length :: kind :: q :: p) →
      exec (.frameCrcDiscard kind q p crc) s = .next (receiveBytes
        (BitVec.ofNat 8 p.length :: kind :: q :: (p ++ [crc.setWidth 8, (crc >>> 8).setWidth 8]))
        (s.setCounters { s.lnk.counters with crc := min 65535 (s.lnk.counters.crc + 1) })))

/-- A byte moves the receiver between HUNT, HEADER, BODY and CHECK; a byte with a low stop bit and a gap inside a frame return it to
HUNT and are counted; in HUNT a gap is nothing. On RXD the ten levels of a byte are received as that byte, and ten levels that begin
with a start bit and end low are a byte framing error (R161, R163, R164). That a start bit is low is log entry 31. The heads of an
empty queue stay untaken. -/
def Obligations.BytesMoveTheReceiver : Prop :=
  ∀ s : State, s.power = true →
    (∀ (b : Byte) (takes : List Taking), s.lnk.backlog = [] → (takes = [] ∨ s.lnk.inbound = []) →
      (s.lnk.rx = .hunt →
        exec (.byteReceived b takes) s =
          .next (if b = 0xA5 then s.setLnk { s.lnk with rx := .header [] } else s)) ∧
      (∀ held, s.lnk.rx = .header held → held.length < 2 →
        exec (.byteReceived b takes) s = .next (s.setLnk { s.lnk with rx := .header (held ++ [b]) })) ∧
      (∀ len kind, s.lnk.rx = .header [len, kind] → len.toNat ≤ 250 →
        exec (.byteReceived b takes) s = .next (s.setLnk { s.lnk with
          rx := if len = 0 then .check [len, kind, b] else .body [len, kind, b] })) ∧
      (∀ len rest, s.lnk.rx = .body (len :: rest) →
        exec (.byteReceived b takes) s = .next (s.setLnk { s.lnk with
          rx := if rest.length + 2 < 3 + len.toNat then .body (len :: rest ++ [b]) else .check (len :: rest ++ [b]) })) ∧
      (∀ len rest, s.lnk.rx = .check (len :: rest) → rest.length + 1 = 3 + len.toNat →
        exec (.byteReceived b takes) s = .next (s.setLnk { s.lnk with rx := .check (len :: rest ++ [b]) }))) ∧
    (∀ b takes, exec (.byteReceived b takes) s = .next (receiveCharacter (character b) takes s)) ∧
    (∀ (data : List Level) (takes : List Taking), data.length = 8 →
      exec .byteFramingError s = .next (receiveCharacter (.low :: data ++ [.low]) takes s)) ∧
    exec .byteFramingError s = .next (s.setLnk { s.lnk with
      rx := .hunt, counters := { s.lnk.counters with framing := min 65535 (s.lnk.counters.framing + 1) } }) ∧
    (s.lnk.rx = .hunt → exec .frameTimeout s = .next s) ∧
    (s.lnk.rx ≠ .hunt → exec .frameTimeout s = .next (s.setLnk { s.lnk with
      rx := .hunt, counters := { s.lnk.counters with timeout := min 65535 (s.lnk.counters.timeout + 1) } }))

/-- A frame at the head of the queue that can be taken: a repeat of L is answered from the cache or discarded, one out of turn draws
SEQ_GAP with E, one that fails the checks of R170 counts as executed; a frame of another class waits for its own row
(R167, R168, R169, R170, R171). That such
a row then leaves the part as it is, is the model's choice (log entry 6). -/
def Obligations.TakenFrames : Prop :=
  ∀ (f : HostFrame) (rest : List HostFrame) (s : State), s.power = true → s.lnk.inbound = f :: rest →
    s.lnk.replies.length < 2 → s.lnk.restartPending = false →
    let k : Lnk := { s.lnk with inbound := rest }
    let dup : Lnk := { k with counters := { k.counters with duplicate := min 65535 (k.counters.duplicate + 1) } }
    let gap : Lnk := { k with counters := { k.counters with gap := min 65535 (k.counters.gap + 1) } }
    (∀ e l kind, s.lnk.seqState = .expecting e l kind → f.head.seq ≠ e → f.head.seq = l →
      (∀ q c st a d x, f.head.kind = .request → kind = .request → s.lnk.cache = .reply (.answer q c st a d x) →
        exec .frameDuplicate s = .next (s.setLnk (Lnk.choose { dup with
          replies := k.replies ++ [.answer q c st true d false] }))) ∧
      (f.head.kind = .posted ∨ kind = .posted → exec .frameDuplicate s = .next (s.setLnk dup)) ∧
      exec .frameOutOfTurn s = .next s ∧ exec .requestDecodeFail s = .next s) ∧
    (∀ e l kind, s.lnk.seqState = .expecting e l kind → f.head.seq ≠ e → f.head.seq ≠ l →
      (f.head.kind = .request →
        exec .frameOutOfTurn s = .next (s.setLnk (Lnk.choose { gap with
          replies := k.replies ++ [.answer f.head.seq (f.payload.headD 0) .seqGap false [e] false] }))) ∧
      (f.head.kind = .posted →
        exec .frameOutOfTurn s =
          .next (post (.postedFailed f.head.seq (f.payload.headD 0) .seqGap e) (s.setLnk gap))) ∧
      exec .frameDuplicate s = .next s ∧ exec .requestDecodeFail s = .next s) ∧
    (s.lnk.seqState = .free ∨ (∃ l kind, s.lnk.seqState = .expecting f.head.seq l kind) →
      (∀ c st, decodePayload f.head.kind f.payload = .error (c, st) →
        exec .requestDecodeFail s = .next
          (let x := s.setLnk { k with seqState := .expecting (f.head.seq + 1) f.head.seq f.head.kind }
           match f.head.kind with
           | .request => settleRequest (.answer f.head.seq c st false [] false) x
           | .posted => post (.postedFailed f.head.seq (f.payload.headD 0) st 0)
               (x.setLnk { x.lnk with cache := .posted }))) ∧
      exec .frameDuplicate s = .next s ∧ exec .frameOutOfTurn s = .next s)

/-- TRANSMIT_DONE: the frame sent leaves, and the transmitter chooses the oldest waiting reply, else the oldest notice against a
credit, else it is idle; a notice that leaves makes room for NOTICES-LOST (R166, R172, R173, R174). What it sends: SYNC, LEN, KIND,
SEQ, the payload and its CRC; a REPLY carries request code, status, repeat flag and data, a NOTICE its code and a body laid out by
its code (R162, R168, R175, R182, 10.4). On TXD each byte stands between a low start bit and a high stop bit, least significant bit
first, the frame as one run, at the rate of the ARATE strap as sampled (R161). That a start bit is low is log entry 31; that SEQ of a
notice and its bytes are fixed as it leaves the queue is log entry 26; that the row then takes the heads that its operand `take`
names is the model's choice (log entry 8). -/
def Obligations.TransmitterChooses : Prop :=
  (∀ s : State, s.power = true → s.lnk.tx ≠ .forReply → (∀ r ∈ s.lnk.replies, r.isRestart = false) →
    (s.lnk.tx = .reply → s.lnk.replies ≠ []) →
    let left := if s.lnk.tx = .reply then s.lnk.replies.tail else s.lnk.replies
    let k : Lnk := { s.lnk with tx := .idle, replies := left }
    (left ≠ [] → exec (.transmitDone []) s = .next (s.setLnk { k with tx := .reply })) ∧
    (left = [] → (s.lnk.notices = [] ∨ s.lnk.credits = 0) → exec (.transmitDone []) s = .next (s.setLnk k)) ∧
    (∀ q n more, left = [] → s.lnk.notices = (q, n) :: more → 0 < s.lnk.credits →
      exec (.transmitDone []) s = .next (s.setLnk
        (if 0 < s.lnk.lost ∧ more.length < 32 then
          { k with tx := .notice q n, credits := s.lnk.credits - 1,
                   notices := more ++ [(s.lnk.nextNotice, .noticesLost s.lnk.lost)],
                   nextNotice := s.lnk.nextNotice + 1, lost := 0 }
         else { k with tx := .notice q n, credits := s.lnk.credits - 1, notices := more }))) ∧
    (∀ take t, exec (.transmitDone []) s = .next t → exec (.transmitDone take) s = .next (takeHeads take t))) ∧
  (∀ k : Lnk,
    let frame := fun (kind q : Byte) (p : List Byte) =>
      let core := BitVec.ofNat 8 p.length :: kind :: q :: p
      some ((0xA5 : Byte) :: (core ++ [(crc16 core).setWidth 8, (crc16 core >>> 8).setWidth 8]))
    (∀ q c st again d x rest, k.tx = .reply → k.replies = .answer q c st again d x :: rest →
      k.sending = frame 0x81 q (c :: BitVec.ofNat 8 st.code :: (if again then 1 else 0) :: d)) ∧
    (∀ q rest, k.tx = .reply → k.replies = .linkReset q :: rest → k.sending = frame 0x84 q []) ∧
    (∀ q n, k.tx = .notice q n → k.sending = frame 0x82 q (BitVec.ofNat 8 n.code :: n.body)) ∧
    (k.tx = .idle → k.sending = none) ∧
    (∀ bs, k.sending = some bs → k.txd = (bs.map character).flatten) ∧ (k.sending = none → k.txd = []) ∧
    k.rate = if k.arate then 460800 else 115200) ∧
  serialIdle = .high ∧
  (∀ b : Byte, character b = [.low, Level.ofBool (b.getLsbD 0), Level.ofBool (b.getLsbD 1), Level.ofBool (b.getLsbD 2),
    Level.ofBool (b.getLsbD 3), Level.ofBool (b.getLsbD 4), Level.ofBool (b.getLsbD 5), Level.ofBool (b.getLsbD 6),
    Level.ofBool (b.getLsbD 7), .high]) ∧
  (∀ (a b c : Bool) (cause : StartCause), let n := Notice.started cause a b c
    n.code = 0x01 ∧ n.body = u8 cause.code ++ flag a ++ flag b ++ flag c) ∧
  (∀ x : Nat, (Notice.noticesLost x).code = 0x02 ∧ (Notice.noticesLost x).body = u16 x) ∧
  (∀ (q c e : Byte) (st : Status), let n := Notice.postedFailed q c st e
    n.code = 0x03 ∧ n.body = [q, c, BitVec.ofNat 8 st.code, e]) ∧
  (∀ (old new : Validity) (cause : ValidityCause) (i : Instant) (g : W16), let n := Notice.timeState old new cause i g
    n.code = 0x10 ∧ n.body = u8 old.code ++ u8 new.code ++ u8 cause.code ++ [0] ++ instantBytes i ++ u16 g.toNat) ∧
  (∀ (cause : StepCause) (old new : Instant) (g : W16), let n := Notice.timeStep cause old new g
    n.code = 0x11 ∧ n.body = u8 cause.code ++ [0] ++ instantBytes old ++ instantBytes new ++ u16 g.toNat) ∧
  (∀ (i : Instant) (g : W16), (Notice.slewDone i g).code = 0x12 ∧ (Notice.slewDone i g).body = instantBytes i ++ u16 g.toNat) ∧
  (∀ b : ActionDone, (Notice.actionDone b).code = 0x20 ∧ (Notice.actionDone b).body =
    u16 b.handle ++ u16 b.label.toNat ++ u8 b.outcome.code ++ flag b.final ++ instantBytes b.due ++ u32 b.lateness ++
    u32 b.consumed ++ u16 b.remaining ++ u16 b.generation.toNat) ∧
  (∀ (x y : Nat) (w : W32), (Notice.capturePending x y w).code = 0x40 ∧
    (Notice.capturePending x y w).body = u16 x ++ u16 y ++ u32 w.toNat) ∧
  (∀ (t : TrigNo) (x : Nat) (i : Instant) (g : W16), (Notice.triggerOverrun t x i g).code = 0x49 ∧
    (Notice.triggerOverrun t x i g).body = u8 (t.val + 1) ++ [0] ++ u16 x ++ instantBytes i ++ u16 g.toNat) ∧
  (∀ (t : TrigNo) (w : W32), (Notice.triggerSpent t w).code = 0x4A ∧
    (Notice.triggerSpent t w).body = u8 (t.val + 1) ++ [0, 0, 0] ++ u32 w.toNat) ∧
  (∀ (n : LineNo) (x y : Nat) (v : Validity), (Notice.refLost (some n) x v y).code = 0x50 ∧
    (Notice.refLost (some n) x v y).body = u8 (n.val + 1) ++ u8 x ++ u8 v.code ++ [0] ++ u32 y) ∧
  (∀ b : ProfileDone, (Notice.profileDone b).code = 0x60 ∧ (Notice.profileDone b).body =
    u8 b.op.code ++ u8 b.outcome.code ++ flag b.fallback ++ u8 (causeCode b.cause) ++ u8 (slotCode b.slot) ++
    u8 b.inserted ++ u8 b.dropped ++ [0] ++ u32 b.generation) ∧
  (∀ (x : Nat) (f : Fallback) (hold : HoldSet) (i : Instant) (g : W16), (Notice.leaseExpired x f hold i g).code = 0x70 ∧
    (Notice.leaseExpired x f hold i g).body = u16 x ++ u8 f.code ++ hold.byte ++ instantBytes i ++ u16 g.toNat)

/-! ## Supply and ticks -/

/-- POWER_UP: a bad marker makes a cold start, which gives the backup domain its cold values, an intact one a main reset with start
cause SUPPLY, or PIN with NRST held, that keeps it; either way every block takes its values of a main reset and STARTED goes out
first (R7, R24, R48, R87, R98, R111, R127, R128, R130, R135, R160, R173, R176). That there is no such event with VDD present is
the model's reading (log entry 9), and the pins at the reset are operands (log entry 12). -/
def Obligations.PowerComesUp : Prop :=
  ∀ (nrst : Bool) (pins : StartPins) (s : State),
    (s.power = true → exec (.powerUp nrst pins) s = .next s) ∧
    (s.power = false → s.tmb.marker = false → ∃ t, exec (.powerUp nrst pins) s = .next t ∧
      s.resetTo { instant := ⟨0, 0⟩, validity := .unset, generation := 0, trim := 0, acc := 0, slew := 0, phase := 0,
                  marker := true, elapsed := 0 } .cold pins t) ∧
    (s.power = false → s.tmb.marker = true → ∃ t, exec (.powerUp nrst pins) s = .next t ∧
      s.resetTo s.tmb (if nrst then .pin else .supply) pins t)

/-- NRST: every block takes its values of a main reset; STARTED is in transmission as notice 0 on one of the two credits, behind it
TIME-STATE where TRACKING became HOLDOVER, then the PROFILE-DONE of a start-up that ended at once; the start-up sequence follows
from the flash and AUTOLOAD, and a flash command in hand takes its full effect or none (R24, R48, R87, R98, R111, R127, R128, R130,
R135, R149, R160, R173, R176). Which of the two is free (log entry 2). The pins at the reset are operands (log entry 12). -/
def Obligations.MainResetSetsTheBlocks : Prop :=
  ∀ (pins : StartPins) (s : State), s.power = true →
    ∃ t, exec (.nrst pins) s = .next t ∧ s.resetTo s.tmb .pin pins t

/-- While VDD is absent a tick advances the backup domain alone, the loss of VBAT spoils the marker alone, and no command but
POWER_UP reaches another block; POWER_LOSS keeps what the backup domain holds, and the part drives and pulls no pin; the outside
can drive a pin, move a strap or change the flash at any time. A flash command cut short by POWER_LOSS leaves each byte of its reach
old or new and every other byte as it was: an erase ahead of a save's programs, or one by PROF-ERASE, leaves its slot invalid or
judged as before, the erase of a failed save leaves its target invalid or holding the full image, and a program too, unless the page
was programmed whole (R2, R6, R7, R69, R149, R161). Which bytes are new is free within that; that each is one or the other, and the
bound for PROF-ERASE, is log entry 3. That other commands do nothing is the model's reading (log entry 9); that POWER_LOSS makes the advance still
owed is log entry 7, what it keeps of the main domain log entry 14, the level of an open pin log entry 1, and straps and flash as
pins of RAW_LEVEL_CHANGE log entry 12. -/
def Obligations.BackupDomainGoesOn : Prop :=
  ∀ s : State,
    (s.power = false → s.tmb.marker = true →
      let a := s.tmb.advance
      let t := s.setTmb (if a.rangeEnd then { a.tmb with validity := .unset } else a.tmb)
      exec .backupTick s = .next t ∧ ∀ now, exec (.nominalTick now) s = .next t) ∧
    (s.power = false → exec .backupDomainLoss s = .next (s.setTmb { s.tmb with marker := false })) ∧
    (s.power = true → exec .backupTick s = .next s ∧ exec .backupDomainLoss s = .next s) ∧
    (s.power = true →
      ∃ t, exec .powerLoss s = .next t ∧ t.power = false ∧ t.owed = [] ∧
        (let a := s.tmb.advance
         t.tmb = if TickUnit.advance ∈ s.owed then (if a.rangeEnd then { a.tmb with validity := .unset } else a.tmb) else s.tmb) ∧
        t.straps = s.straps ∧ t.lin = s.lin ∧
        t.pending = s.pending ∧ t.flash.maker = s.flash.maker ∧ (s.prs.command = none → t.flash = s.flash) ∧
        (∀ slot, s.prs.job = .saveErase ∧ s.prs.target = some slot ∨ (∃ d, s.prs.job = .eraseA d) ∧ slot = .a ∨
            s.prs.job = .eraseB ∧ slot = .b →
          validateSlot t.flash.cells slot = none ∨ validateSlot t.flash.cells slot = validateSlot s.flash.cells slot) ∧
        (∀ (slot : Slot) (img : SlotImage), s.prs.target = some slot → s.prs.image = some img →
          let held := Memory.readAll t.flash.cells slot.base img.bytes.length = img.bytes
          (∀ cause, s.prs.job = .saveRecover cause → validateSlot t.flash.cells slot = none ∨ held) ∧
          ∀ page rest, s.prs.job = .saveProgram page rest → validateSlot t.flash.cells slot = none ∨ held ∨
            t.flash.cells = Memory.writeAll s.flash.cells (slot.base + 256 * page) ((img.bytes.drop (256 * page)).take 256)) ∧
        (Memory.wf s.flash.cells = true → ∀ x,
          (∀ slot, s.prs.command = some (.erase slot) → Memory.read t.flash.cells x = Memory.read s.flash.cells x ∨
            (slot.holds x = true ∧ Memory.read t.flash.cells x = 0xFF)) ∧
          (∀ a bs, s.prs.command = some (.program a bs) → Memory.read t.flash.cells x = Memory.read s.flash.cells x ∨
            (a ≤ x ∧ ∃ b, bs[x - a]? = some b ∧ Memory.read t.flash.cells x = b)))) ∧
    (∀ n : LineNo,
      exec (.rawLevelChange (.line n) .released) s = .next (s.setLin (s.lin.set n { s.lin[n] with ext := none })) ∧
      ∀ l, exec (.rawLevelChange (.line n) (.held l)) s = .next (s.setLin (s.lin.set n { s.lin[n] with ext := some l }))) ∧
    (∀ l : Level,
      exec (.rawLevelChange .arate (.held l)) s = .next (s.setStraps { s.straps with arate := decide (l = .high) }) ∧
      exec (.rawLevelChange .autoload (.held l)) s = .next (s.setStraps { s.straps with autoload := decide (l = .high) })) ∧
    (∀ b : Byte, exec (.rawLevelChange .flash (.answering b)) s = .next (s.setFlash { s.flash with maker := b })) ∧
    (s.power = false → ∀ n : LineNo, s.driven n = none ∧ s.pulled n = none ∧
      ∀ l, (s.lin[n]).ext = some l → s.raw n = l) ∧
    (∀ (c : Instr) (t : State), s.power = false → (∀ b p, c ≠ .powerUp b p) → exec c s = .next t →
      t.power = false ∧ ((∀ x d, c ≠ .rawLevelChange x d) → t.straps = s.straps ∧ t.flash = s.flash) ∧ t.sch = s.sch ∧
      t.cap = s.cap ∧ t.trg = s.trg ∧ t.rds = s.rds ∧ t.prs = s.prs ∧ t.lsm = s.lsm ∧ t.lnk = s.lnk ∧
      t.flash.cells = s.flash.cells ∧
      ∀ n : LineNo, (t.lin[n]).config = (s.lin[n]).config ∧ (t.lin[n]).output = (s.lin[n]).output ∧
        (t.lin[n]).input = (s.lin[n]).input)

/-- NOMINAL_TICK: the elapsed counter rises by 1 and every block is given its part; the parts named are dealt with in their order
and the rest stays owed; a tick that finds the last one unfinished finishes it first. What a part does where no event is due: the
advance with its pass, a pulse or holdoff remainder lower by 1, an edge count or lease count higher by 1, a filter sample that
starts, grows or ends a run, a run that ends short counting as a glitch (R2, R8, R11, R17, R77, R81, R82, R83, R104, R122, R153).
The order operand and the owed parts are the model's way of letting either order occur (log entries 7 and 8), and a pin reading
draws a free value (log entry 1). -/
def Obligations.TicksAreGivenOut : Prop :=
  ∀ s : State, s.power = true →
    (∀ now, exec (.nominalTick now) s = .next (dealAll now
      (((settle s).setTmb { (settle s).tmb with elapsed := (settle s).tmb.elapsed + 1 }).setOwed tickUnits))) ∧
    tickUnits.length = 27 ∧ tickUnits.Nodup ∧ (∀ u : TickUnit, u ∈ tickUnits) ∧ (settle s).owed = [] ∧
    (s.owed = [] → (∀ n, s.complete n = false) →
      let u := s.setTmb { s.tmb with elapsed := s.tmb.elapsed + 1 }
      let rest := fun x : TickUnit => u.setOwed (tickUnits.erase x)
      exec (.nominalTick []) s = .next (u.setOwed tickUnits) ∧
      (∀ k, s.tmb.advance.rangeEnd = false → s.tmb.advance.slewDone = false →
        (∀ e ∈ s.sch.entries, ∀ r, e.rep = some r → 0 < r.period) →
        let v := (rest .advance).setTmb { s.tmb.advance.tmb with elapsed := s.tmb.elapsed + 1 }
        exec (.nominalTick [.advance k]) s = .next (if s.tmb.advance.tmb.instant = s.tmb.instant then v else pass v)) ∧
      (∀ (n : LineNo) (accept : Option EdgeOrder), (s.lin[n]).input = none →
        ((s.lin[n]).output = none ∨ (∃ o, (s.lin[n]).output = some o ∧ o.pulse = none) →
          exec (.nominalTick [.line n accept]) s = .next (rest (.line n))) ∧
        (∀ o p, (s.lin[n]).output = some o → o.pulse = some p → 1 < p.remainder →
          exec (.nominalTick [.line n accept]) s = .next ((rest (.line n)).setLin (s.lin.set n
            { s.lin[n] with output := some ⟨o.commanded, some ⟨p.rest, p.remainder - 1⟩⟩ })))) ∧
      (∀ (n : LineNo) (accept : Option EdgeOrder) (f : Filter), (s.lin[n]).input = some f →
        let sampled := fun (run : Option Run) (glitches : Nat) => ((rest (.line n)).setLin (s.lin.set n
          { s.lin[n] with input := some ⟨f.accepted, run⟩, glitches := glitches })).setDraws (s.draws + 1)
        (s.raw n = f.accepted → exec (.nominalTick [.line n accept]) s = .next (sampled none
          (if f.run = none then (s.lin[n]).glitches else min 65535 ((s.lin[n]).glitches + 1)))) ∧
        (s.raw n ≠ f.accepted → f.run = none → accept = none ∨ 1 < (s.lin[n]).config.acceptance →
          exec (.nominalTick [.line n accept]) s =
            .next (sampled (some ⟨1, s.tmb.instant, s.tmb.generation⟩) (s.lin[n]).glitches)) ∧
        (∀ r, s.raw n ≠ f.accepted → f.run = some r → accept = none ∨ r.count + 1 < (s.lin[n]).config.acceptance →
          exec (.nominalTick [.line n accept]) s =
            .next (sampled (some ⟨r.count + 1, r.onset, r.generation⟩) (s.lin[n]).glitches))) ∧
      (∀ t : TrigNo,
        ((∀ x, s.trg[t] = some x → x.state ≠ .holdoff) → exec (.nominalTick [.trigger t]) s = .next (rest (.trigger t))) ∧
        (∀ x, s.trg[t] = some x → x.state = .holdoff → 1 < x.remainder → exec (.nominalTick [.trigger t]) s =
          .next ((rest (.trigger t)).setTrg (s.trg.set t (some { x with remainder := x.remainder - 1 }))))) ∧
      (s.rds.state = .lost ∨ (s.rds.state = .active ∧ min 65535 (s.rds.count + 1) ≤ s.rds.config.timeout * 1024) →
        exec (.nominalTick [.reference]) s =
          .next ((rest .reference).setRds { s.rds with count := min 65535 (s.rds.count + 1) })) ∧
      (s.rds.state = .idle ∨ s.rds.state = .waiting →
        exec (.nominalTick [.reference]) s = .next ((rest .reference).setRds { s.rds with count := 0 })) ∧
      (s.lsm.state = .running → s.lsm.count + 1 < s.lsm.period * 1024 →
        exec (.nominalTick [.lease]) s = .next ((rest .lease).setLsm { s.lsm with count := s.lsm.count + 1 })) ∧
      (s.lsm.state ≠ .running → exec (.nominalTick [.lease]) s = .next (rest .lease)))

/-- The advance of a nominal tick: the trim carry, the slew carry withheld where it has the same sign, an advance of 0, 1 or 2, the
accumulator and the phase in their ranges, and the end of the range (R8, R9, R10, R12). That a range
end whose correction would complete the slew posts no SLEW-DONE is the model's reading (log entry 13). -/
def Obligations.AdvanceIsBounded : Prop :=
  ∀ t : Tmb, t.inRange →
    let a := t.advance
    let sum := t.acc + t.trim
    let carry : Int := if 1048576 ≤ sum then 1 else if sum ≤ -1048576 then -1 else 0
    let slew : Int := if t.phase = 63 ∧ 0 < t.slew ∧ carry ≠ 1 then 1
                      else if t.phase = 63 ∧ t.slew < 0 ∧ carry ≠ -1 then -1 else 0
    let target := (t.instant.ticks : Int) + 1 + carry + slew
    a.tmb.acc = sum - 1048576 * carry ∧ -1048576 < a.tmb.acc ∧ a.tmb.acc < 1048576 ∧ a.tmb.phase = (t.phase + 1) % 64 ∧
    0 ≤ 1 + carry + slew ∧ 1 + carry + slew ≤ 2 ∧
    (target ≤ Instant.top.ticks → a.rangeEnd = false ∧ (a.tmb.instant.ticks : Int) = target ∧ a.tmb.slew = t.slew - slew ∧
      (a.slewDone = true ↔ slew ≠ 0 ∧ t.slew = slew)) ∧
    ((Instant.top.ticks : Int) < target → a.rangeEnd = true ∧ a.tmb.instant = Instant.top ∧ a.tmb.slew = 0 ∧
      a.slewDone = false) ∧
    a.tmb.validity = t.validity ∧ a.tmb.generation = t.generation ∧ a.tmb.trim = t.trim ∧ a.tmb.marker = t.marker ∧
    a.tmb.elapsed = t.elapsed ∧ a.tmb.inRange

/-- TRIM_CARRY, SLEW_CORRECTION and RANGE_END: the advance still owed, when it makes a trim carry, reads phase 63 with a remainder,
or would pass the top value, is dealt with; otherwise there is no such event (R8, R9, R12, R14). That a row whose event is not due
leaves the part as it is, is log entry 6. With a HELD scheduler the Time Base's own notice is the only one; where it stands among
those of a pass is the rows' operand, and for RANGE_END a free value (log entry 8). -/
def Obligations.AdvanceRowsDealTheAdvance : Prop :=
  ∀ (k : Nat) (s : State), s.power = true → TickUnit.advance ∈ s.owed →
    let u := s.setOwed (s.owed.erase .advance)
    let a := s.tmb.advance
    (a.rangeEnd = false → (s.tmb.acc + s.tmb.trim ≥ 1048576 ∨ s.tmb.acc + s.tmb.trim ≤ -1048576) →
      ∃ t, exec (.trimCarry k) s = .next t ∧ t.tmb = a.tmb ∧ t.owed = u.owed ∧ t.cap = s.cap ∧ t.trg = s.trg ∧
        t.rds = s.rds ∧ t.prs = s.prs ∧ t.lsm = s.lsm ∧ t.flash = s.flash ∧
        (s.sch.hold.isEmpty = false → t.sch = s.sch ∧ t.lin = s.lin)) ∧
    (a.rangeEnd = false → s.tmb.phase = 63 → s.tmb.slew ≠ 0 →
      ∃ t, exec (.slewCorrection k) s = .next t ∧ t.tmb = a.tmb ∧ t.owed = u.owed ∧ t.cap = s.cap ∧ t.trg = s.trg ∧
        t.rds = s.rds ∧ t.prs = s.prs ∧ t.lsm = s.lsm ∧ t.flash = s.flash ∧
        (s.sch.hold.isEmpty = false → t.sch = s.sch ∧ t.lin = s.lin ∧
          t.lnk = if a.slewDone then (s.lnk.enqueue (.slewDone a.tmb.instant s.tmb.generation)).choose else s.lnk)) ∧
    (a.rangeEnd = true → ∀ c : Instr, (c = .rangeEnd ∨
        (c = .trimCarry k ∧ (s.tmb.acc + s.tmb.trim ≥ 1048576 ∨ s.tmb.acc + s.tmb.trim ≤ -1048576)) ∨
        (c = .slewCorrection k ∧ s.tmb.phase = 63 ∧ s.tmb.slew ≠ 0)) →
      ∃ t, exec c s = .next t ∧ t.tmb = { a.tmb with validity := .unset } ∧ t.owed = u.owed ∧ t.cap = s.cap ∧
        t.trg = s.trg ∧ t.rds = s.rds ∧ t.prs = s.prs ∧ t.lsm = s.lsm ∧ t.flash = s.flash ∧
        (s.tmb.validity ≠ .unset → t.sch.hold.notime = true) ∧
        (s.sch.hold.isEmpty = false → t.lin = s.lin ∧ t.lnk = if s.tmb.validity = .unset then s.lnk else
          (s.lnk.enqueue (.timeState s.tmb.validity .unset .rangeEnd Instant.top s.tmb.generation)).choose)) ∧
    (a.rangeEnd = false → exec .rangeEnd s = .next s) ∧
    (s.tmb.acc + s.tmb.trim < 1048576 → -1048576 < s.tmb.acc + s.tmb.trim → exec (.trimCarry k) s = .next s) ∧
    (s.tmb.phase ≠ 63 ∨ s.tmb.slew = 0 → exec (.slewCorrection k) s = .next s)

/-- PULSE_EXPIRY, HOLDOFF_END and REF_LOST: the owed tick that brings the pulse remainder to 0 returns the line to its rest level;
one that ends a holdoff arms the trigger; one that passes the loss timeout declares the loss, with HOLDOVER in STEER mode from
TRACKING and REF-LOST posted. No other line, trigger or block changes (R77, R104, R122). -/
def Obligations.CountdownsEnd : Prop :=
  ∀ s : State, s.power = true →
    (∀ (n : LineNo) (o : Output) (p : Pulse), TickUnit.line n ∈ s.owed → (s.lin[n]).input = none → (s.lin[n]).output = some o →
      o.pulse = some p → p.remainder = 1 →
      exec (.pulseExpiry n) s = .next ((s.setOwed (s.owed.erase (.line n))).setLin
        (s.lin.set n { s.lin[n] with output := some ⟨p.rest, none⟩ }))) ∧
    (∀ (t : TrigNo) (x : Trigger), TickUnit.trigger t ∈ s.owed → s.trg[t] = some x → x.state = .holdoff → x.remainder = 1 →
      exec (.holdoffEnd t) s = .next ((s.setOwed (s.owed.erase (.trigger t))).setTrg
        (s.trg.set t (some { x with state := .armed, remainder := 0 })))) ∧
    (TickUnit.reference ∈ s.owed → s.rds.state = .active → s.rds.count < 65535 →
      s.rds.config.timeout * 1024 < s.rds.count + 1 →
      let u := (s.setOwed (s.owed.erase .reference)).setRds { s.rds with count := s.rds.count + 1, state := .lost, run := 0 }
      let v := if s.rds.config.mode = .steer ∧ s.tmb.validity = .tracking then setValidity .holdover .refLoss 0 u else u
      exec .refLost s = .next (post (.refLost s.rds.line s.rds.config.timeout v.tmb.validity
        ((s.rds.history.getLast?.map (·.sec)).getD 0)) v))

/-- EDGE_ACCEPT: the owed sample that completes a run, or a run that stands complete, changes the accepted level, ends the run, and
hands the edge with the run's onset to the Capture Log where the line's setting takes it, and to the Trigger Table of an INPUT
line, its triggers in rising id, or the Reference Discipline of the REFERENCE line; a line whose edges nobody takes changes
nothing else (R81, R82, R84, R101). The Capture Log's place among the receivers is free (log entries 8 and 29), a run may stand
complete before its acceptance (log entry 7), and a pin reading draws a free value (log entry 1). -/
def Obligations.EdgesAreAccepted : Prop :=
  ∀ (n : LineNo) (order : EdgeOrder) (f : Filter) (s : State), s.power = true → (s.lin[n]).input = some f →
    let accepted := fun (run : Run) (level : Level) (x : State) =>
      let e : EdgeReport := { line := n, edge := if level = .high then .rise else .fall, onset := run.onset,
                              generation := run.generation }
      let u := x.setLin (s.lin.set n { s.lin[n] with input := some { accepted := level, run := none } })
      let toLog := fun y : State => if (s.lin[n]).config.capture.takes e.edge then captureEdge e y else y
      if (s.lin[n]).config.role = .input then
        let v := (List.finRange 8).foldl (fun y m => offerEdge e m (if order.logAfter = m.val then toLog y else y)) u
        if 8 ≤ order.logAfter then toLog v else v
      else if (s.lin[n]).config.role = .reference then
        if order.logAfter = 0 then referenceEdge e order.stateAfter (toLog u)
        else toLog (referenceEdge e order.stateAfter u)
      else toLog u
    (TickUnit.line n ∈ s.owed → s.raw n ≠ f.accepted →
      (f.run = none → (s.lin[n]).config.acceptance = 1 → exec (.edgeAccept n order) s = .next
        (accepted ⟨1, s.tmb.instant, s.tmb.generation⟩ (s.raw n)
          ((s.setOwed (s.owed.erase (.line n))).setDraws (s.draws + 1)))) ∧
      (∀ r, f.run = some r → r.count + 1 = (s.lin[n]).config.acceptance → exec (.edgeAccept n order) s = .next
        (accepted r (s.raw n) ((s.setOwed (s.owed.erase (.line n))).setDraws (s.draws + 1))))) ∧
    (∀ r, f.run = some r → (s.lin[n]).config.acceptance ≤ r.count →
      exec (.edgeAccept n order) s = .next (accepted r f.accepted.inv s))

/-- The Capture Log stores an edge with the next serial and the present validity, and posts CAPTURE-PENDING at the mark with the flag
yes; a full log loses the edge or its oldest record by its policy, and counts it; a CAPTURE-PENDING at a full log needs the flag
yes there, which no state of `Cap.ok` has (R89, R91, R92, R95). -/
def Obligations.EdgesAreCaptured : Prop :=
  ∀ (e : EdgeReport) (s : State),
    let record : CapRecord := { serial := s.cap.lastSerial + 1, line := e.line, edge := e.edge, instant := e.onset,
                                generation := e.generation, validity := s.tmb.validity }
    let stored := fun (old : List CapRecord) (lost : Nat) =>
      let c : Cap := { s.cap with log := old ++ [record], lastSerial := s.cap.lastSerial + 1, lost := lost }
      if s.cap.mark ≤ old.length + 1 ∧ s.cap.armed = true then
        post (.capturePending (old.length + 1) lost (s.cap.lastSerial + 1)) (s.setCap { c with armed := false })
      else s.setCap c
    (s.cap.log.length < 256 → captureEdge e s = stored s.cap.log s.cap.lost) ∧
    (256 ≤ s.cap.log.length → s.cap.policy = .keepOldest →
      captureEdge e s = s.setCap { s.cap with lost := min 65535 (s.cap.lost + 1) }) ∧
    (256 ≤ s.cap.log.length → s.cap.policy = .keepNewest →
      captureEdge e s = stored s.cap.log.tail (min 65535 (s.cap.lost + 1)))

/-- An ARMED trigger that an edge selects asks for an entry due its delay after the onset: with room it counts the firing, falls in
its arm count, and becomes SPENT, HOLDOFF or stays ARMED; with 128 entries present it counts an overrun and stays ARMED. A trigger
that is absent, not ARMED or not selected leaves everything as it was, and an edge is offered in rising id
(R35, R100, R101, R102, R103, R105). That the dealings of one edge's triggers follow one another at once, and that TRIGGER-SPENT
stands behind the notices of the insertion's pass, is the model's choice (log entry 29). -/
def Obligations.TriggersFire : Prop :=
  (∀ (e : EdgeReport) (order : EdgeOrder) (s : State), 8 ≤ order.logAfter → handToTriggers e order s =
    offerEdge e 7 (offerEdge e 6 (offerEdge e 5 (offerEdge e 4 (offerEdge e 3 (offerEdge e 2 (offerEdge e 1
      (offerEdge e 0 s)))))))) ∧
  (∀ (n : TrigNo) (e : EdgeReport) (s : State),
    (∀ x, s.trg[n] = some x → x.state ≠ .armed ∨ x.defn.source ≠ e.line ∨ (x.defn.edge = .rise ∧ e.edge = .fall) ∨
      (x.defn.edge = .fall ∧ e.edge = .rise)) → offerEdge e n s = s) ∧
  (∀ (n : TrigNo) (x : Trigger) (e : EdgeReport) (s : State), s.trg[n] = some x → x.state = .armed →
    x.defn.source = e.line → (x.defn.edge = .both ∨ (x.defn.edge = .rise ∧ e.edge = .rise) ∨
      (x.defn.edge = .fall ∧ e.edge = .fall)) →
    (128 ≤ s.sch.entries.length →
      offerEdge e n s = post (.triggerOverrun n (min 65535 (x.overruns + 1)) e.onset e.generation)
        (s.setTrg (s.trg.set n (some { x with overruns := min 65535 (x.overruns + 1) })))) ∧
    (s.sch.entries.length < 128 →
      let due := min (e.onset.ticks + x.defn.delay) Instant.top.ticks
      let entry : Entry :=
        { handle := 0, label := BitVec.ofNat 16 (n.val + 1), due := Instant.ofTicks due, anchor := .interval,
          kind := x.defn.template.kind, lines := x.defn.template.lines, width := x.defn.template.width, rep := none,
          remaining := 0, late := x.defn.template.late, guard := none, notify := x.defn.template.notify, standing := false,
          origin := .trigger, suppressed := 0, stamp := 0 }
      let u := insertAndPass entry s
      let y : Trigger := { x with fired := x.fired + 1, armCount := x.armCount - 1 }
      offerEdge e n s =
        if x.armCount = 1 then
          post (.triggerSpent n (x.fired + 1)) (u.setTrg (u.trg.set n (some { y with state := .spent })))
        else if 0 < x.defn.holdoff then
          u.setTrg (u.trg.set n (some { y with state := .holdoff, remainder := x.defn.holdoff }))
        else u.setTrg (u.trg.set n (some y))))

/-- LEASE_EXPIRY: the owed tick that brings the count to the period makes the lease EXPIRED, applies the fallback, and posts
LEASE-EXPIRED with the reason set as it then stands; RESTART then makes a main reset with start cause LEASE
(R79, R151, R153, R154, R155). -/
def Obligations.LeaseExpires : Prop :=
  ∀ s : State, s.power = true → TickUnit.lease ∈ s.owed → s.lsm.state = .running → s.lsm.period * 1024 = s.lsm.count + 1 →
    let u := (s.setOwed (s.owed.erase .lease)).setLsm { s.lsm with state := .expired, count := s.lsm.count + 1 }
    let held := u.setSch { s.sch with hold := { s.sch.hold with lease := true } }
    let safe := fun x : State => x.setLin (x.lin.map fun l => { l with output := l.output.map fun o =>
      ⟨match l.config.safe with
        | .low => .low
        | .high => .high
        | .keep => o.commanded, none⟩ })
    let done := fun x : State =>
      post (.leaseExpired s.lsm.period s.lsm.fallback x.sch.hold s.tmb.instant s.tmb.generation) x
    exec .leaseExpiry s = .next (match s.lsm.fallback with
      | .notify => done u
      | .hold => done held
      | .safe => done (safe u)
      | .safeHold => done (safe held)
      | .restart => mainReset .lease (done u))

/-! ## The Profile Store's work -/

/-- SCAN_DONE sets both descriptors by what the slots hold, ends in IDLE and posts SKIPPED; a start-up load validates both slots
and applies the current one, by fallback where the slot ranked first is invalid (R133, R134, R135). -/
def Obligations.StartUpReadsTheSlots : Prop :=
  ∀ s : State, s.power = true →
   (s.prs.job = .scanning →
    exec .scanDone s = .next (post (.profileDone (.plain .load .skipped)) (s.setPrs { s.prs with
      job := .idle
      descA := match validateSlot s.flash.cells .a with
        | none => ⟨false, 0⟩
        | some v => ⟨true, v.1⟩
      descB := match validateSlot s.flash.cells .b with
        | none => ⟨false, 0⟩
        | some v => ⟨true, v.1⟩ }))) ∧
   (s.prs.job = .loading true .validating →
    let a := describe (validateSlot s.flash.cells .a)
    let b := describe (validateSlot s.flash.cells .b)
    let u := s.setPrs { s.prs with descA := a, descB := b }
    (a.valid = false → b.valid = false → exec (.loadSlotValidated 0) s =
      .next (post (.profileDone (.plain .load .noneValid)) (removeReason .load (u.setJob .idle)))) ∧
    (∀ slot v, validateSlot s.flash.cells slot = some v →
      (∀ w, validateSlot s.flash.cells slot.other = some w → w.1 < v.1 ∨ (w.1 = v.1 ∧ slot = .a)) →
      exec (.loadSlotValidated 0) s = .next (u.setJob (.loading true (.applying slot v.1
        (decide (validateSlot s.flash.cells (rankedFirst s.flash.cells) = none)) v.2.stages 0 0)))))

/-- LOAD_SLOT_VALIDATED on a requested load: the slot ranked first is validated and its application begins; only if it is invalid
is the other one, which is then applied by fallback; with neither valid LOAD is removed and NONE_VALID posted. Each later command
carries the application on, stage by stage in the order of R138, and its end removes LOAD and posts PROFILE-DONE with the counts:
an entry that is judged away counts as dropped, every other as inserted (R86, R96, R111, R124, R127, R134, R137 to R139, R157).
That one row stands for any run of the steps is log entry 11. -/
def Obligations.LoadsApplyTheRankedSlot : Prop :=
  ∀ s : State, s.power = true →
    let first := rankedFirst s.flash.cells
    let one := s.setDesc first (describe (validateSlot s.flash.cells first))
    let two := one.setDesc first.other (describe (validateSlot s.flash.cells first.other))
    (∀ v, s.prs.job = .loading false .validating → validateSlot s.flash.cells first = some v →
      exec (.loadSlotValidated 0) s = .next (one.setJob (.loading false (.applying first v.1 false v.2.stages 0 0)))) ∧
    (∀ v, s.prs.job = .loading false .validating → validateSlot s.flash.cells first = none →
      validateSlot s.flash.cells first.other = some v →
      exec (.loadSlotValidated 0) s = .next (two.setJob (.loading false (.applying first.other v.1 true v.2.stages 0 0)))) ∧
    (s.prs.job = .loading false .validating → validateSlot s.flash.cells first = none →
      validateSlot s.flash.cells first.other = none →
      exec (.loadSlotValidated 0) s =
        .next (post (.profileDone (.plain .load .noneValid)) (removeReason .load (two.setJob .idle)))) ∧
    (∀ su slot gen fb ins drop, s.prs.job = .loading su (.applying slot gen fb [] ins drop) →
      exec (.loadSlotValidated 1) s =
        .next (post (.profileDone (.loaded slot gen fb ins drop)) (removeReason .load (s.setJob .idle)))) ∧
    (∀ su slot gen fb st rest ins drop, s.prs.job = .loading su (.applying slot gen fb (st :: rest) ins drop) →
      exec (.loadSlotValidated 1) s = .next ((runStage st s).setJob (.loading su (.applying slot gen fb rest
        (ins + match st with
          | .insertEntry e => if e.judge s.tmb.validity s.now = none then 0 else 1
          | _ => 0)
        (drop + match st with
          | .insertEntry e => if e.judge s.tmb.validity s.now = none then 1 else 0
          | _ => 0))))) ∧
    (∀ p : Profile, p.stages = [.dropTriggers, .dropEntries, .linesOff, .installLines p.lines, .installTolerance p.tolerance,
      .installCapture p.policy p.mark, .installDiscipline p.ref, .installLease p.period p.fallback] ++
      p.entries.map .insertEntry ++ [.installTriggers p.triggers]) ∧
    (runStage .dropTriggers s = s.setTrg (Vector.replicate 8 none)) ∧
    (runStage .dropEntries s = s.setSch { s.sch with entries := [] }) ∧
    (let t := runStage .linesOff s
     let had := ∃ n : LineNo, (s.lin[n]).config.role = .reference
     let ends := had ∧ s.rds.config.mode = .steer ∧ s.tmb.validity = .tracking
     (∀ n : LineNo, t.lin[n] = { s.lin[n] with config := ⟨.off, .low, .low, .none, 0, .none⟩, output := none, input := none }) ∧
     (had → t.rds = { s.rds with line := none, run := 0, state := .idle, count := 0 }) ∧ (¬had → t.rds = s.rds) ∧
     (ends → t.tmb = { s.tmb with validity := .holdover } ∧
       t.lnk = (s.lnk.enqueue (.timeState .tracking .holdover .refOff s.tmb.instant s.tmb.generation)).choose) ∧
     (¬ends → t.tmb = s.tmb ∧ t.lnk = s.lnk) ∧
     t.sch = s.sch ∧ t.cap = s.cap ∧ t.trg = s.trg ∧ t.prs = s.prs ∧ t.lsm = s.lsm ∧ t.draws = s.draws) ∧
    (∀ cs : Vector LineConfig 16, runStage (.installLines cs) s =
      (List.finRange 16).foldl (fun x n => configureLine n cs[n] x) s) ∧
    (∀ w, runStage (.installTolerance w) s = s.setSch { s.sch with tolerance := w }) ∧
    (∀ policy mark,
      let c : Cap := { s.cap with policy := policy, mark := mark }
      runStage (.installCapture policy mark) s =
        if s.cap.log.length < mark then s.setCap { c with armed := true }
        else if s.cap.armed = true then
          post (.capturePending s.cap.log.length s.cap.lost s.cap.lastSerial) (s.setCap { c with armed := false })
        else s.setCap c) ∧
    (∀ c : RefConfig,
      let idle := s.rds.line = none ∨ c.mode = .off
      runStage (.installDiscipline c) s =
        (if s.rds.config.mode = .steer ∧ c.mode ≠ .steer ∧ s.tmb.validity = .tracking then
          setValidity .holdover .refOff 0 s else s).setRds { s.rds with
            config := c
            run := 0
            state := if idle then .idle else if s.rds.state = .idle then .waiting else s.rds.state
            count := if idle ∨ s.rds.state = .idle then 0 else s.rds.count }) ∧
    (∀ period fallback, runStage (.installLease period fallback) s = s.setLsm
      (if s.lsm.state = .expired then { s.lsm with period := period, fallback := fallback }
       else { period := period, fallback := fallback, state := if period = 0 then .disabled else .running, count := 0 })) ∧
    (∀ e : StoredEntry, (e.judge s.tmb.validity s.now = none → runStage (.insertEntry e) s = s) ∧
      (∀ x, e.judge s.tmb.validity s.now = some x → runStage (.insertEntry e) s = insertAndPass x s)) ∧
    (∀ ts : Vector (Option StoredTrigger) 8, ∃ v : Vector (Option Trigger) 8, runStage (.installTriggers ts) s = s.setTrg v ∧
      ∀ n : TrigNo, v[n] = match ts[n] with
        | none => none
        | some x => some { defn := x.defn, armCount := x.armCount, state := if x.armed then .armed else .disarmed,
                           remainder := 0, fired := 0, overruns := 0 }) ∧
    (∀ k t, s.loading = true → exec (.loadSlotValidated 0) s = .next t →
      exec (.loadSlotValidated k) s = exec (.loadSlotValidated k) t) ∧
    (∀ k t, s.applying = true → exec (.loadSlotValidated 1) s = .next t →
      exec (.loadSlotValidated (k + 1)) s = exec (.loadSlotValidated k) t)

/-- A stored standing entry is judged by the validity and the instant: kept, advanced by whole periods to the first due later than
the instant with its count lowered, or dropped (R139). -/
def Obligations.StoredEntriesAreJudged : Prop :=
  ∀ (e : StoredEntry) (v : Validity) (now : Nat),
    ((v = .unset ∨ now < e.due.ticks) → e.judge v now = some (e.entry e.due e.remaining)) ∧
    (v ≠ .unset → e.due.ticks ≤ now → e.period = none → e.judge v now = none) ∧
    (∀ p, v ≠ .unset → e.due.ticks ≤ now → e.period = some p → 0 < p →
      ∃ k, 0 < k ∧ now < e.due.ticks + k * p ∧ e.due.ticks + (k - 1) * p ≤ now ∧
        e.judge v now =
          if Instant.top.ticks < e.due.ticks + k * p ∨ (e.remaining ≠ 0 ∧ e.remaining ≤ k) then none
          else some (e.entry (Instant.ofTicks (e.due.ticks + k * p)) (e.remaining - k)))

/-- A save: the erase is followed by the body's pages in rising order and then page 0, the last page by the verify; a match makes the
target valid with the new generation and posts SAVED, a mismatch leads to the recovery erase, whose end posts FAILED with the first
cause; the two erases of PROF-ERASE follow each other and end with ERASED. Each erase and program goes over the SPI port as write
enable, the command with its address most significant byte first, and read status; the verify as one read. Every command is one NCS
low period in mode 0: SCK rests low, each bit stands before and at its rising edge, the bytes go out most significant bit first, and
the flash returns the manufacturer byte, the bytes read, or the status byte, whose bit 0 says whether an erase or a program is in hand
(R129, R131, R143, R144, R145). The bytes of a page that come out wrong are the model's operand (log entry 16); that one read status
stands for the polls of a wait, that the verify is one read, that one byte of the identification is read and that the first bit is
driven as NCS falls, is the model's reading (log entry 30); the other bits of the status byte are free (log entry 32). -/
def Obligations.SavesAndErasesGoThroughTheirStages : Prop :=
  ∀ s : State, s.power = true →
    (∀ (slot : Slot) (img : SlotImage), s.prs.job = .saveErase → s.prs.target = some slot → s.prs.image = some img →
      0 < img.bytes.length →
      ∃ page rest, page :: rest = (List.range ((img.bytes.length + 255) / 256)).tail ++ [0] ∧
        exec .saveEraseDone s = .next ((s.setCells (Memory.erase s.flash.cells slot)).setJob (.saveProgram page rest))) ∧
    (∀ (slot : Slot) (img : SlotImage) page rest flaws, s.prs.job = .saveProgram page rest → s.prs.target = some slot →
      s.prs.image = some img →
      exec (.pageProgramDone flaws) s = .next ((s.setCells (applyFlaws (slot.base + 256 * page) flaws
        (Memory.writeAll s.flash.cells (slot.base + 256 * page) ((img.bytes.drop (256 * page)).take 256)))).setJob (match rest with
          | [] => .saveVerify
          | q :: qs => .saveProgram q qs))) ∧
    (∀ (slot : Slot) (img : SlotImage), s.prs.job = .saveVerify → s.prs.target = some slot → s.prs.image = some img →
      (Memory.readAll s.flash.cells slot.base img.bytes.length = img.bytes →
        exec .verifyDone s = .next (post (.profileDone
            { op := .save, outcome := if slot = .a then .savedA else .savedB, fallback := false, cause := none,
              slot := some slot, generation := img.generation, inserted := 0, dropped := 0 })
          (s.setPrs { s.prs with
            job := .idle, target := none, image := none
            descA := if slot = .a then ⟨true, img.generation⟩ else s.prs.descA
            descB := if slot = .b then ⟨true, img.generation⟩ else s.prs.descB }))) ∧
      (Memory.readAll s.flash.cells slot.base img.bytes.length ≠ img.bytes →
        exec .verifyDone s = .next (s.setJob (.saveRecover .verify)))) ∧
    (∀ (slot : Slot) cause, s.prs.job = .saveRecover cause → s.prs.target = some slot →
      exec .recoveryEraseDone s = .next (post (.profileDone (.failed .save cause (some slot)))
        ((s.setCells (Memory.erase s.flash.cells slot)).setPrs { s.prs with
          job := .idle, target := none, image := none }))) ∧
    (∀ d, s.prs.job = .eraseA d →
      exec .slotEraseDone s = .next ((s.setCells (Memory.erase s.flash.cells .a)).setPrs { s.prs with
        job := .eraseB, target := some .b })) ∧
    (s.prs.job = .eraseB →
      exec .slotEraseDone s = .next (post (.profileDone (.plain .erase .erased))
        ((s.setCells (Memory.erase s.flash.cells .b)).setPrs { s.prs with job := .idle, target := none, image := none }))) ∧
    (let high := fun slot : Slot => if slot = .a then (0x00 : Byte) else 0x10
     let sent := s.port.map SpiCommand.bytes
     (∀ slot : Slot, (s.prs.job = .saveErase ∨ ∃ cause, s.prs.job = .saveRecover cause) → s.prs.target = some slot →
        sent = [[0x06], [0x20, 0x00, high slot, 0x00], [0x05]]) ∧
     (∀ d, s.prs.job = .eraseA d → sent = [[0x06], [0x20, 0x00, 0x00, 0x00], [0x05]]) ∧
     (s.prs.job = .eraseB → sent = [[0x06], [0x20, 0x00, 0x10, 0x00], [0x05]]) ∧
     (∀ (slot : Slot) (img : SlotImage) page rest, s.prs.job = .saveProgram page rest → page ≤ 15 → s.prs.target = some slot →
        s.prs.image = some img →
        sent = [[0x06], [0x02, 0x00, high slot + BitVec.ofNat 8 page, 0x00] ++ (img.bytes.drop (256 * page)).take 256, [0x05]]) ∧
     (∀ (slot : Slot), s.prs.job = .saveVerify → s.prs.target = some slot → sent = [[0x03, 0x00, high slot, 0x00]]) ∧
     (s.prs.job = .idle → s.port = [])) ∧
    (let bits := fun b : Byte => [7, 6, 5, 4, 3, 2, 1, 0].map fun i => Level.ofBool (b.getLsbD i)
     let rest : SpiPins := ⟨.high, .low, none, none⟩
     let busy := match s.prs.job with
       | .idle | .scanning | .loading .. | .saveVerify => false
       | .saveErase | .saveRecover _ => s.prs.target.isSome
       | .saveProgram .. | .eraseA _ | .eraseB => true
     resetPort.map SpiCommand.bytes = [[0x9F]] ∧ s.portPins = rest :: (s.port.map s.spi).flatten ∧
     ∃ status : Byte, status.getLsbD 0 = busy ∧ ∀ c : SpiCommand,
       let answer := match c with
         | .readId => [s.flash.maker]
         | .read a n => Memory.readAll s.flash.cells a n
         | .readStatus => [status]
         | .writeEnable | .sectorErase _ | .pageProgram .. => []
       let out := (c.bytes.map bits).flatten
       let back := (answer.map bits).flatten
       s.spi c = [rest] ++
         (out.map fun l => [⟨.low, .low, some l, none⟩, ⟨.low, .high, some l, none⟩]).flatten ++
         (back.map fun l => [⟨.low, .low, none, some l⟩, ⟨.low, .high, none, some l⟩]).flatten ++
         [⟨.low, .low, none, none⟩, rest] ∧
       risingEdges (s.spi c) =
         (out.map fun l => ⟨.low, .high, some l, none⟩) ++ (back.map fun l => ⟨.low, .high, none, some l⟩))

/-- FLASH_TIMEOUT: before page 0 is sent the save ends with FAILED, on page 0 the recovery erase follows, and a recovery erase that
times out ends the save with the first cause; a timed-out erase names its slot, and slot B's descriptor returns where slot A timed
out. Whatever the flash then holds, every byte outside the command's reach is as it was (R144, R145). What the bytes in its reach
hold is free (log entry 3). -/
def Obligations.TimeoutsEndTheOperation : Prop :=
  ∀ (s : State), s.power = true → s.prs.command ≠ none →
    ∃ m : List Host.Cell,
      (∀ x, (∀ slot, s.prs.command = some (.erase slot) → slot.holds x = false) →
        (∀ a bs, s.prs.command = some (.program a bs) → ¬(a ≤ x ∧ x < a + bs.length)) →
        Memory.wf s.flash.cells = true → Memory.read m x = Memory.read s.flash.cells x) ∧
      (let u := (s.setCells m).setDraws (s.draws + 1)
       let fin := { s.prs with job := .idle, target := none, image := none }
       exec .flashTimeout s = .next (match s.prs.job with
        | .saveErase => post (.profileDone (.failed .save .timeout s.prs.target)) (u.setPrs fin)
        | .saveProgram page _ =>
          if page = 0 then u.setJob (.saveRecover .timeout)
          else post (.profileDone (.failed .save .timeout s.prs.target)) (u.setPrs fin)
        | .saveRecover cause => post (.profileDone (.failed .save cause s.prs.target)) (u.setPrs fin)
        | .eraseA d => post (.profileDone (.failed .erase .timeout (some .a))) (u.setPrs { fin with descB := d })
        | .eraseB => post (.profileDone (.failed .erase .timeout (some .b))) (u.setPrs fin)
        | _ => s))

/-- No command changes a byte of the flash outside the slot that the operation in hand writes or erases; in particular a save never
writes the slot that is not its target (R129, R141). The receiver stands between frames, no frame waits, and the command is well-formed,
so that none takes two requests: a save taken and a reset taken behind it may erase the new target in one command (R149, log entry 2). -/
def Obligations.FlashOutsideTheTargetIsKept : Prop :=
  ∀ (c : Instr) (s t : State) (x : Nat), c.wf = true → Memory.wf s.flash.cells = true →
    s.lnk.rx = .hunt → s.lnk.backlog = [] → s.lnk.inbound = [] →
    (∀ page rest, s.prs.job = .saveProgram page rest → page ≤ 15) →
    (∀ slot, s.prs.target = some slot → slot.holds x = false) →
    (s.prs.target = none → ∀ page rest, s.prs.job ≠ .saveProgram page rest) →
    (∀ d, s.prs.job = .eraseA d → s.prs.target = some .a) → (s.prs.job = .eraseB → s.prs.target = some .b) →
    exec c s = .next t → Memory.read t.flash.cells x = Memory.read s.flash.cells x

/-- A slot image that a save writes reads back as what was saved: with a profile whose values the requests accept and whose roles fit,
the slot validates with its generation and gives the same profile (R131, R132, R133, R142, R183). -/
def Obligations.SavedSlotsValidate : Prop :=
  ∀ (m : List Host.Cell) (slot : Slot) (gen : Nat) (p : Profile), Memory.wf m = true → 1 ≤ gen → gen ≤ 0xFFFFFFFE →
    p.tolerance ≤ 1023 → 1 ≤ p.mark → p.mark ≤ 256 → p.period ≤ 600 →
    1 ≤ p.ref.window → p.ref.window ≤ 512 → 1 ≤ p.ref.limit → p.ref.limit ≤ 15 → 2 ≤ p.ref.timeout → p.ref.timeout ≤ 60 →
    (∀ n : LineNo, filterLengths.contains (p.lines[n]).filter = true ∧ (p.lines[n]).unusedZero = true) →
    (∀ (n : TrigNo) (t : StoredTrigger), p.triggers[n] = some t →
      t.defn.delay ≤ 1048575 ∧ t.defn.holdoff ≤ 65535 ∧ t.armCount ≤ 255 ∧ t.defn.template.width ≤ 65535 ∧
      t.defn.template.kind ≠ .mark ∧ t.defn.template.kind.fits t.defn.template.lines t.defn.template.width = true) →
    p.entries.length ≤ 64 →
    (∀ e ∈ p.entries, e.due.inRange = true ∧ e.width ≤ 65535 ∧ e.remaining ≤ 65535 ∧ e.kind.fits e.lines e.width = true ∧
      (e.period = none → e.remaining = 0) ∧ (∀ q, e.period = some q → 8 ≤ q ∧ q ≤ 619315200)) →
    p.rolesFit = true →
    validateSlot (Memory.writeAll m slot.base (slotImage gen p)) slot = some (gen, p)

/-! ## What every step keeps -/

/-- The reset state meets every invariant below, and is what POWER_UP makes of a part whose backup domain was lost, with both straps
low and a flash that answers 0xEF (R7, R176). The straps, the flash and the outside levels of the reset state are the model's
choice (log entry 4). -/
def Obligations.ResetMeetsTheInvariants : Prop :=
  State.reset.timeOk ∧ State.reset.lnk.ok ∧ State.reset.cap.ok ∧ State.reset.scheduleOk ∧ State.reset.holdsOk ∧
  State.reset.lsm.ok ∧ State.reset.rds.ok ∧ State.reset.rolesOk ∧ State.reset.referenceOk ∧ State.reset.loadOk ∧
  State.reset.linesOk ∧ Memory.wf State.reset.flash.cells = true ∧
  exec (.powerUp false ⟨false, false, 0xEF⟩)
      { State.reset with power := false, tmb := { State.reset.tmb with marker := false } } = .next State.reset

/-- Every step keeps the time base in its ranges, with no slew while UNSET (R1, R8, R9, R12, R14). -/
def Obligations.TimeStaysInRange : Prop :=
  ∀ s t : State, s.timeOk → step s = .next t → t.timeOk

/-- Every step keeps the link's queues and counts within their limits, and leaves no byte unscanned and no transmitter idle with work
it may do (R163, R166, R167, R172, R173, R174, R178). -/
def Obligations.LinkStaysInLimits : Prop :=
  ∀ s t : State, s.lnk.ok → step s = .next t → t.lnk.ok

/-- Every step keeps the capture log: at most 256 records with consecutive serials, no loss counted while it is empty, the flag no from
the mark on (R89, R94, R95). It also keeps the flash cells in canonical form: addresses rising, no cell at the erased value
(R129; that form is the model's own). -/
def Obligations.StoredDataStaysCanonical : Prop :=
  (∀ s t : State, s.cap.ok → step s = .next t → t.cap.ok) ∧
  (∀ s t : State, Memory.wf s.flash.cells = true → step s = .next t → Memory.wf t.flash.cells = true)

/-- Every step keeps the schedule in order with no stamp shared, and leaves no entry past due while the scheduler is RUNNING
(R28, R29, R50, R61). -/
def Obligations.ScheduleStaysOrdered : Prop :=
  ∀ s t : State, s.scheduleOk → step s = .next t → t.scheduleOk

/-- Every step keeps NOTIME present exactly while the validity is UNSET and LOAD exactly while a load runs, and the lease state in step
with its period and count (R14, R41, R48, R151, R153). -/
def Obligations.HoldsFollowTheirCause : Prop :=
  ∀ s t : State, s.holdsOk → s.lsm.ok → step s = .next t → t.holdsOk ∧ t.lsm.ok

/-- Every step keeps the discipline state IDLE exactly without a line or with mode OFF, its count at 0 before the first edge, its
history at 16 samples (R112, R113, R121), and each line with the state of its role (R73, R81, R83). -/
def Obligations.LinesAndReferenceStayCoherent : Prop :=
  (∀ s t : State, s.rds.ok → step s = .next t → t.rds.ok) ∧
  (∀ s t : State, s.linesOk → step s = .next t → t.linesOk)

/-- Every step keeps every line that an entry or a trigger names in the role it needs, and the reference line the one line with the
REFERENCE role, across a profile load too, whose application stands after each of its stages as those stages left it
(R26, R68, R71, R86, R111, R114, R133, R138, R140). -/
def Obligations.NamedLinesKeepTheirRoles : Prop :=
  ∀ s t : State, s.rolesOk → s.referenceOk → s.loadOk → step s = .next t → t.rolesOk ∧ t.referenceOk ∧ t.loadOk
end

