-- ==== Sys2Proof/Laws/State.lean ====
section
/-! SUPPORT. One lemma per field per setter of the state, so that no proof unfolds a record update. -/

namespace Sys2Proof.Machine

@[simp] theorem State.setPower_power (s : State) (x : Bool) : (s.setPower x).power = x := rfl
@[simp] theorem State.setPower_straps (s : State) (x : Bool) : (s.setPower x).straps = s.straps := rfl
@[simp] theorem State.setPower_tmb (s : State) (x : Bool) : (s.setPower x).tmb = s.tmb := rfl
@[simp] theorem State.setPower_sch (s : State) (x : Bool) : (s.setPower x).sch = s.sch := rfl
@[simp] theorem State.setPower_lin (s : State) (x : Bool) : (s.setPower x).lin = s.lin := rfl
@[simp] theorem State.setPower_cap (s : State) (x : Bool) : (s.setPower x).cap = s.cap := rfl
@[simp] theorem State.setPower_trg (s : State) (x : Bool) : (s.setPower x).trg = s.trg := rfl
@[simp] theorem State.setPower_rds (s : State) (x : Bool) : (s.setPower x).rds = s.rds := rfl
@[simp] theorem State.setPower_prs (s : State) (x : Bool) : (s.setPower x).prs = s.prs := rfl
@[simp] theorem State.setPower_lsm (s : State) (x : Bool) : (s.setPower x).lsm = s.lsm := rfl
@[simp] theorem State.setPower_lnk (s : State) (x : Bool) : (s.setPower x).lnk = s.lnk := rfl
@[simp] theorem State.setPower_flash (s : State) (x : Bool) : (s.setPower x).flash = s.flash := rfl
@[simp] theorem State.setPower_owed (s : State) (x : Bool) : (s.setPower x).owed = s.owed := rfl
@[simp] theorem State.setPower_draws (s : State) (x : Bool) : (s.setPower x).draws = s.draws := rfl
@[simp] theorem State.setPower_pending (s : State) (x : Bool) : (s.setPower x).pending = s.pending := rfl
@[simp] theorem State.setPower_self (s : State) : s.setPower s.power = s := rfl
@[simp] theorem State.setPower_setPower (s : State) (x y : Bool) : (s.setPower x).setPower y = s.setPower y := rfl

@[simp] theorem State.setStraps_power (s : State) (x : Straps) : (s.setStraps x).power = s.power := rfl
@[simp] theorem State.setStraps_straps (s : State) (x : Straps) : (s.setStraps x).straps = x := rfl
@[simp] theorem State.setStraps_tmb (s : State) (x : Straps) : (s.setStraps x).tmb = s.tmb := rfl
@[simp] theorem State.setStraps_sch (s : State) (x : Straps) : (s.setStraps x).sch = s.sch := rfl
@[simp] theorem State.setStraps_lin (s : State) (x : Straps) : (s.setStraps x).lin = s.lin := rfl
@[simp] theorem State.setStraps_cap (s : State) (x : Straps) : (s.setStraps x).cap = s.cap := rfl
@[simp] theorem State.setStraps_trg (s : State) (x : Straps) : (s.setStraps x).trg = s.trg := rfl
@[simp] theorem State.setStraps_rds (s : State) (x : Straps) : (s.setStraps x).rds = s.rds := rfl
@[simp] theorem State.setStraps_prs (s : State) (x : Straps) : (s.setStraps x).prs = s.prs := rfl
@[simp] theorem State.setStraps_lsm (s : State) (x : Straps) : (s.setStraps x).lsm = s.lsm := rfl
@[simp] theorem State.setStraps_lnk (s : State) (x : Straps) : (s.setStraps x).lnk = s.lnk := rfl
@[simp] theorem State.setStraps_flash (s : State) (x : Straps) : (s.setStraps x).flash = s.flash := rfl
@[simp] theorem State.setStraps_owed (s : State) (x : Straps) : (s.setStraps x).owed = s.owed := rfl
@[simp] theorem State.setStraps_draws (s : State) (x : Straps) : (s.setStraps x).draws = s.draws := rfl
@[simp] theorem State.setStraps_pending (s : State) (x : Straps) : (s.setStraps x).pending = s.pending := rfl
@[simp] theorem State.setStraps_self (s : State) : s.setStraps s.straps = s := rfl
@[simp] theorem State.setStraps_setStraps (s : State) (x y : Straps) : (s.setStraps x).setStraps y = s.setStraps y := rfl

@[simp] theorem State.setTmb_power (s : State) (x : Tmb) : (s.setTmb x).power = s.power := rfl
@[simp] theorem State.setTmb_straps (s : State) (x : Tmb) : (s.setTmb x).straps = s.straps := rfl
@[simp] theorem State.setTmb_tmb (s : State) (x : Tmb) : (s.setTmb x).tmb = x := rfl
@[simp] theorem State.setTmb_sch (s : State) (x : Tmb) : (s.setTmb x).sch = s.sch := rfl
@[simp] theorem State.setTmb_lin (s : State) (x : Tmb) : (s.setTmb x).lin = s.lin := rfl
@[simp] theorem State.setTmb_cap (s : State) (x : Tmb) : (s.setTmb x).cap = s.cap := rfl
@[simp] theorem State.setTmb_trg (s : State) (x : Tmb) : (s.setTmb x).trg = s.trg := rfl
@[simp] theorem State.setTmb_rds (s : State) (x : Tmb) : (s.setTmb x).rds = s.rds := rfl
@[simp] theorem State.setTmb_prs (s : State) (x : Tmb) : (s.setTmb x).prs = s.prs := rfl
@[simp] theorem State.setTmb_lsm (s : State) (x : Tmb) : (s.setTmb x).lsm = s.lsm := rfl
@[simp] theorem State.setTmb_lnk (s : State) (x : Tmb) : (s.setTmb x).lnk = s.lnk := rfl
@[simp] theorem State.setTmb_flash (s : State) (x : Tmb) : (s.setTmb x).flash = s.flash := rfl
@[simp] theorem State.setTmb_owed (s : State) (x : Tmb) : (s.setTmb x).owed = s.owed := rfl
@[simp] theorem State.setTmb_draws (s : State) (x : Tmb) : (s.setTmb x).draws = s.draws := rfl
@[simp] theorem State.setTmb_pending (s : State) (x : Tmb) : (s.setTmb x).pending = s.pending := rfl
@[simp] theorem State.setTmb_self (s : State) : s.setTmb s.tmb = s := rfl
@[simp] theorem State.setTmb_setTmb (s : State) (x y : Tmb) : (s.setTmb x).setTmb y = s.setTmb y := rfl

@[simp] theorem State.setSch_power (s : State) (x : Sch) : (s.setSch x).power = s.power := rfl
@[simp] theorem State.setSch_straps (s : State) (x : Sch) : (s.setSch x).straps = s.straps := rfl
@[simp] theorem State.setSch_tmb (s : State) (x : Sch) : (s.setSch x).tmb = s.tmb := rfl
@[simp] theorem State.setSch_sch (s : State) (x : Sch) : (s.setSch x).sch = x := rfl
@[simp] theorem State.setSch_lin (s : State) (x : Sch) : (s.setSch x).lin = s.lin := rfl
@[simp] theorem State.setSch_cap (s : State) (x : Sch) : (s.setSch x).cap = s.cap := rfl
@[simp] theorem State.setSch_trg (s : State) (x : Sch) : (s.setSch x).trg = s.trg := rfl
@[simp] theorem State.setSch_rds (s : State) (x : Sch) : (s.setSch x).rds = s.rds := rfl
@[simp] theorem State.setSch_prs (s : State) (x : Sch) : (s.setSch x).prs = s.prs := rfl
@[simp] theorem State.setSch_lsm (s : State) (x : Sch) : (s.setSch x).lsm = s.lsm := rfl
@[simp] theorem State.setSch_lnk (s : State) (x : Sch) : (s.setSch x).lnk = s.lnk := rfl
@[simp] theorem State.setSch_flash (s : State) (x : Sch) : (s.setSch x).flash = s.flash := rfl
@[simp] theorem State.setSch_owed (s : State) (x : Sch) : (s.setSch x).owed = s.owed := rfl
@[simp] theorem State.setSch_draws (s : State) (x : Sch) : (s.setSch x).draws = s.draws := rfl
@[simp] theorem State.setSch_pending (s : State) (x : Sch) : (s.setSch x).pending = s.pending := rfl
@[simp] theorem State.setSch_self (s : State) : s.setSch s.sch = s := rfl
@[simp] theorem State.setSch_setSch (s : State) (x y : Sch) : (s.setSch x).setSch y = s.setSch y := rfl

@[simp] theorem State.setLin_power (s : State) (x : Vector Line 16) : (s.setLin x).power = s.power := rfl
@[simp] theorem State.setLin_straps (s : State) (x : Vector Line 16) : (s.setLin x).straps = s.straps := rfl
@[simp] theorem State.setLin_tmb (s : State) (x : Vector Line 16) : (s.setLin x).tmb = s.tmb := rfl
@[simp] theorem State.setLin_sch (s : State) (x : Vector Line 16) : (s.setLin x).sch = s.sch := rfl
@[simp] theorem State.setLin_lin (s : State) (x : Vector Line 16) : (s.setLin x).lin = x := rfl
@[simp] theorem State.setLin_cap (s : State) (x : Vector Line 16) : (s.setLin x).cap = s.cap := rfl
@[simp] theorem State.setLin_trg (s : State) (x : Vector Line 16) : (s.setLin x).trg = s.trg := rfl
@[simp] theorem State.setLin_rds (s : State) (x : Vector Line 16) : (s.setLin x).rds = s.rds := rfl
@[simp] theorem State.setLin_prs (s : State) (x : Vector Line 16) : (s.setLin x).prs = s.prs := rfl
@[simp] theorem State.setLin_lsm (s : State) (x : Vector Line 16) : (s.setLin x).lsm = s.lsm := rfl
@[simp] theorem State.setLin_lnk (s : State) (x : Vector Line 16) : (s.setLin x).lnk = s.lnk := rfl
@[simp] theorem State.setLin_flash (s : State) (x : Vector Line 16) : (s.setLin x).flash = s.flash := rfl
@[simp] theorem State.setLin_owed (s : State) (x : Vector Line 16) : (s.setLin x).owed = s.owed := rfl
@[simp] theorem State.setLin_draws (s : State) (x : Vector Line 16) : (s.setLin x).draws = s.draws := rfl
@[simp] theorem State.setLin_pending (s : State) (x : Vector Line 16) : (s.setLin x).pending = s.pending := rfl
@[simp] theorem State.setLin_self (s : State) : s.setLin s.lin = s := rfl
@[simp] theorem State.setLin_setLin (s : State) (x y : Vector Line 16) : (s.setLin x).setLin y = s.setLin y := rfl

@[simp] theorem State.setCap_power (s : State) (x : Cap) : (s.setCap x).power = s.power := rfl
@[simp] theorem State.setCap_straps (s : State) (x : Cap) : (s.setCap x).straps = s.straps := rfl
@[simp] theorem State.setCap_tmb (s : State) (x : Cap) : (s.setCap x).tmb = s.tmb := rfl
@[simp] theorem State.setCap_sch (s : State) (x : Cap) : (s.setCap x).sch = s.sch := rfl
@[simp] theorem State.setCap_lin (s : State) (x : Cap) : (s.setCap x).lin = s.lin := rfl
@[simp] theorem State.setCap_cap (s : State) (x : Cap) : (s.setCap x).cap = x := rfl
@[simp] theorem State.setCap_trg (s : State) (x : Cap) : (s.setCap x).trg = s.trg := rfl
@[simp] theorem State.setCap_rds (s : State) (x : Cap) : (s.setCap x).rds = s.rds := rfl
@[simp] theorem State.setCap_prs (s : State) (x : Cap) : (s.setCap x).prs = s.prs := rfl
@[simp] theorem State.setCap_lsm (s : State) (x : Cap) : (s.setCap x).lsm = s.lsm := rfl
@[simp] theorem State.setCap_lnk (s : State) (x : Cap) : (s.setCap x).lnk = s.lnk := rfl
@[simp] theorem State.setCap_flash (s : State) (x : Cap) : (s.setCap x).flash = s.flash := rfl
@[simp] theorem State.setCap_owed (s : State) (x : Cap) : (s.setCap x).owed = s.owed := rfl
@[simp] theorem State.setCap_draws (s : State) (x : Cap) : (s.setCap x).draws = s.draws := rfl
@[simp] theorem State.setCap_pending (s : State) (x : Cap) : (s.setCap x).pending = s.pending := rfl
@[simp] theorem State.setCap_self (s : State) : s.setCap s.cap = s := rfl
@[simp] theorem State.setCap_setCap (s : State) (x y : Cap) : (s.setCap x).setCap y = s.setCap y := rfl

@[simp] theorem State.setTrg_power (s : State) (x : Vector (Option Trigger) 8) : (s.setTrg x).power = s.power := rfl
@[simp] theorem State.setTrg_straps (s : State) (x : Vector (Option Trigger) 8) : (s.setTrg x).straps = s.straps := rfl
@[simp] theorem State.setTrg_tmb (s : State) (x : Vector (Option Trigger) 8) : (s.setTrg x).tmb = s.tmb := rfl
@[simp] theorem State.setTrg_sch (s : State) (x : Vector (Option Trigger) 8) : (s.setTrg x).sch = s.sch := rfl
@[simp] theorem State.setTrg_lin (s : State) (x : Vector (Option Trigger) 8) : (s.setTrg x).lin = s.lin := rfl
@[simp] theorem State.setTrg_cap (s : State) (x : Vector (Option Trigger) 8) : (s.setTrg x).cap = s.cap := rfl
@[simp] theorem State.setTrg_trg (s : State) (x : Vector (Option Trigger) 8) : (s.setTrg x).trg = x := rfl
@[simp] theorem State.setTrg_rds (s : State) (x : Vector (Option Trigger) 8) : (s.setTrg x).rds = s.rds := rfl
@[simp] theorem State.setTrg_prs (s : State) (x : Vector (Option Trigger) 8) : (s.setTrg x).prs = s.prs := rfl
@[simp] theorem State.setTrg_lsm (s : State) (x : Vector (Option Trigger) 8) : (s.setTrg x).lsm = s.lsm := rfl
@[simp] theorem State.setTrg_lnk (s : State) (x : Vector (Option Trigger) 8) : (s.setTrg x).lnk = s.lnk := rfl
@[simp] theorem State.setTrg_flash (s : State) (x : Vector (Option Trigger) 8) : (s.setTrg x).flash = s.flash := rfl
@[simp] theorem State.setTrg_owed (s : State) (x : Vector (Option Trigger) 8) : (s.setTrg x).owed = s.owed := rfl
@[simp] theorem State.setTrg_draws (s : State) (x : Vector (Option Trigger) 8) : (s.setTrg x).draws = s.draws := rfl
@[simp] theorem State.setTrg_pending (s : State) (x : Vector (Option Trigger) 8) : (s.setTrg x).pending = s.pending := rfl
@[simp] theorem State.setTrg_self (s : State) : s.setTrg s.trg = s := rfl
@[simp] theorem State.setTrg_setTrg (s : State) (x y : Vector (Option Trigger) 8) : (s.setTrg x).setTrg y = s.setTrg y := rfl

@[simp] theorem State.setRds_power (s : State) (x : Rds) : (s.setRds x).power = s.power := rfl
@[simp] theorem State.setRds_straps (s : State) (x : Rds) : (s.setRds x).straps = s.straps := rfl
@[simp] theorem State.setRds_tmb (s : State) (x : Rds) : (s.setRds x).tmb = s.tmb := rfl
@[simp] theorem State.setRds_sch (s : State) (x : Rds) : (s.setRds x).sch = s.sch := rfl
@[simp] theorem State.setRds_lin (s : State) (x : Rds) : (s.setRds x).lin = s.lin := rfl
@[simp] theorem State.setRds_cap (s : State) (x : Rds) : (s.setRds x).cap = s.cap := rfl
@[simp] theorem State.setRds_trg (s : State) (x : Rds) : (s.setRds x).trg = s.trg := rfl
@[simp] theorem State.setRds_rds (s : State) (x : Rds) : (s.setRds x).rds = x := rfl
@[simp] theorem State.setRds_prs (s : State) (x : Rds) : (s.setRds x).prs = s.prs := rfl
@[simp] theorem State.setRds_lsm (s : State) (x : Rds) : (s.setRds x).lsm = s.lsm := rfl
@[simp] theorem State.setRds_lnk (s : State) (x : Rds) : (s.setRds x).lnk = s.lnk := rfl
@[simp] theorem State.setRds_flash (s : State) (x : Rds) : (s.setRds x).flash = s.flash := rfl
@[simp] theorem State.setRds_owed (s : State) (x : Rds) : (s.setRds x).owed = s.owed := rfl
@[simp] theorem State.setRds_draws (s : State) (x : Rds) : (s.setRds x).draws = s.draws := rfl
@[simp] theorem State.setRds_pending (s : State) (x : Rds) : (s.setRds x).pending = s.pending := rfl
@[simp] theorem State.setRds_self (s : State) : s.setRds s.rds = s := rfl
@[simp] theorem State.setRds_setRds (s : State) (x y : Rds) : (s.setRds x).setRds y = s.setRds y := rfl

@[simp] theorem State.setPrs_power (s : State) (x : Prs) : (s.setPrs x).power = s.power := rfl
@[simp] theorem State.setPrs_straps (s : State) (x : Prs) : (s.setPrs x).straps = s.straps := rfl
@[simp] theorem State.setPrs_tmb (s : State) (x : Prs) : (s.setPrs x).tmb = s.tmb := rfl
@[simp] theorem State.setPrs_sch (s : State) (x : Prs) : (s.setPrs x).sch = s.sch := rfl
@[simp] theorem State.setPrs_lin (s : State) (x : Prs) : (s.setPrs x).lin = s.lin := rfl
@[simp] theorem State.setPrs_cap (s : State) (x : Prs) : (s.setPrs x).cap = s.cap := rfl
@[simp] theorem State.setPrs_trg (s : State) (x : Prs) : (s.setPrs x).trg = s.trg := rfl
@[simp] theorem State.setPrs_rds (s : State) (x : Prs) : (s.setPrs x).rds = s.rds := rfl
@[simp] theorem State.setPrs_prs (s : State) (x : Prs) : (s.setPrs x).prs = x := rfl
@[simp] theorem State.setPrs_lsm (s : State) (x : Prs) : (s.setPrs x).lsm = s.lsm := rfl
@[simp] theorem State.setPrs_lnk (s : State) (x : Prs) : (s.setPrs x).lnk = s.lnk := rfl
@[simp] theorem State.setPrs_flash (s : State) (x : Prs) : (s.setPrs x).flash = s.flash := rfl
@[simp] theorem State.setPrs_owed (s : State) (x : Prs) : (s.setPrs x).owed = s.owed := rfl
@[simp] theorem State.setPrs_draws (s : State) (x : Prs) : (s.setPrs x).draws = s.draws := rfl
@[simp] theorem State.setPrs_pending (s : State) (x : Prs) : (s.setPrs x).pending = s.pending := rfl
@[simp] theorem State.setPrs_self (s : State) : s.setPrs s.prs = s := rfl
@[simp] theorem State.setPrs_setPrs (s : State) (x y : Prs) : (s.setPrs x).setPrs y = s.setPrs y := rfl

@[simp] theorem State.setLsm_power (s : State) (x : Lsm) : (s.setLsm x).power = s.power := rfl
@[simp] theorem State.setLsm_straps (s : State) (x : Lsm) : (s.setLsm x).straps = s.straps := rfl
@[simp] theorem State.setLsm_tmb (s : State) (x : Lsm) : (s.setLsm x).tmb = s.tmb := rfl
@[simp] theorem State.setLsm_sch (s : State) (x : Lsm) : (s.setLsm x).sch = s.sch := rfl
@[simp] theorem State.setLsm_lin (s : State) (x : Lsm) : (s.setLsm x).lin = s.lin := rfl
@[simp] theorem State.setLsm_cap (s : State) (x : Lsm) : (s.setLsm x).cap = s.cap := rfl
@[simp] theorem State.setLsm_trg (s : State) (x : Lsm) : (s.setLsm x).trg = s.trg := rfl
@[simp] theorem State.setLsm_rds (s : State) (x : Lsm) : (s.setLsm x).rds = s.rds := rfl
@[simp] theorem State.setLsm_prs (s : State) (x : Lsm) : (s.setLsm x).prs = s.prs := rfl
@[simp] theorem State.setLsm_lsm (s : State) (x : Lsm) : (s.setLsm x).lsm = x := rfl
@[simp] theorem State.setLsm_lnk (s : State) (x : Lsm) : (s.setLsm x).lnk = s.lnk := rfl
@[simp] theorem State.setLsm_flash (s : State) (x : Lsm) : (s.setLsm x).flash = s.flash := rfl
@[simp] theorem State.setLsm_owed (s : State) (x : Lsm) : (s.setLsm x).owed = s.owed := rfl
@[simp] theorem State.setLsm_draws (s : State) (x : Lsm) : (s.setLsm x).draws = s.draws := rfl
@[simp] theorem State.setLsm_pending (s : State) (x : Lsm) : (s.setLsm x).pending = s.pending := rfl
@[simp] theorem State.setLsm_self (s : State) : s.setLsm s.lsm = s := rfl
@[simp] theorem State.setLsm_setLsm (s : State) (x y : Lsm) : (s.setLsm x).setLsm y = s.setLsm y := rfl

@[simp] theorem State.setLnk_power (s : State) (x : Lnk) : (s.setLnk x).power = s.power := rfl
@[simp] theorem State.setLnk_straps (s : State) (x : Lnk) : (s.setLnk x).straps = s.straps := rfl
@[simp] theorem State.setLnk_tmb (s : State) (x : Lnk) : (s.setLnk x).tmb = s.tmb := rfl
@[simp] theorem State.setLnk_sch (s : State) (x : Lnk) : (s.setLnk x).sch = s.sch := rfl
@[simp] theorem State.setLnk_lin (s : State) (x : Lnk) : (s.setLnk x).lin = s.lin := rfl
@[simp] theorem State.setLnk_cap (s : State) (x : Lnk) : (s.setLnk x).cap = s.cap := rfl
@[simp] theorem State.setLnk_trg (s : State) (x : Lnk) : (s.setLnk x).trg = s.trg := rfl
@[simp] theorem State.setLnk_rds (s : State) (x : Lnk) : (s.setLnk x).rds = s.rds := rfl
@[simp] theorem State.setLnk_prs (s : State) (x : Lnk) : (s.setLnk x).prs = s.prs := rfl
@[simp] theorem State.setLnk_lsm (s : State) (x : Lnk) : (s.setLnk x).lsm = s.lsm := rfl
@[simp] theorem State.setLnk_lnk (s : State) (x : Lnk) : (s.setLnk x).lnk = x := rfl
@[simp] theorem State.setLnk_flash (s : State) (x : Lnk) : (s.setLnk x).flash = s.flash := rfl
@[simp] theorem State.setLnk_owed (s : State) (x : Lnk) : (s.setLnk x).owed = s.owed := rfl
@[simp] theorem State.setLnk_draws (s : State) (x : Lnk) : (s.setLnk x).draws = s.draws := rfl
@[simp] theorem State.setLnk_pending (s : State) (x : Lnk) : (s.setLnk x).pending = s.pending := rfl
@[simp] theorem State.setLnk_self (s : State) : s.setLnk s.lnk = s := rfl
@[simp] theorem State.setLnk_setLnk (s : State) (x y : Lnk) : (s.setLnk x).setLnk y = s.setLnk y := rfl

@[simp] theorem State.setFlash_power (s : State) (x : Flash) : (s.setFlash x).power = s.power := rfl
@[simp] theorem State.setFlash_straps (s : State) (x : Flash) : (s.setFlash x).straps = s.straps := rfl
@[simp] theorem State.setFlash_tmb (s : State) (x : Flash) : (s.setFlash x).tmb = s.tmb := rfl
@[simp] theorem State.setFlash_sch (s : State) (x : Flash) : (s.setFlash x).sch = s.sch := rfl
@[simp] theorem State.setFlash_lin (s : State) (x : Flash) : (s.setFlash x).lin = s.lin := rfl
@[simp] theorem State.setFlash_cap (s : State) (x : Flash) : (s.setFlash x).cap = s.cap := rfl
@[simp] theorem State.setFlash_trg (s : State) (x : Flash) : (s.setFlash x).trg = s.trg := rfl
@[simp] theorem State.setFlash_rds (s : State) (x : Flash) : (s.setFlash x).rds = s.rds := rfl
@[simp] theorem State.setFlash_prs (s : State) (x : Flash) : (s.setFlash x).prs = s.prs := rfl
@[simp] theorem State.setFlash_lsm (s : State) (x : Flash) : (s.setFlash x).lsm = s.lsm := rfl
@[simp] theorem State.setFlash_lnk (s : State) (x : Flash) : (s.setFlash x).lnk = s.lnk := rfl
@[simp] theorem State.setFlash_flash (s : State) (x : Flash) : (s.setFlash x).flash = x := rfl
@[simp] theorem State.setFlash_owed (s : State) (x : Flash) : (s.setFlash x).owed = s.owed := rfl
@[simp] theorem State.setFlash_draws (s : State) (x : Flash) : (s.setFlash x).draws = s.draws := rfl
@[simp] theorem State.setFlash_pending (s : State) (x : Flash) : (s.setFlash x).pending = s.pending := rfl
@[simp] theorem State.setFlash_self (s : State) : s.setFlash s.flash = s := rfl
@[simp] theorem State.setFlash_setFlash (s : State) (x y : Flash) : (s.setFlash x).setFlash y = s.setFlash y := rfl

@[simp] theorem State.setOwed_power (s : State) (x : List TickUnit) : (s.setOwed x).power = s.power := rfl
@[simp] theorem State.setOwed_straps (s : State) (x : List TickUnit) : (s.setOwed x).straps = s.straps := rfl
@[simp] theorem State.setOwed_tmb (s : State) (x : List TickUnit) : (s.setOwed x).tmb = s.tmb := rfl
@[simp] theorem State.setOwed_sch (s : State) (x : List TickUnit) : (s.setOwed x).sch = s.sch := rfl
@[simp] theorem State.setOwed_lin (s : State) (x : List TickUnit) : (s.setOwed x).lin = s.lin := rfl
@[simp] theorem State.setOwed_cap (s : State) (x : List TickUnit) : (s.setOwed x).cap = s.cap := rfl
@[simp] theorem State.setOwed_trg (s : State) (x : List TickUnit) : (s.setOwed x).trg = s.trg := rfl
@[simp] theorem State.setOwed_rds (s : State) (x : List TickUnit) : (s.setOwed x).rds = s.rds := rfl
@[simp] theorem State.setOwed_prs (s : State) (x : List TickUnit) : (s.setOwed x).prs = s.prs := rfl
@[simp] theorem State.setOwed_lsm (s : State) (x : List TickUnit) : (s.setOwed x).lsm = s.lsm := rfl
@[simp] theorem State.setOwed_lnk (s : State) (x : List TickUnit) : (s.setOwed x).lnk = s.lnk := rfl
@[simp] theorem State.setOwed_flash (s : State) (x : List TickUnit) : (s.setOwed x).flash = s.flash := rfl
@[simp] theorem State.setOwed_owed (s : State) (x : List TickUnit) : (s.setOwed x).owed = x := rfl
@[simp] theorem State.setOwed_draws (s : State) (x : List TickUnit) : (s.setOwed x).draws = s.draws := rfl
@[simp] theorem State.setOwed_pending (s : State) (x : List TickUnit) : (s.setOwed x).pending = s.pending := rfl
@[simp] theorem State.setOwed_self (s : State) : s.setOwed s.owed = s := rfl
@[simp] theorem State.setOwed_setOwed (s : State) (x y : List TickUnit) : (s.setOwed x).setOwed y = s.setOwed y := rfl

@[simp] theorem State.setDraws_power (s : State) (x : Nat) : (s.setDraws x).power = s.power := rfl
@[simp] theorem State.setDraws_straps (s : State) (x : Nat) : (s.setDraws x).straps = s.straps := rfl
@[simp] theorem State.setDraws_tmb (s : State) (x : Nat) : (s.setDraws x).tmb = s.tmb := rfl
@[simp] theorem State.setDraws_sch (s : State) (x : Nat) : (s.setDraws x).sch = s.sch := rfl
@[simp] theorem State.setDraws_lin (s : State) (x : Nat) : (s.setDraws x).lin = s.lin := rfl
@[simp] theorem State.setDraws_cap (s : State) (x : Nat) : (s.setDraws x).cap = s.cap := rfl
@[simp] theorem State.setDraws_trg (s : State) (x : Nat) : (s.setDraws x).trg = s.trg := rfl
@[simp] theorem State.setDraws_rds (s : State) (x : Nat) : (s.setDraws x).rds = s.rds := rfl
@[simp] theorem State.setDraws_prs (s : State) (x : Nat) : (s.setDraws x).prs = s.prs := rfl
@[simp] theorem State.setDraws_lsm (s : State) (x : Nat) : (s.setDraws x).lsm = s.lsm := rfl
@[simp] theorem State.setDraws_lnk (s : State) (x : Nat) : (s.setDraws x).lnk = s.lnk := rfl
@[simp] theorem State.setDraws_flash (s : State) (x : Nat) : (s.setDraws x).flash = s.flash := rfl
@[simp] theorem State.setDraws_owed (s : State) (x : Nat) : (s.setDraws x).owed = s.owed := rfl
@[simp] theorem State.setDraws_draws (s : State) (x : Nat) : (s.setDraws x).draws = x := rfl
@[simp] theorem State.setDraws_pending (s : State) (x : Nat) : (s.setDraws x).pending = s.pending := rfl
@[simp] theorem State.setDraws_self (s : State) : s.setDraws s.draws = s := rfl
@[simp] theorem State.setDraws_setDraws (s : State) (x y : Nat) : (s.setDraws x).setDraws y = s.setDraws y := rfl

@[simp] theorem State.setPending_power (s : State) (x : List Instr) : (s.setPending x).power = s.power := rfl
@[simp] theorem State.setPending_straps (s : State) (x : List Instr) : (s.setPending x).straps = s.straps := rfl
@[simp] theorem State.setPending_tmb (s : State) (x : List Instr) : (s.setPending x).tmb = s.tmb := rfl
@[simp] theorem State.setPending_sch (s : State) (x : List Instr) : (s.setPending x).sch = s.sch := rfl
@[simp] theorem State.setPending_lin (s : State) (x : List Instr) : (s.setPending x).lin = s.lin := rfl
@[simp] theorem State.setPending_cap (s : State) (x : List Instr) : (s.setPending x).cap = s.cap := rfl
@[simp] theorem State.setPending_trg (s : State) (x : List Instr) : (s.setPending x).trg = s.trg := rfl
@[simp] theorem State.setPending_rds (s : State) (x : List Instr) : (s.setPending x).rds = s.rds := rfl
@[simp] theorem State.setPending_prs (s : State) (x : List Instr) : (s.setPending x).prs = s.prs := rfl
@[simp] theorem State.setPending_lsm (s : State) (x : List Instr) : (s.setPending x).lsm = s.lsm := rfl
@[simp] theorem State.setPending_lnk (s : State) (x : List Instr) : (s.setPending x).lnk = s.lnk := rfl
@[simp] theorem State.setPending_flash (s : State) (x : List Instr) : (s.setPending x).flash = s.flash := rfl
@[simp] theorem State.setPending_owed (s : State) (x : List Instr) : (s.setPending x).owed = s.owed := rfl
@[simp] theorem State.setPending_draws (s : State) (x : List Instr) : (s.setPending x).draws = s.draws := rfl
@[simp] theorem State.setPending_pending (s : State) (x : List Instr) : (s.setPending x).pending = x := rfl
@[simp] theorem State.setPending_self (s : State) : s.setPending s.pending = s := rfl
@[simp] theorem State.setPending_setPending (s : State) (x y : List Instr) : (s.setPending x).setPending y = s.setPending y :=
  rfl

variable (s : State)

@[simp] theorem State.setLine_power (n : LineNo) (l : Line) : (s.setLine n l).power = s.power := rfl
@[simp] theorem State.setLine_straps (n : LineNo) (l : Line) : (s.setLine n l).straps = s.straps := rfl
@[simp] theorem State.setLine_tmb (n : LineNo) (l : Line) : (s.setLine n l).tmb = s.tmb := rfl
@[simp] theorem State.setLine_sch (n : LineNo) (l : Line) : (s.setLine n l).sch = s.sch := rfl
@[simp] theorem State.setLine_cap (n : LineNo) (l : Line) : (s.setLine n l).cap = s.cap := rfl
@[simp] theorem State.setLine_trg (n : LineNo) (l : Line) : (s.setLine n l).trg = s.trg := rfl
@[simp] theorem State.setLine_rds (n : LineNo) (l : Line) : (s.setLine n l).rds = s.rds := rfl
@[simp] theorem State.setLine_prs (n : LineNo) (l : Line) : (s.setLine n l).prs = s.prs := rfl
@[simp] theorem State.setLine_lsm (n : LineNo) (l : Line) : (s.setLine n l).lsm = s.lsm := rfl
@[simp] theorem State.setLine_lnk (n : LineNo) (l : Line) : (s.setLine n l).lnk = s.lnk := rfl
@[simp] theorem State.setLine_flash (n : LineNo) (l : Line) : (s.setLine n l).flash = s.flash := rfl
@[simp] theorem State.setLine_owed (n : LineNo) (l : Line) : (s.setLine n l).owed = s.owed := rfl
@[simp] theorem State.setLine_draws (n : LineNo) (l : Line) : (s.setLine n l).draws = s.draws := rfl
@[simp] theorem State.setLine_pending (n : LineNo) (l : Line) : (s.setLine n l).pending = s.pending := rfl

@[simp] theorem State.setTrigger_power (t : TrigNo) (x : Option Trigger) : (s.setTrigger t x).power = s.power := rfl
@[simp] theorem State.setTrigger_straps (t : TrigNo) (x : Option Trigger) : (s.setTrigger t x).straps = s.straps := rfl
@[simp] theorem State.setTrigger_tmb (t : TrigNo) (x : Option Trigger) : (s.setTrigger t x).tmb = s.tmb := rfl
@[simp] theorem State.setTrigger_sch (t : TrigNo) (x : Option Trigger) : (s.setTrigger t x).sch = s.sch := rfl
@[simp] theorem State.setTrigger_lin (t : TrigNo) (x : Option Trigger) : (s.setTrigger t x).lin = s.lin := rfl
@[simp] theorem State.setTrigger_cap (t : TrigNo) (x : Option Trigger) : (s.setTrigger t x).cap = s.cap := rfl
@[simp] theorem State.setTrigger_rds (t : TrigNo) (x : Option Trigger) : (s.setTrigger t x).rds = s.rds := rfl
@[simp] theorem State.setTrigger_prs (t : TrigNo) (x : Option Trigger) : (s.setTrigger t x).prs = s.prs := rfl
@[simp] theorem State.setTrigger_lsm (t : TrigNo) (x : Option Trigger) : (s.setTrigger t x).lsm = s.lsm := rfl
@[simp] theorem State.setTrigger_lnk (t : TrigNo) (x : Option Trigger) : (s.setTrigger t x).lnk = s.lnk := rfl
@[simp] theorem State.setTrigger_flash (t : TrigNo) (x : Option Trigger) : (s.setTrigger t x).flash = s.flash := rfl
@[simp] theorem State.setTrigger_owed (t : TrigNo) (x : Option Trigger) : (s.setTrigger t x).owed = s.owed := rfl
@[simp] theorem State.setTrigger_draws (t : TrigNo) (x : Option Trigger) : (s.setTrigger t x).draws = s.draws := rfl
@[simp] theorem State.setTrigger_pending (t : TrigNo) (x : Option Trigger) : (s.setTrigger t x).pending = s.pending := rfl

@[simp] theorem State.drawn_power : (s.drawn).power = s.power := rfl
@[simp] theorem State.drawn_straps : (s.drawn).straps = s.straps := rfl
@[simp] theorem State.drawn_tmb : (s.drawn).tmb = s.tmb := rfl
@[simp] theorem State.drawn_sch : (s.drawn).sch = s.sch := rfl
@[simp] theorem State.drawn_lin : (s.drawn).lin = s.lin := rfl
@[simp] theorem State.drawn_cap : (s.drawn).cap = s.cap := rfl
@[simp] theorem State.drawn_trg : (s.drawn).trg = s.trg := rfl
@[simp] theorem State.drawn_rds : (s.drawn).rds = s.rds := rfl
@[simp] theorem State.drawn_prs : (s.drawn).prs = s.prs := rfl
@[simp] theorem State.drawn_lsm : (s.drawn).lsm = s.lsm := rfl
@[simp] theorem State.drawn_lnk : (s.drawn).lnk = s.lnk := rfl
@[simp] theorem State.drawn_flash : (s.drawn).flash = s.flash := rfl
@[simp] theorem State.drawn_owed : (s.drawn).owed = s.owed := rfl
@[simp] theorem State.drawn_pending : (s.drawn).pending = s.pending := rfl

@[simp] theorem State.setCells_power (m : List Host.Cell) : (s.setCells m).power = s.power := rfl
@[simp] theorem State.setCells_straps (m : List Host.Cell) : (s.setCells m).straps = s.straps := rfl
@[simp] theorem State.setCells_tmb (m : List Host.Cell) : (s.setCells m).tmb = s.tmb := rfl
@[simp] theorem State.setCells_sch (m : List Host.Cell) : (s.setCells m).sch = s.sch := rfl
@[simp] theorem State.setCells_lin (m : List Host.Cell) : (s.setCells m).lin = s.lin := rfl
@[simp] theorem State.setCells_cap (m : List Host.Cell) : (s.setCells m).cap = s.cap := rfl
@[simp] theorem State.setCells_trg (m : List Host.Cell) : (s.setCells m).trg = s.trg := rfl
@[simp] theorem State.setCells_rds (m : List Host.Cell) : (s.setCells m).rds = s.rds := rfl
@[simp] theorem State.setCells_prs (m : List Host.Cell) : (s.setCells m).prs = s.prs := rfl
@[simp] theorem State.setCells_lsm (m : List Host.Cell) : (s.setCells m).lsm = s.lsm := rfl
@[simp] theorem State.setCells_lnk (m : List Host.Cell) : (s.setCells m).lnk = s.lnk := rfl
@[simp] theorem State.setCells_owed (m : List Host.Cell) : (s.setCells m).owed = s.owed := rfl
@[simp] theorem State.setCells_draws (m : List Host.Cell) : (s.setCells m).draws = s.draws := rfl
@[simp] theorem State.setCells_pending (m : List Host.Cell) : (s.setCells m).pending = s.pending := rfl

@[simp] theorem State.setJob_power (j : PrsJob) : (s.setJob j).power = s.power := rfl
@[simp] theorem State.setJob_straps (j : PrsJob) : (s.setJob j).straps = s.straps := rfl
@[simp] theorem State.setJob_tmb (j : PrsJob) : (s.setJob j).tmb = s.tmb := rfl
@[simp] theorem State.setJob_sch (j : PrsJob) : (s.setJob j).sch = s.sch := rfl
@[simp] theorem State.setJob_lin (j : PrsJob) : (s.setJob j).lin = s.lin := rfl
@[simp] theorem State.setJob_cap (j : PrsJob) : (s.setJob j).cap = s.cap := rfl
@[simp] theorem State.setJob_trg (j : PrsJob) : (s.setJob j).trg = s.trg := rfl
@[simp] theorem State.setJob_rds (j : PrsJob) : (s.setJob j).rds = s.rds := rfl
@[simp] theorem State.setJob_lsm (j : PrsJob) : (s.setJob j).lsm = s.lsm := rfl
@[simp] theorem State.setJob_lnk (j : PrsJob) : (s.setJob j).lnk = s.lnk := rfl
@[simp] theorem State.setJob_flash (j : PrsJob) : (s.setJob j).flash = s.flash := rfl
@[simp] theorem State.setJob_owed (j : PrsJob) : (s.setJob j).owed = s.owed := rfl
@[simp] theorem State.setJob_draws (j : PrsJob) : (s.setJob j).draws = s.draws := rfl
@[simp] theorem State.setJob_pending (j : PrsJob) : (s.setJob j).pending = s.pending := rfl

@[simp] theorem State.setCounters_power (c : Counters) : (s.setCounters c).power = s.power := rfl
@[simp] theorem State.setCounters_straps (c : Counters) : (s.setCounters c).straps = s.straps := rfl
@[simp] theorem State.setCounters_tmb (c : Counters) : (s.setCounters c).tmb = s.tmb := rfl
@[simp] theorem State.setCounters_sch (c : Counters) : (s.setCounters c).sch = s.sch := rfl
@[simp] theorem State.setCounters_lin (c : Counters) : (s.setCounters c).lin = s.lin := rfl
@[simp] theorem State.setCounters_cap (c : Counters) : (s.setCounters c).cap = s.cap := rfl
@[simp] theorem State.setCounters_trg (c : Counters) : (s.setCounters c).trg = s.trg := rfl
@[simp] theorem State.setCounters_rds (c : Counters) : (s.setCounters c).rds = s.rds := rfl
@[simp] theorem State.setCounters_prs (c : Counters) : (s.setCounters c).prs = s.prs := rfl
@[simp] theorem State.setCounters_lsm (c : Counters) : (s.setCounters c).lsm = s.lsm := rfl
@[simp] theorem State.setCounters_flash (c : Counters) : (s.setCounters c).flash = s.flash := rfl
@[simp] theorem State.setCounters_owed (c : Counters) : (s.setCounters c).owed = s.owed := rfl
@[simp] theorem State.setCounters_draws (c : Counters) : (s.setCounters c).draws = s.draws := rfl
@[simp] theorem State.setCounters_pending (c : Counters) : (s.setCounters c).pending = s.pending := rfl

@[simp] theorem State.setRx_power (r : Receiver) : (s.setRx r).power = s.power := rfl
@[simp] theorem State.setRx_straps (r : Receiver) : (s.setRx r).straps = s.straps := rfl
@[simp] theorem State.setRx_tmb (r : Receiver) : (s.setRx r).tmb = s.tmb := rfl
@[simp] theorem State.setRx_sch (r : Receiver) : (s.setRx r).sch = s.sch := rfl
@[simp] theorem State.setRx_lin (r : Receiver) : (s.setRx r).lin = s.lin := rfl
@[simp] theorem State.setRx_cap (r : Receiver) : (s.setRx r).cap = s.cap := rfl
@[simp] theorem State.setRx_trg (r : Receiver) : (s.setRx r).trg = s.trg := rfl
@[simp] theorem State.setRx_rds (r : Receiver) : (s.setRx r).rds = s.rds := rfl
@[simp] theorem State.setRx_prs (r : Receiver) : (s.setRx r).prs = s.prs := rfl
@[simp] theorem State.setRx_lsm (r : Receiver) : (s.setRx r).lsm = s.lsm := rfl
@[simp] theorem State.setRx_flash (r : Receiver) : (s.setRx r).flash = s.flash := rfl
@[simp] theorem State.setRx_owed (r : Receiver) : (s.setRx r).owed = s.owed := rfl
@[simp] theorem State.setRx_draws (r : Receiver) : (s.setRx r).draws = s.draws := rfl
@[simp] theorem State.setRx_pending (r : Receiver) : (s.setRx r).pending = s.pending := rfl

@[simp] theorem State.setLine_lin (n : LineNo) (l : Line) : (s.setLine n l).lin = s.lin.set n l := rfl
@[simp] theorem State.setTrigger_trg (t : TrigNo) (x : Option Trigger) : (s.setTrigger t x).trg = s.trg.set t x := rfl
@[simp] theorem State.drawn_draws : s.drawn.draws = s.draws + 1 := rfl
@[simp] theorem State.setCells_flash (m : List Host.Cell) : (s.setCells m).flash = { s.flash with cells := m } := rfl
@[simp] theorem State.setJob_prs (j : PrsJob) : (s.setJob j).prs = { s.prs with job := j } := rfl
@[simp] theorem State.setCounters_lnk (c : Counters) : (s.setCounters c).lnk = { s.lnk with counters := c } := rfl
@[simp] theorem State.setRx_lnk (r : Receiver) : (s.setRx r).lnk = { s.lnk with rx := r } := rfl

@[simp] theorem State.setDesc_power (slot : Slot) (d : Descriptor) : (s.setDesc slot d).power = s.power := by cases slot <;> rfl
@[simp] theorem State.setDesc_straps (slot : Slot) (d : Descriptor) : (s.setDesc slot d).straps = s.straps :=
    by cases slot <;> rfl
@[simp] theorem State.setDesc_tmb (slot : Slot) (d : Descriptor) : (s.setDesc slot d).tmb = s.tmb := by cases slot <;> rfl
@[simp] theorem State.setDesc_sch (slot : Slot) (d : Descriptor) : (s.setDesc slot d).sch = s.sch := by cases slot <;> rfl
@[simp] theorem State.setDesc_lin (slot : Slot) (d : Descriptor) : (s.setDesc slot d).lin = s.lin := by cases slot <;> rfl
@[simp] theorem State.setDesc_cap (slot : Slot) (d : Descriptor) : (s.setDesc slot d).cap = s.cap := by cases slot <;> rfl
@[simp] theorem State.setDesc_trg (slot : Slot) (d : Descriptor) : (s.setDesc slot d).trg = s.trg := by cases slot <;> rfl
@[simp] theorem State.setDesc_rds (slot : Slot) (d : Descriptor) : (s.setDesc slot d).rds = s.rds := by cases slot <;> rfl
@[simp] theorem State.setDesc_lsm (slot : Slot) (d : Descriptor) : (s.setDesc slot d).lsm = s.lsm := by cases slot <;> rfl
@[simp] theorem State.setDesc_lnk (slot : Slot) (d : Descriptor) : (s.setDesc slot d).lnk = s.lnk := by cases slot <;> rfl
@[simp] theorem State.setDesc_flash (slot : Slot) (d : Descriptor) : (s.setDesc slot d).flash = s.flash := by cases slot <;> rfl
@[simp] theorem State.setDesc_owed (slot : Slot) (d : Descriptor) : (s.setDesc slot d).owed = s.owed := by cases slot <;> rfl
@[simp] theorem State.setDesc_draws (slot : Slot) (d : Descriptor) : (s.setDesc slot d).draws = s.draws := by cases slot <;> rfl
@[simp] theorem State.setDesc_pending (slot : Slot) (d : Descriptor) : (s.setDesc slot d).pending = s.pending :=
    by cases slot <;> rfl

end Sys2Proof.Machine
end

