-- ==== Sys2Proof/Laws/Ops.lean ====
section
/-! SUPPORT. What the posting of a notice and the transmitter's choice can do to the link, and that they leave every other block
as it was. -/

namespace Sys2Proof.Machine

/-! ## NOTICES-LOST -/

/-- Everything that the report of lost notices can do. -/
theorem Lnk.reportLost_cases (k : Lnk) :
    (k.reportLost = k ∧ (k.lost = 0 ∨ Config.noticeMax ≤ k.notices.length)) ∨
    (k.reportLost = { k with notices := k.notices ++ [(k.nextNotice, .noticesLost k.lost)], nextNotice := k.nextNotice + 1,
                             lost := 0 } ∧ 0 < k.lost ∧ k.notices.length < Config.noticeMax) := by
  unfold Lnk.reportLost
  split
  · rename_i h; exact .inr ⟨rfl, h⟩
  · rename_i h; exact .inl ⟨rfl, by omega⟩

/-! ## Posting -/

/-- Everything that the queueing of a notice can do. -/
theorem Lnk.enqueue_cases (k : Lnk) (n : Notice) :
    (k.enqueue n = k ∧ n.isCapturePending = true ∧ (k.notices.any fun q => q.2.isCapturePending) = true) ∨
    (k.enqueue n = { k with lost := min Config.countMax (k.lost + 1) } ∧ Config.noticeMax ≤ k.notices.length) ∨
    (k.enqueue n = { k with notices := k.notices ++ [(k.nextNotice, n)], nextNotice := k.nextNotice + 1 } ∧
      k.notices.length < Config.noticeMax) := by
  unfold Lnk.enqueue
  split
  · rename_i h; exact .inl ⟨rfl, by simpa using h⟩
  · split
    · rename_i h; exact .inr (.inl ⟨rfl, h⟩)
    · rename_i h; exact .inr (.inr ⟨rfl, by omega⟩)

/-- With room in the queue a notice other than CAPTURE-PENDING takes the next place. -/
theorem Lnk.enqueue_of_room {k : Lnk} {n : Notice} (hn : n.isCapturePending = false) (h : k.notices.length < Config.noticeMax) :
    k.enqueue n = { k with notices := k.notices ++ [(k.nextNotice, n)], nextNotice := k.nextNotice + 1 } := by
  unfold Lnk.enqueue
  rw [if_neg (by simp [hn]), if_neg (by omega)]

/-! ## The transmitter's choice -/

/-- A transmitter that is not idle chooses nothing. -/
theorem Lnk.choose_of_busy {k : Lnk} (h : k.tx ≠ .idle) : k.choose = k := by
  unfold Lnk.choose
  cases ht : k.tx <;> simp_all

/-- Everything that the transmitter's choice can do. -/
theorem Lnk.choose_cases (k : Lnk) :
    (k.choose = k ∧ (k.tx ≠ .idle ∨ (k.replies = [] ∧ (k.notices = [] ∨ k.credits = 0)))) ∨
    (k.choose = { k with tx := .reply } ∧ k.tx = .idle ∧ k.replies ≠ []) ∨
    (∃ q n rest, k.choose = Lnk.reportLost { k with tx := .notice q n, notices := rest, credits := k.credits - 1 } ∧
      k.tx = .idle ∧ k.replies = [] ∧ k.notices = (q, n) :: rest ∧ 0 < k.credits) := by
  by_cases ht : k.tx = .idle
  · by_cases hr : k.replies = []
    · cases hn : k.notices with
      | nil => left; refine ⟨?_, .inr ⟨hr, .inl rfl⟩⟩; simp [Lnk.choose, ht, hr, hn]
      | cons x rest =>
        obtain ⟨q, n⟩ := x
        by_cases hc : 0 < k.credits
        · right; right
          refine ⟨q, n, rest, ?_, ht, hr, rfl, hc⟩
          simp [Lnk.choose, ht, hr, hn, hc]
        · left; refine ⟨?_, .inr ⟨hr, .inr (by omega)⟩⟩; simp [Lnk.choose, ht, hr, hn, hc]
    · right; left; refine ⟨?_, ht, hr⟩; simp [Lnk.choose, ht, hr]
  · exact .inl ⟨Lnk.choose_of_busy ht, .inl ht⟩

/-! ## What they leave as it was -/

@[simp] theorem Lnk.reportLost_rx (k : Lnk) : k.reportLost.rx = k.rx := by
  rcases k.reportLost_cases with ⟨h, _⟩ | ⟨h, _⟩ <;> rw [h]
@[simp] theorem Lnk.reportLost_backlog (k : Lnk) : k.reportLost.backlog = k.backlog := by
  rcases k.reportLost_cases with ⟨h, _⟩ | ⟨h, _⟩ <;> rw [h]
@[simp] theorem Lnk.reportLost_inbound (k : Lnk) : k.reportLost.inbound = k.inbound := by
  rcases k.reportLost_cases with ⟨h, _⟩ | ⟨h, _⟩ <;> rw [h]
@[simp] theorem Lnk.reportLost_restartPending (k : Lnk) : k.reportLost.restartPending = k.restartPending := by
  rcases k.reportLost_cases with ⟨h, _⟩ | ⟨h, _⟩ <;> rw [h]
@[simp] theorem Lnk.reportLost_seqState (k : Lnk) : k.reportLost.seqState = k.seqState := by
  rcases k.reportLost_cases with ⟨h, _⟩ | ⟨h, _⟩ <;> rw [h]
@[simp] theorem Lnk.reportLost_cache (k : Lnk) : k.reportLost.cache = k.cache := by
  rcases k.reportLost_cases with ⟨h, _⟩ | ⟨h, _⟩ <;> rw [h]
@[simp] theorem Lnk.reportLost_replies (k : Lnk) : k.reportLost.replies = k.replies := by
  rcases k.reportLost_cases with ⟨h, _⟩ | ⟨h, _⟩ <;> rw [h]
@[simp] theorem Lnk.reportLost_counters (k : Lnk) : k.reportLost.counters = k.counters := by
  rcases k.reportLost_cases with ⟨h, _⟩ | ⟨h, _⟩ <;> rw [h]
@[simp] theorem Lnk.reportLost_arate (k : Lnk) : k.reportLost.arate = k.arate := by
  rcases k.reportLost_cases with ⟨h, _⟩ | ⟨h, _⟩ <;> rw [h]
@[simp] theorem Lnk.reportLost_autoload (k : Lnk) : k.reportLost.autoload = k.autoload := by
  rcases k.reportLost_cases with ⟨h, _⟩ | ⟨h, _⟩ <;> rw [h]
@[simp] theorem Lnk.reportLost_startCause (k : Lnk) : k.reportLost.startCause = k.startCause := by
  rcases k.reportLost_cases with ⟨h, _⟩ | ⟨h, _⟩ <;> rw [h]
@[simp] theorem Lnk.reportLost_tx (k : Lnk) : k.reportLost.tx = k.tx := by
  rcases k.reportLost_cases with ⟨h, _⟩ | ⟨h, _⟩ <;> rw [h]
@[simp] theorem Lnk.reportLost_credits (k : Lnk) : k.reportLost.credits = k.credits := by
  rcases k.reportLost_cases with ⟨h, _⟩ | ⟨h, _⟩ <;> rw [h]
@[simp] theorem Lnk.enqueue_rx (k : Lnk) (n : Notice) : (k.enqueue n).rx = k.rx := by
  rcases k.enqueue_cases n with ⟨h, _⟩ | ⟨h, _⟩ | ⟨h, _⟩ <;> rw [h]
@[simp] theorem Lnk.enqueue_backlog (k : Lnk) (n : Notice) : (k.enqueue n).backlog = k.backlog := by
  rcases k.enqueue_cases n with ⟨h, _⟩ | ⟨h, _⟩ | ⟨h, _⟩ <;> rw [h]
@[simp] theorem Lnk.enqueue_inbound (k : Lnk) (n : Notice) : (k.enqueue n).inbound = k.inbound := by
  rcases k.enqueue_cases n with ⟨h, _⟩ | ⟨h, _⟩ | ⟨h, _⟩ <;> rw [h]
@[simp] theorem Lnk.enqueue_restartPending (k : Lnk) (n : Notice) : (k.enqueue n).restartPending = k.restartPending := by
  rcases k.enqueue_cases n with ⟨h, _⟩ | ⟨h, _⟩ | ⟨h, _⟩ <;> rw [h]
@[simp] theorem Lnk.enqueue_seqState (k : Lnk) (n : Notice) : (k.enqueue n).seqState = k.seqState := by
  rcases k.enqueue_cases n with ⟨h, _⟩ | ⟨h, _⟩ | ⟨h, _⟩ <;> rw [h]
@[simp] theorem Lnk.enqueue_cache (k : Lnk) (n : Notice) : (k.enqueue n).cache = k.cache := by
  rcases k.enqueue_cases n with ⟨h, _⟩ | ⟨h, _⟩ | ⟨h, _⟩ <;> rw [h]
@[simp] theorem Lnk.enqueue_replies (k : Lnk) (n : Notice) : (k.enqueue n).replies = k.replies := by
  rcases k.enqueue_cases n with ⟨h, _⟩ | ⟨h, _⟩ | ⟨h, _⟩ <;> rw [h]
@[simp] theorem Lnk.enqueue_counters (k : Lnk) (n : Notice) : (k.enqueue n).counters = k.counters := by
  rcases k.enqueue_cases n with ⟨h, _⟩ | ⟨h, _⟩ | ⟨h, _⟩ <;> rw [h]
@[simp] theorem Lnk.enqueue_arate (k : Lnk) (n : Notice) : (k.enqueue n).arate = k.arate := by
  rcases k.enqueue_cases n with ⟨h, _⟩ | ⟨h, _⟩ | ⟨h, _⟩ <;> rw [h]
@[simp] theorem Lnk.enqueue_autoload (k : Lnk) (n : Notice) : (k.enqueue n).autoload = k.autoload := by
  rcases k.enqueue_cases n with ⟨h, _⟩ | ⟨h, _⟩ | ⟨h, _⟩ <;> rw [h]
@[simp] theorem Lnk.enqueue_startCause (k : Lnk) (n : Notice) : (k.enqueue n).startCause = k.startCause := by
  rcases k.enqueue_cases n with ⟨h, _⟩ | ⟨h, _⟩ | ⟨h, _⟩ <;> rw [h]
@[simp] theorem Lnk.enqueue_tx (k : Lnk) (n : Notice) : (k.enqueue n).tx = k.tx := by
  rcases k.enqueue_cases n with ⟨h, _⟩ | ⟨h, _⟩ | ⟨h, _⟩ <;> rw [h]
@[simp] theorem Lnk.enqueue_credits (k : Lnk) (n : Notice) : (k.enqueue n).credits = k.credits := by
  rcases k.enqueue_cases n with ⟨h, _⟩ | ⟨h, _⟩ | ⟨h, _⟩ <;> rw [h]
@[simp] theorem Lnk.choose_rx (k : Lnk) : k.choose.rx = k.rx := by
  rcases k.choose_cases with ⟨h, _⟩ | ⟨h, _⟩ | ⟨q, n, rest, h, _⟩ <;> simp [h]
@[simp] theorem Lnk.choose_backlog (k : Lnk) : k.choose.backlog = k.backlog := by
  rcases k.choose_cases with ⟨h, _⟩ | ⟨h, _⟩ | ⟨q, n, rest, h, _⟩ <;> simp [h]
@[simp] theorem Lnk.choose_inbound (k : Lnk) : k.choose.inbound = k.inbound := by
  rcases k.choose_cases with ⟨h, _⟩ | ⟨h, _⟩ | ⟨q, n, rest, h, _⟩ <;> simp [h]
@[simp] theorem Lnk.choose_restartPending (k : Lnk) : k.choose.restartPending = k.restartPending := by
  rcases k.choose_cases with ⟨h, _⟩ | ⟨h, _⟩ | ⟨q, n, rest, h, _⟩ <;> simp [h]
@[simp] theorem Lnk.choose_seqState (k : Lnk) : k.choose.seqState = k.seqState := by
  rcases k.choose_cases with ⟨h, _⟩ | ⟨h, _⟩ | ⟨q, n, rest, h, _⟩ <;> simp [h]
@[simp] theorem Lnk.choose_cache (k : Lnk) : k.choose.cache = k.cache := by
  rcases k.choose_cases with ⟨h, _⟩ | ⟨h, _⟩ | ⟨q, n, rest, h, _⟩ <;> simp [h]
@[simp] theorem Lnk.choose_replies (k : Lnk) : k.choose.replies = k.replies := by
  rcases k.choose_cases with ⟨h, _⟩ | ⟨h, _⟩ | ⟨q, n, rest, h, _⟩ <;> simp [h]
@[simp] theorem Lnk.choose_counters (k : Lnk) : k.choose.counters = k.counters := by
  rcases k.choose_cases with ⟨h, _⟩ | ⟨h, _⟩ | ⟨q, n, rest, h, _⟩ <;> simp [h]
@[simp] theorem Lnk.choose_arate (k : Lnk) : k.choose.arate = k.arate := by
  rcases k.choose_cases with ⟨h, _⟩ | ⟨h, _⟩ | ⟨q, n, rest, h, _⟩ <;> simp [h]
@[simp] theorem Lnk.choose_autoload (k : Lnk) : k.choose.autoload = k.autoload := by
  rcases k.choose_cases with ⟨h, _⟩ | ⟨h, _⟩ | ⟨q, n, rest, h, _⟩ <;> simp [h]
@[simp] theorem Lnk.choose_startCause (k : Lnk) : k.choose.startCause = k.startCause := by
  rcases k.choose_cases with ⟨h, _⟩ | ⟨h, _⟩ | ⟨q, n, rest, h, _⟩ <;> simp [h]

@[simp] theorem post_power (n : Notice) (s : State) : (post n s).power = s.power := rfl
@[simp] theorem post_straps (n : Notice) (s : State) : (post n s).straps = s.straps := rfl
@[simp] theorem post_tmb (n : Notice) (s : State) : (post n s).tmb = s.tmb := rfl
@[simp] theorem post_sch (n : Notice) (s : State) : (post n s).sch = s.sch := rfl
@[simp] theorem post_lin (n : Notice) (s : State) : (post n s).lin = s.lin := rfl
@[simp] theorem post_cap (n : Notice) (s : State) : (post n s).cap = s.cap := rfl
@[simp] theorem post_trg (n : Notice) (s : State) : (post n s).trg = s.trg := rfl
@[simp] theorem post_rds (n : Notice) (s : State) : (post n s).rds = s.rds := rfl
@[simp] theorem post_prs (n : Notice) (s : State) : (post n s).prs = s.prs := rfl
@[simp] theorem post_lsm (n : Notice) (s : State) : (post n s).lsm = s.lsm := rfl
@[simp] theorem post_flash (n : Notice) (s : State) : (post n s).flash = s.flash := rfl
@[simp] theorem post_owed (n : Notice) (s : State) : (post n s).owed = s.owed := rfl
@[simp] theorem post_draws (n : Notice) (s : State) : (post n s).draws = s.draws := rfl
@[simp] theorem post_pending (n : Notice) (s : State) : (post n s).pending = s.pending := rfl
@[simp] theorem post_lnk (n : Notice) (s : State) : (post n s).lnk = (s.lnk.enqueue n).choose := rfl

end Sys2Proof.Machine
end

