-- ==== Sys2Proof/Laws/Frames.lean ====
section
/-! SUPPORT. What the Scheduler's operations, the changes of validity and the steps leave as they were: one lemma per operation and
field. -/

namespace Sys2Proof.Machine

/-! ## Claims on lines -/

@[simp] theorem claimLines_power (set : W16) (c : Claim) (s : State) : (claimLines set c s).power = s.power := rfl
@[simp] theorem claimLines_straps (set : W16) (c : Claim) (s : State) : (claimLines set c s).straps = s.straps := rfl
@[simp] theorem claimLines_tmb (set : W16) (c : Claim) (s : State) : (claimLines set c s).tmb = s.tmb := rfl
@[simp] theorem claimLines_cap (set : W16) (c : Claim) (s : State) : (claimLines set c s).cap = s.cap := rfl
@[simp] theorem claimLines_trg (set : W16) (c : Claim) (s : State) : (claimLines set c s).trg = s.trg := rfl
@[simp] theorem claimLines_rds (set : W16) (c : Claim) (s : State) : (claimLines set c s).rds = s.rds := rfl
@[simp] theorem claimLines_prs (set : W16) (c : Claim) (s : State) : (claimLines set c s).prs = s.prs := rfl
@[simp] theorem claimLines_lsm (set : W16) (c : Claim) (s : State) : (claimLines set c s).lsm = s.lsm := rfl
@[simp] theorem claimLines_flash (set : W16) (c : Claim) (s : State) : (claimLines set c s).flash = s.flash := rfl
@[simp] theorem claimLines_owed (set : W16) (c : Claim) (s : State) : (claimLines set c s).owed = s.owed := rfl
@[simp] theorem claimLines_draws (set : W16) (c : Claim) (s : State) : (claimLines set c s).draws = s.draws := rfl
@[simp] theorem claimLines_pending (set : W16) (c : Claim) (s : State) : (claimLines set c s).pending = s.pending := rfl
@[simp] theorem claimLines_sch (set : W16) (c : Claim) (s : State) : (claimLines set c s).sch = s.sch := rfl
@[simp] theorem claimLines_lnk (set : W16) (c : Claim) (s : State) : (claimLines set c s).lnk = s.lnk := rfl

/-- A claim reaches the members of its line set and no other line (R74). -/
theorem claimLines_line (set : W16) (c : Claim) (s : State) (i : Nat) (hi : i < 16) :
    (claimLines set c s).lin[i] = if set.getLsbD i then (s.lin[i]).claim c else s.lin[i] := by
  simp [claimLines, BitVec.getLsbD_eq_getElem hi]

@[simp] theorem Line.claim_config (l : Line) (c : Claim) : (l.claim c).config = l.config := rfl
@[simp] theorem Line.claim_input (l : Line) (c : Claim) : (l.claim c).input = l.input := rfl
@[simp] theorem Line.claim_glitches (l : Line) (c : Claim) : (l.claim c).glitches = l.glitches := rfl
@[simp] theorem Line.claim_ext (l : Line) (c : Claim) : (l.claim c).ext = l.ext := rfl
@[simp] theorem Line.claim_output (l : Line) (c : Claim) :
    (l.claim c).output = l.output.map fun o => o.claim l.config.safe c := rfl

@[simp] theorem claimLines_line_config (set : W16) (c : Claim) (s : State) (i : Nat) (hi : i < 16) :
    ((claimLines set c s).lin[i]).config = (s.lin[i]).config := by
  rw [claimLines_line]; split <;> rfl
@[simp] theorem claimLines_line_input (set : W16) (c : Claim) (s : State) (i : Nat) (hi : i < 16) :
    ((claimLines set c s).lin[i]).input = (s.lin[i]).input := by
  rw [claimLines_line]; split <;> rfl
@[simp] theorem claimLines_line_glitches (set : W16) (c : Claim) (s : State) (i : Nat) (hi : i < 16) :
    ((claimLines set c s).lin[i]).glitches = (s.lin[i]).glitches := by
  rw [claimLines_line]; split <;> rfl
@[simp] theorem claimLines_line_ext (set : W16) (c : Claim) (s : State) (i : Nat) (hi : i < 16) :
    ((claimLines set c s).lin[i]).ext = (s.lin[i]).ext := by
  rw [claimLines_line]; split <;> rfl

@[simp] theorem Sch.readyStamp_hold (c : Sch) : c.readyStamp.hold = c.hold := by unfold Sch.readyStamp; split <;> rfl
@[simp] theorem Sch.readyStamp_tolerance (c : Sch) : c.readyStamp.tolerance = c.tolerance := by
  unfold Sch.readyStamp; split <;> rfl
@[simp] theorem Sch.readyStamp_lastHandle (c : Sch) : c.readyStamp.lastHandle = c.lastHandle := by
  unfold Sch.readyStamp; split <;> rfl
@[simp] theorem Sch.enter_hold (c : Sch) (e : Entry) : (c.enter e).hold = c.hold := by simp [Sch.enter]
@[simp] theorem Sch.enter_tolerance (c : Sch) (e : Entry) : (c.enter e).tolerance = c.tolerance := by simp [Sch.enter]
@[simp] theorem Sch.enter_lastHandle (c : Sch) (e : Entry) : (c.enter e).lastHandle = c.lastHandle := by simp [Sch.enter]
@[simp] theorem Sch.insertNew_hold (c : Sch) (e : Entry) : (c.insertNew e).hold = c.hold := by simp [Sch.insertNew]
@[simp] theorem Sch.insertNew_tolerance (c : Sch) (e : Entry) : (c.insertNew e).tolerance = c.tolerance := by
  simp [Sch.insertNew]
@[simp] theorem Sch.insertNew_lastHandle (c : Sch) (e : Entry) : (c.insertNew e).lastHandle = c.newHandle := by
  simp [Sch.insertNew]

/-! ## The claim of an entry -/

@[simp] theorem sendClaim_power (e : Entry) (s : State) : (sendClaim e s).power = s.power := by
  unfold sendClaim; split <;> simp
@[simp] theorem sendClaim_straps (e : Entry) (s : State) : (sendClaim e s).straps = s.straps := by
  unfold sendClaim; split <;> simp
@[simp] theorem sendClaim_tmb (e : Entry) (s : State) : (sendClaim e s).tmb = s.tmb := by
  unfold sendClaim; split <;> simp
@[simp] theorem sendClaim_cap (e : Entry) (s : State) : (sendClaim e s).cap = s.cap := by
  unfold sendClaim; split <;> simp
@[simp] theorem sendClaim_trg (e : Entry) (s : State) : (sendClaim e s).trg = s.trg := by
  unfold sendClaim; split <;> simp
@[simp] theorem sendClaim_rds (e : Entry) (s : State) : (sendClaim e s).rds = s.rds := by
  unfold sendClaim; split <;> simp
@[simp] theorem sendClaim_prs (e : Entry) (s : State) : (sendClaim e s).prs = s.prs := by
  unfold sendClaim; split <;> simp
@[simp] theorem sendClaim_lsm (e : Entry) (s : State) : (sendClaim e s).lsm = s.lsm := by
  unfold sendClaim; split <;> simp
@[simp] theorem sendClaim_flash (e : Entry) (s : State) : (sendClaim e s).flash = s.flash := by
  unfold sendClaim; split <;> simp
@[simp] theorem sendClaim_owed (e : Entry) (s : State) : (sendClaim e s).owed = s.owed := by
  unfold sendClaim; split <;> simp
@[simp] theorem sendClaim_draws (e : Entry) (s : State) : (sendClaim e s).draws = s.draws := by
  unfold sendClaim; split <;> simp
@[simp] theorem sendClaim_pending (e : Entry) (s : State) : (sendClaim e s).pending = s.pending := by
  unfold sendClaim; split <;> simp
@[simp] theorem sendClaim_sch (e : Entry) (s : State) : (sendClaim e s).sch = s.sch := by
  unfold sendClaim; split <;> simp
@[simp] theorem sendClaim_lnk (e : Entry) (s : State) : (sendClaim e s).lnk = s.lnk := by
  unfold sendClaim; split <;> simp
@[simp] theorem sendClaim_line_config (e : Entry) (s : State) (i : Nat) (hi : i < 16) :
    ((sendClaim e s).lin[i]).config = (s.lin[i]).config := by
  unfold sendClaim; split <;> simp
@[simp] theorem sendClaim_line_input (e : Entry) (s : State) (i : Nat) (hi : i < 16) :
    ((sendClaim e s).lin[i]).input = (s.lin[i]).input := by
  unfold sendClaim; split <;> simp
@[simp] theorem sendClaim_line_glitches (e : Entry) (s : State) (i : Nat) (hi : i < 16) :
    ((sendClaim e s).lin[i]).glitches = (s.lin[i]).glitches := by
  unfold sendClaim; split <;> simp
@[simp] theorem sendClaim_line_ext (e : Entry) (s : State) (i : Nat) (hi : i < 16) :
    ((sendClaim e s).lin[i]).ext = (s.lin[i]).ext := by
  unfold sendClaim; split <;> simp

/-! ## One taking -/

@[simp] theorem takeEntry_power (e : Entry) (s : State) : (takeEntry e s).power = s.power := by
  unfold takeEntry; dsimp only; (repeat' split) <;> simp
@[simp] theorem takeEntry_straps (e : Entry) (s : State) : (takeEntry e s).straps = s.straps := by
  unfold takeEntry; dsimp only; (repeat' split) <;> simp
@[simp] theorem takeEntry_tmb (e : Entry) (s : State) : (takeEntry e s).tmb = s.tmb := by
  unfold takeEntry; dsimp only; (repeat' split) <;> simp
@[simp] theorem takeEntry_cap (e : Entry) (s : State) : (takeEntry e s).cap = s.cap := by
  unfold takeEntry; dsimp only; (repeat' split) <;> simp
@[simp] theorem takeEntry_trg (e : Entry) (s : State) : (takeEntry e s).trg = s.trg := by
  unfold takeEntry; dsimp only; (repeat' split) <;> simp
@[simp] theorem takeEntry_rds (e : Entry) (s : State) : (takeEntry e s).rds = s.rds := by
  unfold takeEntry; dsimp only; (repeat' split) <;> simp
@[simp] theorem takeEntry_prs (e : Entry) (s : State) : (takeEntry e s).prs = s.prs := by
  unfold takeEntry; dsimp only; (repeat' split) <;> simp
@[simp] theorem takeEntry_lsm (e : Entry) (s : State) : (takeEntry e s).lsm = s.lsm := by
  unfold takeEntry; dsimp only; (repeat' split) <;> simp
@[simp] theorem takeEntry_flash (e : Entry) (s : State) : (takeEntry e s).flash = s.flash := by
  unfold takeEntry; dsimp only; (repeat' split) <;> simp
@[simp] theorem takeEntry_owed (e : Entry) (s : State) : (takeEntry e s).owed = s.owed := by
  unfold takeEntry; dsimp only; (repeat' split) <;> simp
@[simp] theorem takeEntry_draws (e : Entry) (s : State) : (takeEntry e s).draws = s.draws := by
  unfold takeEntry; dsimp only; (repeat' split) <;> simp
@[simp] theorem takeEntry_pending (e : Entry) (s : State) : (takeEntry e s).pending = s.pending := by
  unfold takeEntry; dsimp only; (repeat' split) <;> simp
@[simp] theorem takeEntry_lnk_rx (e : Entry) (s : State) : (takeEntry e s).lnk.rx = s.lnk.rx := by
  unfold takeEntry; dsimp only; (repeat' split) <;> simp
@[simp] theorem takeEntry_lnk_backlog (e : Entry) (s : State) : (takeEntry e s).lnk.backlog = s.lnk.backlog := by
  unfold takeEntry; dsimp only; (repeat' split) <;> simp
@[simp] theorem takeEntry_lnk_inbound (e : Entry) (s : State) : (takeEntry e s).lnk.inbound = s.lnk.inbound := by
  unfold takeEntry; dsimp only; (repeat' split) <;> simp
@[simp] theorem takeEntry_lnk_restartPending (e : Entry) (s : State) : (takeEntry e s).lnk.restartPending = s.lnk.restartPending := by
  unfold takeEntry; dsimp only; (repeat' split) <;> simp
@[simp] theorem takeEntry_lnk_seqState (e : Entry) (s : State) : (takeEntry e s).lnk.seqState = s.lnk.seqState := by
  unfold takeEntry; dsimp only; (repeat' split) <;> simp
@[simp] theorem takeEntry_lnk_cache (e : Entry) (s : State) : (takeEntry e s).lnk.cache = s.lnk.cache := by
  unfold takeEntry; dsimp only; (repeat' split) <;> simp
@[simp] theorem takeEntry_lnk_replies (e : Entry) (s : State) : (takeEntry e s).lnk.replies = s.lnk.replies := by
  unfold takeEntry; dsimp only; (repeat' split) <;> simp
@[simp] theorem takeEntry_lnk_counters (e : Entry) (s : State) : (takeEntry e s).lnk.counters = s.lnk.counters := by
  unfold takeEntry; dsimp only; (repeat' split) <;> simp
@[simp] theorem takeEntry_lnk_arate (e : Entry) (s : State) : (takeEntry e s).lnk.arate = s.lnk.arate := by
  unfold takeEntry; dsimp only; (repeat' split) <;> simp
@[simp] theorem takeEntry_lnk_autoload (e : Entry) (s : State) : (takeEntry e s).lnk.autoload = s.lnk.autoload := by
  unfold takeEntry; dsimp only; (repeat' split) <;> simp
@[simp] theorem takeEntry_lnk_startCause (e : Entry) (s : State) : (takeEntry e s).lnk.startCause = s.lnk.startCause := by
  unfold takeEntry; dsimp only; (repeat' split) <;> simp
@[simp] theorem takeEntry_line_config (e : Entry) (s : State) (i : Nat) (hi : i < 16) :
    ((takeEntry e s).lin[i]).config = (s.lin[i]).config := by
  unfold takeEntry; dsimp only; (repeat' split) <;> simp
@[simp] theorem takeEntry_line_input (e : Entry) (s : State) (i : Nat) (hi : i < 16) :
    ((takeEntry e s).lin[i]).input = (s.lin[i]).input := by
  unfold takeEntry; dsimp only; (repeat' split) <;> simp
@[simp] theorem takeEntry_line_glitches (e : Entry) (s : State) (i : Nat) (hi : i < 16) :
    ((takeEntry e s).lin[i]).glitches = (s.lin[i]).glitches := by
  unfold takeEntry; dsimp only; (repeat' split) <;> simp
@[simp] theorem takeEntry_line_ext (e : Entry) (s : State) (i : Nat) (hi : i < 16) :
    ((takeEntry e s).lin[i]).ext = (s.lin[i]).ext := by
  unfold takeEntry; dsimp only; (repeat' split) <;> simp
@[simp] theorem takeEntry_sch_hold (e : Entry) (s : State) : (takeEntry e s).sch.hold = s.sch.hold := by
  unfold takeEntry; dsimp only; (repeat' split) <;> simp
@[simp] theorem takeEntry_sch_tolerance (e : Entry) (s : State) : (takeEntry e s).sch.tolerance = s.sch.tolerance := by
  unfold takeEntry; dsimp only; (repeat' split) <;> simp
@[simp] theorem takeEntry_sch_lastHandle (e : Entry) (s : State) : (takeEntry e s).sch.lastHandle = s.sch.lastHandle := by
  unfold takeEntry; dsimp only; (repeat' split) <;> simp

/-- One round of a pass: it ends, or the head entry is taken (R50). -/
theorem passLoop_cases (k : Nat) (s : State) :
    passLoop (k + 1) s = s ∨
    ∃ e, (∃ rest, s.sch.entries = e :: rest ∧ e.due.ticks ≤ s.now) ∧ passLoop (k + 1) s = passLoop k (takeEntry e s) := by
  cases hs : s.sch.entries with
  | nil => left; simp [passLoop, hs]
  | cons e rest =>
    by_cases h : e.due.ticks ≤ s.now
    · right; exact ⟨e, ⟨rest, rfl, h⟩, by simp [passLoop, hs, h]⟩
    · left; simp [passLoop, hs, h]

/-! ## The taking pass -/

@[simp] theorem passLoop_power (k : Nat) (s : State) : (passLoop k s).power = s.power := by
  induction k generalizing s with
  | zero => rfl
  | succ k ih => rcases passLoop_cases k s with h | ⟨e, _, h⟩ <;> simp [h, ih]
@[simp] theorem passLoop_straps (k : Nat) (s : State) : (passLoop k s).straps = s.straps := by
  induction k generalizing s with
  | zero => rfl
  | succ k ih => rcases passLoop_cases k s with h | ⟨e, _, h⟩ <;> simp [h, ih]
@[simp] theorem passLoop_tmb (k : Nat) (s : State) : (passLoop k s).tmb = s.tmb := by
  induction k generalizing s with
  | zero => rfl
  | succ k ih => rcases passLoop_cases k s with h | ⟨e, _, h⟩ <;> simp [h, ih]
@[simp] theorem passLoop_cap (k : Nat) (s : State) : (passLoop k s).cap = s.cap := by
  induction k generalizing s with
  | zero => rfl
  | succ k ih => rcases passLoop_cases k s with h | ⟨e, _, h⟩ <;> simp [h, ih]
@[simp] theorem passLoop_trg (k : Nat) (s : State) : (passLoop k s).trg = s.trg := by
  induction k generalizing s with
  | zero => rfl
  | succ k ih => rcases passLoop_cases k s with h | ⟨e, _, h⟩ <;> simp [h, ih]
@[simp] theorem passLoop_rds (k : Nat) (s : State) : (passLoop k s).rds = s.rds := by
  induction k generalizing s with
  | zero => rfl
  | succ k ih => rcases passLoop_cases k s with h | ⟨e, _, h⟩ <;> simp [h, ih]
@[simp] theorem passLoop_prs (k : Nat) (s : State) : (passLoop k s).prs = s.prs := by
  induction k generalizing s with
  | zero => rfl
  | succ k ih => rcases passLoop_cases k s with h | ⟨e, _, h⟩ <;> simp [h, ih]
@[simp] theorem passLoop_lsm (k : Nat) (s : State) : (passLoop k s).lsm = s.lsm := by
  induction k generalizing s with
  | zero => rfl
  | succ k ih => rcases passLoop_cases k s with h | ⟨e, _, h⟩ <;> simp [h, ih]
@[simp] theorem passLoop_flash (k : Nat) (s : State) : (passLoop k s).flash = s.flash := by
  induction k generalizing s with
  | zero => rfl
  | succ k ih => rcases passLoop_cases k s with h | ⟨e, _, h⟩ <;> simp [h, ih]
@[simp] theorem passLoop_owed (k : Nat) (s : State) : (passLoop k s).owed = s.owed := by
  induction k generalizing s with
  | zero => rfl
  | succ k ih => rcases passLoop_cases k s with h | ⟨e, _, h⟩ <;> simp [h, ih]
@[simp] theorem passLoop_draws (k : Nat) (s : State) : (passLoop k s).draws = s.draws := by
  induction k generalizing s with
  | zero => rfl
  | succ k ih => rcases passLoop_cases k s with h | ⟨e, _, h⟩ <;> simp [h, ih]
@[simp] theorem passLoop_pending (k : Nat) (s : State) : (passLoop k s).pending = s.pending := by
  induction k generalizing s with
  | zero => rfl
  | succ k ih => rcases passLoop_cases k s with h | ⟨e, _, h⟩ <;> simp [h, ih]
@[simp] theorem passLoop_lnk_rx (k : Nat) (s : State) : (passLoop k s).lnk.rx = s.lnk.rx := by
  induction k generalizing s with
  | zero => rfl
  | succ k ih => rcases passLoop_cases k s with h | ⟨e, _, h⟩ <;> simp [h, ih]
@[simp] theorem passLoop_lnk_backlog (k : Nat) (s : State) : (passLoop k s).lnk.backlog = s.lnk.backlog := by
  induction k generalizing s with
  | zero => rfl
  | succ k ih => rcases passLoop_cases k s with h | ⟨e, _, h⟩ <;> simp [h, ih]
@[simp] theorem passLoop_lnk_inbound (k : Nat) (s : State) : (passLoop k s).lnk.inbound = s.lnk.inbound := by
  induction k generalizing s with
  | zero => rfl
  | succ k ih => rcases passLoop_cases k s with h | ⟨e, _, h⟩ <;> simp [h, ih]
@[simp] theorem passLoop_lnk_restartPending (k : Nat) (s : State) : (passLoop k s).lnk.restartPending = s.lnk.restartPending := by
  induction k generalizing s with
  | zero => rfl
  | succ k ih => rcases passLoop_cases k s with h | ⟨e, _, h⟩ <;> simp [h, ih]
@[simp] theorem passLoop_lnk_seqState (k : Nat) (s : State) : (passLoop k s).lnk.seqState = s.lnk.seqState := by
  induction k generalizing s with
  | zero => rfl
  | succ k ih => rcases passLoop_cases k s with h | ⟨e, _, h⟩ <;> simp [h, ih]
@[simp] theorem passLoop_lnk_cache (k : Nat) (s : State) : (passLoop k s).lnk.cache = s.lnk.cache := by
  induction k generalizing s with
  | zero => rfl
  | succ k ih => rcases passLoop_cases k s with h | ⟨e, _, h⟩ <;> simp [h, ih]
@[simp] theorem passLoop_lnk_replies (k : Nat) (s : State) : (passLoop k s).lnk.replies = s.lnk.replies := by
  induction k generalizing s with
  | zero => rfl
  | succ k ih => rcases passLoop_cases k s with h | ⟨e, _, h⟩ <;> simp [h, ih]
@[simp] theorem passLoop_lnk_counters (k : Nat) (s : State) : (passLoop k s).lnk.counters = s.lnk.counters := by
  induction k generalizing s with
  | zero => rfl
  | succ k ih => rcases passLoop_cases k s with h | ⟨e, _, h⟩ <;> simp [h, ih]
@[simp] theorem passLoop_lnk_arate (k : Nat) (s : State) : (passLoop k s).lnk.arate = s.lnk.arate := by
  induction k generalizing s with
  | zero => rfl
  | succ k ih => rcases passLoop_cases k s with h | ⟨e, _, h⟩ <;> simp [h, ih]
@[simp] theorem passLoop_lnk_autoload (k : Nat) (s : State) : (passLoop k s).lnk.autoload = s.lnk.autoload := by
  induction k generalizing s with
  | zero => rfl
  | succ k ih => rcases passLoop_cases k s with h | ⟨e, _, h⟩ <;> simp [h, ih]
@[simp] theorem passLoop_lnk_startCause (k : Nat) (s : State) : (passLoop k s).lnk.startCause = s.lnk.startCause := by
  induction k generalizing s with
  | zero => rfl
  | succ k ih => rcases passLoop_cases k s with h | ⟨e, _, h⟩ <;> simp [h, ih]
@[simp] theorem passLoop_line_config (k : Nat) (s : State) (i : Nat) (hi : i < 16) :
    ((passLoop k s).lin[i]).config = (s.lin[i]).config := by
  induction k generalizing s with
  | zero => rfl
  | succ k ih => rcases passLoop_cases k s with h | ⟨e, _, h⟩ <;> simp [h, ih]
@[simp] theorem passLoop_line_input (k : Nat) (s : State) (i : Nat) (hi : i < 16) :
    ((passLoop k s).lin[i]).input = (s.lin[i]).input := by
  induction k generalizing s with
  | zero => rfl
  | succ k ih => rcases passLoop_cases k s with h | ⟨e, _, h⟩ <;> simp [h, ih]
@[simp] theorem passLoop_line_glitches (k : Nat) (s : State) (i : Nat) (hi : i < 16) :
    ((passLoop k s).lin[i]).glitches = (s.lin[i]).glitches := by
  induction k generalizing s with
  | zero => rfl
  | succ k ih => rcases passLoop_cases k s with h | ⟨e, _, h⟩ <;> simp [h, ih]
@[simp] theorem passLoop_line_ext (k : Nat) (s : State) (i : Nat) (hi : i < 16) :
    ((passLoop k s).lin[i]).ext = (s.lin[i]).ext := by
  induction k generalizing s with
  | zero => rfl
  | succ k ih => rcases passLoop_cases k s with h | ⟨e, _, h⟩ <;> simp [h, ih]
@[simp] theorem passLoop_sch_hold (k : Nat) (s : State) : (passLoop k s).sch.hold = s.sch.hold := by
  induction k generalizing s with
  | zero => rfl
  | succ k ih => rcases passLoop_cases k s with h | ⟨e, _, h⟩ <;> simp [h, ih]
@[simp] theorem passLoop_sch_tolerance (k : Nat) (s : State) : (passLoop k s).sch.tolerance = s.sch.tolerance := by
  induction k generalizing s with
  | zero => rfl
  | succ k ih => rcases passLoop_cases k s with h | ⟨e, _, h⟩ <;> simp [h, ih]
@[simp] theorem passLoop_sch_lastHandle (k : Nat) (s : State) : (passLoop k s).sch.lastHandle = s.sch.lastHandle := by
  induction k generalizing s with
  | zero => rfl
  | succ k ih => rcases passLoop_cases k s with h | ⟨e, _, h⟩ <;> simp [h, ih]

/-! ## A pass of a RUNNING scheduler -/

@[simp] theorem pass_power  (s : State) : (pass s).power = s.power := by
  unfold pass; split <;> simp
@[simp] theorem pass_straps  (s : State) : (pass s).straps = s.straps := by
  unfold pass; split <;> simp
@[simp] theorem pass_tmb  (s : State) : (pass s).tmb = s.tmb := by
  unfold pass; split <;> simp
@[simp] theorem pass_cap  (s : State) : (pass s).cap = s.cap := by
  unfold pass; split <;> simp
@[simp] theorem pass_trg  (s : State) : (pass s).trg = s.trg := by
  unfold pass; split <;> simp
@[simp] theorem pass_rds  (s : State) : (pass s).rds = s.rds := by
  unfold pass; split <;> simp
@[simp] theorem pass_prs  (s : State) : (pass s).prs = s.prs := by
  unfold pass; split <;> simp
@[simp] theorem pass_lsm  (s : State) : (pass s).lsm = s.lsm := by
  unfold pass; split <;> simp
@[simp] theorem pass_flash  (s : State) : (pass s).flash = s.flash := by
  unfold pass; split <;> simp
@[simp] theorem pass_owed  (s : State) : (pass s).owed = s.owed := by
  unfold pass; split <;> simp
@[simp] theorem pass_draws  (s : State) : (pass s).draws = s.draws := by
  unfold pass; split <;> simp
@[simp] theorem pass_pending  (s : State) : (pass s).pending = s.pending := by
  unfold pass; split <;> simp
@[simp] theorem pass_lnk_rx  (s : State) : (pass s).lnk.rx = s.lnk.rx := by
  unfold pass; split <;> simp
@[simp] theorem pass_lnk_backlog  (s : State) : (pass s).lnk.backlog = s.lnk.backlog := by
  unfold pass; split <;> simp
@[simp] theorem pass_lnk_inbound  (s : State) : (pass s).lnk.inbound = s.lnk.inbound := by
  unfold pass; split <;> simp
@[simp] theorem pass_lnk_restartPending  (s : State) : (pass s).lnk.restartPending = s.lnk.restartPending := by
  unfold pass; split <;> simp
@[simp] theorem pass_lnk_seqState  (s : State) : (pass s).lnk.seqState = s.lnk.seqState := by
  unfold pass; split <;> simp
@[simp] theorem pass_lnk_cache  (s : State) : (pass s).lnk.cache = s.lnk.cache := by
  unfold pass; split <;> simp
@[simp] theorem pass_lnk_replies  (s : State) : (pass s).lnk.replies = s.lnk.replies := by
  unfold pass; split <;> simp
@[simp] theorem pass_lnk_counters  (s : State) : (pass s).lnk.counters = s.lnk.counters := by
  unfold pass; split <;> simp
@[simp] theorem pass_lnk_arate  (s : State) : (pass s).lnk.arate = s.lnk.arate := by
  unfold pass; split <;> simp
@[simp] theorem pass_lnk_autoload  (s : State) : (pass s).lnk.autoload = s.lnk.autoload := by
  unfold pass; split <;> simp
@[simp] theorem pass_lnk_startCause  (s : State) : (pass s).lnk.startCause = s.lnk.startCause := by
  unfold pass; split <;> simp
@[simp] theorem pass_line_config  (s : State) (i : Nat) (hi : i < 16) :
    ((pass s).lin[i]).config = (s.lin[i]).config := by
  unfold pass; split <;> simp
@[simp] theorem pass_line_input  (s : State) (i : Nat) (hi : i < 16) :
    ((pass s).lin[i]).input = (s.lin[i]).input := by
  unfold pass; split <;> simp
@[simp] theorem pass_line_glitches  (s : State) (i : Nat) (hi : i < 16) :
    ((pass s).lin[i]).glitches = (s.lin[i]).glitches := by
  unfold pass; split <;> simp
@[simp] theorem pass_line_ext  (s : State) (i : Nat) (hi : i < 16) :
    ((pass s).lin[i]).ext = (s.lin[i]).ext := by
  unfold pass; split <;> simp
@[simp] theorem pass_sch_hold  (s : State) : (pass s).sch.hold = s.sch.hold := by
  unfold pass; split <;> simp
@[simp] theorem pass_sch_tolerance  (s : State) : (pass s).sch.tolerance = s.sch.tolerance := by
  unfold pass; split <;> simp
@[simp] theorem pass_sch_lastHandle  (s : State) : (pass s).sch.lastHandle = s.sch.lastHandle := by
  unfold pass; split <;> simp

/-! ## The removal of a hold reason -/

@[simp] theorem removeReason_power (r : HoldReason) (s : State) : (removeReason r s).power = s.power := by
  unfold removeReason; dsimp only; (repeat' split) <;> simp
@[simp] theorem removeReason_straps (r : HoldReason) (s : State) : (removeReason r s).straps = s.straps := by
  unfold removeReason; dsimp only; (repeat' split) <;> simp
@[simp] theorem removeReason_tmb (r : HoldReason) (s : State) : (removeReason r s).tmb = s.tmb := by
  unfold removeReason; dsimp only; (repeat' split) <;> simp
@[simp] theorem removeReason_cap (r : HoldReason) (s : State) : (removeReason r s).cap = s.cap := by
  unfold removeReason; dsimp only; (repeat' split) <;> simp
@[simp] theorem removeReason_trg (r : HoldReason) (s : State) : (removeReason r s).trg = s.trg := by
  unfold removeReason; dsimp only; (repeat' split) <;> simp
@[simp] theorem removeReason_rds (r : HoldReason) (s : State) : (removeReason r s).rds = s.rds := by
  unfold removeReason; dsimp only; (repeat' split) <;> simp
@[simp] theorem removeReason_prs (r : HoldReason) (s : State) : (removeReason r s).prs = s.prs := by
  unfold removeReason; dsimp only; (repeat' split) <;> simp
@[simp] theorem removeReason_lsm (r : HoldReason) (s : State) : (removeReason r s).lsm = s.lsm := by
  unfold removeReason; dsimp only; (repeat' split) <;> simp
@[simp] theorem removeReason_flash (r : HoldReason) (s : State) : (removeReason r s).flash = s.flash := by
  unfold removeReason; dsimp only; (repeat' split) <;> simp
@[simp] theorem removeReason_owed (r : HoldReason) (s : State) : (removeReason r s).owed = s.owed := by
  unfold removeReason; dsimp only; (repeat' split) <;> simp
@[simp] theorem removeReason_draws (r : HoldReason) (s : State) : (removeReason r s).draws = s.draws := by
  unfold removeReason; dsimp only; (repeat' split) <;> simp
@[simp] theorem removeReason_pending (r : HoldReason) (s : State) : (removeReason r s).pending = s.pending := by
  unfold removeReason; dsimp only; (repeat' split) <;> simp
@[simp] theorem removeReason_lnk_rx (r : HoldReason) (s : State) : (removeReason r s).lnk.rx = s.lnk.rx := by
  unfold removeReason; dsimp only; (repeat' split) <;> simp
@[simp] theorem removeReason_lnk_backlog (r : HoldReason) (s : State) : (removeReason r s).lnk.backlog = s.lnk.backlog := by
  unfold removeReason; dsimp only; (repeat' split) <;> simp
@[simp] theorem removeReason_lnk_inbound (r : HoldReason) (s : State) : (removeReason r s).lnk.inbound = s.lnk.inbound := by
  unfold removeReason; dsimp only; (repeat' split) <;> simp
@[simp] theorem removeReason_lnk_restartPending (r : HoldReason) (s : State) : (removeReason r s).lnk.restartPending = s.lnk.restartPending := by
  unfold removeReason; dsimp only; (repeat' split) <;> simp
@[simp] theorem removeReason_lnk_seqState (r : HoldReason) (s : State) : (removeReason r s).lnk.seqState = s.lnk.seqState := by
  unfold removeReason; dsimp only; (repeat' split) <;> simp
@[simp] theorem removeReason_lnk_cache (r : HoldReason) (s : State) : (removeReason r s).lnk.cache = s.lnk.cache := by
  unfold removeReason; dsimp only; (repeat' split) <;> simp
@[simp] theorem removeReason_lnk_replies (r : HoldReason) (s : State) : (removeReason r s).lnk.replies = s.lnk.replies := by
  unfold removeReason; dsimp only; (repeat' split) <;> simp
@[simp] theorem removeReason_lnk_counters (r : HoldReason) (s : State) : (removeReason r s).lnk.counters = s.lnk.counters := by
  unfold removeReason; dsimp only; (repeat' split) <;> simp
@[simp] theorem removeReason_lnk_arate (r : HoldReason) (s : State) : (removeReason r s).lnk.arate = s.lnk.arate := by
  unfold removeReason; dsimp only; (repeat' split) <;> simp
@[simp] theorem removeReason_lnk_autoload (r : HoldReason) (s : State) : (removeReason r s).lnk.autoload = s.lnk.autoload := by
  unfold removeReason; dsimp only; (repeat' split) <;> simp
@[simp] theorem removeReason_lnk_startCause (r : HoldReason) (s : State) : (removeReason r s).lnk.startCause = s.lnk.startCause := by
  unfold removeReason; dsimp only; (repeat' split) <;> simp
@[simp] theorem removeReason_line_config (r : HoldReason) (s : State) (i : Nat) (hi : i < 16) :
    ((removeReason r s).lin[i]).config = (s.lin[i]).config := by
  unfold removeReason; dsimp only; (repeat' split) <;> simp
@[simp] theorem removeReason_line_input (r : HoldReason) (s : State) (i : Nat) (hi : i < 16) :
    ((removeReason r s).lin[i]).input = (s.lin[i]).input := by
  unfold removeReason; dsimp only; (repeat' split) <;> simp
@[simp] theorem removeReason_line_glitches (r : HoldReason) (s : State) (i : Nat) (hi : i < 16) :
    ((removeReason r s).lin[i]).glitches = (s.lin[i]).glitches := by
  unfold removeReason; dsimp only; (repeat' split) <;> simp
@[simp] theorem removeReason_line_ext (r : HoldReason) (s : State) (i : Nat) (hi : i < 16) :
    ((removeReason r s).lin[i]).ext = (s.lin[i]).ext := by
  unfold removeReason; dsimp only; (repeat' split) <;> simp
@[simp] theorem removeReason_sch_tolerance (r : HoldReason) (s : State) : (removeReason r s).sch.tolerance = s.sch.tolerance := by
  unfold removeReason; dsimp only; (repeat' split) <;> simp
@[simp] theorem removeReason_sch_lastHandle (r : HoldReason) (s : State) : (removeReason r s).sch.lastHandle = s.sch.lastHandle := by
  unfold removeReason; dsimp only; (repeat' split) <;> simp

/-! ## An insertion with its pass -/

@[simp] theorem insertAndPass_power (e : Entry) (s : State) : (insertAndPass e s).power = s.power := by
  unfold insertAndPass passIfDue; split <;> simp
@[simp] theorem insertAndPass_straps (e : Entry) (s : State) : (insertAndPass e s).straps = s.straps := by
  unfold insertAndPass passIfDue; split <;> simp
@[simp] theorem insertAndPass_tmb (e : Entry) (s : State) : (insertAndPass e s).tmb = s.tmb := by
  unfold insertAndPass passIfDue; split <;> simp
@[simp] theorem insertAndPass_cap (e : Entry) (s : State) : (insertAndPass e s).cap = s.cap := by
  unfold insertAndPass passIfDue; split <;> simp
@[simp] theorem insertAndPass_trg (e : Entry) (s : State) : (insertAndPass e s).trg = s.trg := by
  unfold insertAndPass passIfDue; split <;> simp
@[simp] theorem insertAndPass_rds (e : Entry) (s : State) : (insertAndPass e s).rds = s.rds := by
  unfold insertAndPass passIfDue; split <;> simp
@[simp] theorem insertAndPass_prs (e : Entry) (s : State) : (insertAndPass e s).prs = s.prs := by
  unfold insertAndPass passIfDue; split <;> simp
@[simp] theorem insertAndPass_lsm (e : Entry) (s : State) : (insertAndPass e s).lsm = s.lsm := by
  unfold insertAndPass passIfDue; split <;> simp
@[simp] theorem insertAndPass_flash (e : Entry) (s : State) : (insertAndPass e s).flash = s.flash := by
  unfold insertAndPass passIfDue; split <;> simp
@[simp] theorem insertAndPass_owed (e : Entry) (s : State) : (insertAndPass e s).owed = s.owed := by
  unfold insertAndPass passIfDue; split <;> simp
@[simp] theorem insertAndPass_draws (e : Entry) (s : State) : (insertAndPass e s).draws = s.draws := by
  unfold insertAndPass passIfDue; split <;> simp
@[simp] theorem insertAndPass_pending (e : Entry) (s : State) : (insertAndPass e s).pending = s.pending := by
  unfold insertAndPass passIfDue; split <;> simp
@[simp] theorem insertAndPass_lnk_rx (e : Entry) (s : State) : (insertAndPass e s).lnk.rx = s.lnk.rx := by
  unfold insertAndPass passIfDue; split <;> simp
@[simp] theorem insertAndPass_lnk_backlog (e : Entry) (s : State) : (insertAndPass e s).lnk.backlog = s.lnk.backlog := by
  unfold insertAndPass passIfDue; split <;> simp
@[simp] theorem insertAndPass_lnk_inbound (e : Entry) (s : State) : (insertAndPass e s).lnk.inbound = s.lnk.inbound := by
  unfold insertAndPass passIfDue; split <;> simp
@[simp] theorem insertAndPass_lnk_restartPending (e : Entry) (s : State) : (insertAndPass e s).lnk.restartPending = s.lnk.restartPending := by
  unfold insertAndPass passIfDue; split <;> simp
@[simp] theorem insertAndPass_lnk_seqState (e : Entry) (s : State) : (insertAndPass e s).lnk.seqState = s.lnk.seqState := by
  unfold insertAndPass passIfDue; split <;> simp
@[simp] theorem insertAndPass_lnk_cache (e : Entry) (s : State) : (insertAndPass e s).lnk.cache = s.lnk.cache := by
  unfold insertAndPass passIfDue; split <;> simp
@[simp] theorem insertAndPass_lnk_replies (e : Entry) (s : State) : (insertAndPass e s).lnk.replies = s.lnk.replies := by
  unfold insertAndPass passIfDue; split <;> simp
@[simp] theorem insertAndPass_lnk_counters (e : Entry) (s : State) : (insertAndPass e s).lnk.counters = s.lnk.counters := by
  unfold insertAndPass passIfDue; split <;> simp
@[simp] theorem insertAndPass_lnk_arate (e : Entry) (s : State) : (insertAndPass e s).lnk.arate = s.lnk.arate := by
  unfold insertAndPass passIfDue; split <;> simp
@[simp] theorem insertAndPass_lnk_autoload (e : Entry) (s : State) : (insertAndPass e s).lnk.autoload = s.lnk.autoload := by
  unfold insertAndPass passIfDue; split <;> simp
@[simp] theorem insertAndPass_lnk_startCause (e : Entry) (s : State) : (insertAndPass e s).lnk.startCause = s.lnk.startCause := by
  unfold insertAndPass passIfDue; split <;> simp
@[simp] theorem insertAndPass_line_config (e : Entry) (s : State) (i : Nat) (hi : i < 16) :
    ((insertAndPass e s).lin[i]).config = (s.lin[i]).config := by
  unfold insertAndPass passIfDue; split <;> simp
@[simp] theorem insertAndPass_line_input (e : Entry) (s : State) (i : Nat) (hi : i < 16) :
    ((insertAndPass e s).lin[i]).input = (s.lin[i]).input := by
  unfold insertAndPass passIfDue; split <;> simp
@[simp] theorem insertAndPass_line_glitches (e : Entry) (s : State) (i : Nat) (hi : i < 16) :
    ((insertAndPass e s).lin[i]).glitches = (s.lin[i]).glitches := by
  unfold insertAndPass passIfDue; split <;> simp
@[simp] theorem insertAndPass_line_ext (e : Entry) (s : State) (i : Nat) (hi : i < 16) :
    ((insertAndPass e s).lin[i]).ext = (s.lin[i]).ext := by
  unfold insertAndPass passIfDue; split <;> simp
@[simp] theorem insertAndPass_sch_hold (e : Entry) (s : State) : (insertAndPass e s).sch.hold = s.sch.hold := by
  unfold insertAndPass passIfDue; split <;> simp
@[simp] theorem insertAndPass_sch_tolerance (e : Entry) (s : State) : (insertAndPass e s).sch.tolerance = s.sch.tolerance := by
  unfold insertAndPass passIfDue; split <;> simp

/-! ## The first takings of a pass -/

@[simp] theorem passSome_power (k : Nat) (s : State) : (passSome k s).power = s.power := by
  unfold passSome; split <;> simp
@[simp] theorem passSome_straps (k : Nat) (s : State) : (passSome k s).straps = s.straps := by
  unfold passSome; split <;> simp
@[simp] theorem passSome_tmb (k : Nat) (s : State) : (passSome k s).tmb = s.tmb := by
  unfold passSome; split <;> simp
@[simp] theorem passSome_cap (k : Nat) (s : State) : (passSome k s).cap = s.cap := by
  unfold passSome; split <;> simp
@[simp] theorem passSome_trg (k : Nat) (s : State) : (passSome k s).trg = s.trg := by
  unfold passSome; split <;> simp
@[simp] theorem passSome_rds (k : Nat) (s : State) : (passSome k s).rds = s.rds := by
  unfold passSome; split <;> simp
@[simp] theorem passSome_prs (k : Nat) (s : State) : (passSome k s).prs = s.prs := by
  unfold passSome; split <;> simp
@[simp] theorem passSome_lsm (k : Nat) (s : State) : (passSome k s).lsm = s.lsm := by
  unfold passSome; split <;> simp
@[simp] theorem passSome_flash (k : Nat) (s : State) : (passSome k s).flash = s.flash := by
  unfold passSome; split <;> simp
@[simp] theorem passSome_owed (k : Nat) (s : State) : (passSome k s).owed = s.owed := by
  unfold passSome; split <;> simp
@[simp] theorem passSome_draws (k : Nat) (s : State) : (passSome k s).draws = s.draws := by
  unfold passSome; split <;> simp
@[simp] theorem passSome_pending (k : Nat) (s : State) : (passSome k s).pending = s.pending := by
  unfold passSome; split <;> simp
@[simp] theorem passSome_lnk_rx (k : Nat) (s : State) : (passSome k s).lnk.rx = s.lnk.rx := by
  unfold passSome; split <;> simp
@[simp] theorem passSome_lnk_backlog (k : Nat) (s : State) : (passSome k s).lnk.backlog = s.lnk.backlog := by
  unfold passSome; split <;> simp
@[simp] theorem passSome_lnk_inbound (k : Nat) (s : State) : (passSome k s).lnk.inbound = s.lnk.inbound := by
  unfold passSome; split <;> simp
@[simp] theorem passSome_lnk_restartPending (k : Nat) (s : State) : (passSome k s).lnk.restartPending = s.lnk.restartPending := by
  unfold passSome; split <;> simp
@[simp] theorem passSome_lnk_seqState (k : Nat) (s : State) : (passSome k s).lnk.seqState = s.lnk.seqState := by
  unfold passSome; split <;> simp
@[simp] theorem passSome_lnk_cache (k : Nat) (s : State) : (passSome k s).lnk.cache = s.lnk.cache := by
  unfold passSome; split <;> simp
@[simp] theorem passSome_lnk_replies (k : Nat) (s : State) : (passSome k s).lnk.replies = s.lnk.replies := by
  unfold passSome; split <;> simp
@[simp] theorem passSome_lnk_counters (k : Nat) (s : State) : (passSome k s).lnk.counters = s.lnk.counters := by
  unfold passSome; split <;> simp
@[simp] theorem passSome_lnk_arate (k : Nat) (s : State) : (passSome k s).lnk.arate = s.lnk.arate := by
  unfold passSome; split <;> simp
@[simp] theorem passSome_lnk_autoload (k : Nat) (s : State) : (passSome k s).lnk.autoload = s.lnk.autoload := by
  unfold passSome; split <;> simp
@[simp] theorem passSome_lnk_startCause (k : Nat) (s : State) : (passSome k s).lnk.startCause = s.lnk.startCause := by
  unfold passSome; split <;> simp
@[simp] theorem passSome_line_config (k : Nat) (s : State) (i : Nat) (hi : i < 16) :
    ((passSome k s).lin[i]).config = (s.lin[i]).config := by
  unfold passSome; split <;> simp
@[simp] theorem passSome_line_input (k : Nat) (s : State) (i : Nat) (hi : i < 16) :
    ((passSome k s).lin[i]).input = (s.lin[i]).input := by
  unfold passSome; split <;> simp
@[simp] theorem passSome_line_glitches (k : Nat) (s : State) (i : Nat) (hi : i < 16) :
    ((passSome k s).lin[i]).glitches = (s.lin[i]).glitches := by
  unfold passSome; split <;> simp
@[simp] theorem passSome_line_ext (k : Nat) (s : State) (i : Nat) (hi : i < 16) :
    ((passSome k s).lin[i]).ext = (s.lin[i]).ext := by
  unfold passSome; split <;> simp
@[simp] theorem passSome_sch_hold (k : Nat) (s : State) : (passSome k s).sch.hold = s.sch.hold := by
  unfold passSome; split <;> simp
@[simp] theorem passSome_sch_tolerance (k : Nat) (s : State) : (passSome k s).sch.tolerance = s.sch.tolerance := by
  unfold passSome; split <;> simp
@[simp] theorem passSome_sch_lastHandle (k : Nat) (s : State) : (passSome k s).sch.lastHandle = s.sch.lastHandle := by
  unfold passSome; split <;> simp

/-! ## Another block's notice beside a pass -/

@[simp] theorem postOwn_power (n : Option Notice) (s : State) : (postOwn n s).power = s.power := by
  cases n <;> simp [postOwn]
@[simp] theorem postOwn_straps (n : Option Notice) (s : State) : (postOwn n s).straps = s.straps := by
  cases n <;> simp [postOwn]
@[simp] theorem postOwn_tmb (n : Option Notice) (s : State) : (postOwn n s).tmb = s.tmb := by
  cases n <;> simp [postOwn]
@[simp] theorem postOwn_cap (n : Option Notice) (s : State) : (postOwn n s).cap = s.cap := by
  cases n <;> simp [postOwn]
@[simp] theorem postOwn_trg (n : Option Notice) (s : State) : (postOwn n s).trg = s.trg := by
  cases n <;> simp [postOwn]
@[simp] theorem postOwn_rds (n : Option Notice) (s : State) : (postOwn n s).rds = s.rds := by
  cases n <;> simp [postOwn]
@[simp] theorem postOwn_prs (n : Option Notice) (s : State) : (postOwn n s).prs = s.prs := by
  cases n <;> simp [postOwn]
@[simp] theorem postOwn_lsm (n : Option Notice) (s : State) : (postOwn n s).lsm = s.lsm := by
  cases n <;> simp [postOwn]
@[simp] theorem postOwn_flash (n : Option Notice) (s : State) : (postOwn n s).flash = s.flash := by
  cases n <;> simp [postOwn]
@[simp] theorem postOwn_owed (n : Option Notice) (s : State) : (postOwn n s).owed = s.owed := by
  cases n <;> simp [postOwn]
@[simp] theorem postOwn_draws (n : Option Notice) (s : State) : (postOwn n s).draws = s.draws := by
  cases n <;> simp [postOwn]
@[simp] theorem postOwn_pending (n : Option Notice) (s : State) : (postOwn n s).pending = s.pending := by
  cases n <;> simp [postOwn]
@[simp] theorem postOwn_sch (n : Option Notice) (s : State) : (postOwn n s).sch = s.sch := by
  cases n <;> simp [postOwn]
@[simp] theorem postOwn_lin (n : Option Notice) (s : State) : (postOwn n s).lin = s.lin := by
  cases n <;> simp [postOwn]
@[simp] theorem postOwn_lnk_rx (n : Option Notice) (s : State) : (postOwn n s).lnk.rx = s.lnk.rx := by
  cases n <;> simp [postOwn]
@[simp] theorem postOwn_lnk_backlog (n : Option Notice) (s : State) : (postOwn n s).lnk.backlog = s.lnk.backlog := by
  cases n <;> simp [postOwn]
@[simp] theorem postOwn_lnk_inbound (n : Option Notice) (s : State) : (postOwn n s).lnk.inbound = s.lnk.inbound := by
  cases n <;> simp [postOwn]
@[simp] theorem postOwn_lnk_restartPending (n : Option Notice) (s : State) : (postOwn n s).lnk.restartPending = s.lnk.restartPending := by
  cases n <;> simp [postOwn]
@[simp] theorem postOwn_lnk_seqState (n : Option Notice) (s : State) : (postOwn n s).lnk.seqState = s.lnk.seqState := by
  cases n <;> simp [postOwn]
@[simp] theorem postOwn_lnk_cache (n : Option Notice) (s : State) : (postOwn n s).lnk.cache = s.lnk.cache := by
  cases n <;> simp [postOwn]
@[simp] theorem postOwn_lnk_replies (n : Option Notice) (s : State) : (postOwn n s).lnk.replies = s.lnk.replies := by
  cases n <;> simp [postOwn]
@[simp] theorem postOwn_lnk_counters (n : Option Notice) (s : State) : (postOwn n s).lnk.counters = s.lnk.counters := by
  cases n <;> simp [postOwn]
@[simp] theorem postOwn_lnk_arate (n : Option Notice) (s : State) : (postOwn n s).lnk.arate = s.lnk.arate := by
  cases n <;> simp [postOwn]
@[simp] theorem postOwn_lnk_autoload (n : Option Notice) (s : State) : (postOwn n s).lnk.autoload = s.lnk.autoload := by
  cases n <;> simp [postOwn]
@[simp] theorem postOwn_lnk_startCause (n : Option Notice) (s : State) : (postOwn n s).lnk.startCause = s.lnk.startCause := by
  cases n <;> simp [postOwn]

/-! ## A pass with a notice beside it -/

@[simp] theorem passAround_power (k : Nat) (n : Option Notice) (s : State) : (passAround k n s).power = s.power := by
  simp [passAround]
@[simp] theorem passAround_straps (k : Nat) (n : Option Notice) (s : State) : (passAround k n s).straps = s.straps := by
  simp [passAround]
@[simp] theorem passAround_tmb (k : Nat) (n : Option Notice) (s : State) : (passAround k n s).tmb = s.tmb := by
  simp [passAround]
@[simp] theorem passAround_cap (k : Nat) (n : Option Notice) (s : State) : (passAround k n s).cap = s.cap := by
  simp [passAround]
@[simp] theorem passAround_trg (k : Nat) (n : Option Notice) (s : State) : (passAround k n s).trg = s.trg := by
  simp [passAround]
@[simp] theorem passAround_rds (k : Nat) (n : Option Notice) (s : State) : (passAround k n s).rds = s.rds := by
  simp [passAround]
@[simp] theorem passAround_prs (k : Nat) (n : Option Notice) (s : State) : (passAround k n s).prs = s.prs := by
  simp [passAround]
@[simp] theorem passAround_lsm (k : Nat) (n : Option Notice) (s : State) : (passAround k n s).lsm = s.lsm := by
  simp [passAround]
@[simp] theorem passAround_flash (k : Nat) (n : Option Notice) (s : State) : (passAround k n s).flash = s.flash := by
  simp [passAround]
@[simp] theorem passAround_owed (k : Nat) (n : Option Notice) (s : State) : (passAround k n s).owed = s.owed := by
  simp [passAround]
@[simp] theorem passAround_draws (k : Nat) (n : Option Notice) (s : State) : (passAround k n s).draws = s.draws := by
  simp [passAround]
@[simp] theorem passAround_pending (k : Nat) (n : Option Notice) (s : State) : (passAround k n s).pending = s.pending := by
  simp [passAround]
@[simp] theorem passAround_lnk_rx (k : Nat) (n : Option Notice) (s : State) : (passAround k n s).lnk.rx = s.lnk.rx := by
  simp [passAround]
@[simp] theorem passAround_lnk_backlog (k : Nat) (n : Option Notice) (s : State) : (passAround k n s).lnk.backlog = s.lnk.backlog := by
  simp [passAround]
@[simp] theorem passAround_lnk_inbound (k : Nat) (n : Option Notice) (s : State) : (passAround k n s).lnk.inbound = s.lnk.inbound := by
  simp [passAround]
@[simp] theorem passAround_lnk_restartPending (k : Nat) (n : Option Notice) (s : State) : (passAround k n s).lnk.restartPending = s.lnk.restartPending := by
  simp [passAround]
@[simp] theorem passAround_lnk_seqState (k : Nat) (n : Option Notice) (s : State) : (passAround k n s).lnk.seqState = s.lnk.seqState := by
  simp [passAround]
@[simp] theorem passAround_lnk_cache (k : Nat) (n : Option Notice) (s : State) : (passAround k n s).lnk.cache = s.lnk.cache := by
  simp [passAround]
@[simp] theorem passAround_lnk_replies (k : Nat) (n : Option Notice) (s : State) : (passAround k n s).lnk.replies = s.lnk.replies := by
  simp [passAround]
@[simp] theorem passAround_lnk_counters (k : Nat) (n : Option Notice) (s : State) : (passAround k n s).lnk.counters = s.lnk.counters := by
  simp [passAround]
@[simp] theorem passAround_lnk_arate (k : Nat) (n : Option Notice) (s : State) : (passAround k n s).lnk.arate = s.lnk.arate := by
  simp [passAround]
@[simp] theorem passAround_lnk_autoload (k : Nat) (n : Option Notice) (s : State) : (passAround k n s).lnk.autoload = s.lnk.autoload := by
  simp [passAround]
@[simp] theorem passAround_lnk_startCause (k : Nat) (n : Option Notice) (s : State) : (passAround k n s).lnk.startCause = s.lnk.startCause := by
  simp [passAround]
@[simp] theorem passAround_line_config (k : Nat) (n : Option Notice) (s : State) (i : Nat) (hi : i < 16) :
    ((passAround k n s).lin[i]).config = (s.lin[i]).config := by
  simp [passAround]
@[simp] theorem passAround_line_input (k : Nat) (n : Option Notice) (s : State) (i : Nat) (hi : i < 16) :
    ((passAround k n s).lin[i]).input = (s.lin[i]).input := by
  simp [passAround]
@[simp] theorem passAround_line_glitches (k : Nat) (n : Option Notice) (s : State) (i : Nat) (hi : i < 16) :
    ((passAround k n s).lin[i]).glitches = (s.lin[i]).glitches := by
  simp [passAround]
@[simp] theorem passAround_line_ext (k : Nat) (n : Option Notice) (s : State) (i : Nat) (hi : i < 16) :
    ((passAround k n s).lin[i]).ext = (s.lin[i]).ext := by
  simp [passAround]
@[simp] theorem passAround_sch_hold (k : Nat) (n : Option Notice) (s : State) : (passAround k n s).sch.hold = s.sch.hold := by
  simp [passAround]
@[simp] theorem passAround_sch_tolerance (k : Nat) (n : Option Notice) (s : State) : (passAround k n s).sch.tolerance = s.sch.tolerance := by
  simp [passAround]
@[simp] theorem passAround_sch_lastHandle (k : Nat) (n : Option Notice) (s : State) : (passAround k n s).sch.lastHandle = s.sch.lastHandle := by
  simp [passAround]

/-! ## The removal of a hold reason, with a notice beside it -/

@[simp] theorem removeReasonAround_power (r : HoldReason) (k : Nat) (n : Option Notice) (s : State) : (removeReasonAround r k n s).power = s.power := by
  unfold removeReasonAround; dsimp only; (repeat' split) <;> simp
@[simp] theorem removeReasonAround_straps (r : HoldReason) (k : Nat) (n : Option Notice) (s : State) : (removeReasonAround r k n s).straps = s.straps := by
  unfold removeReasonAround; dsimp only; (repeat' split) <;> simp
@[simp] theorem removeReasonAround_tmb (r : HoldReason) (k : Nat) (n : Option Notice) (s : State) : (removeReasonAround r k n s).tmb = s.tmb := by
  unfold removeReasonAround; dsimp only; (repeat' split) <;> simp
@[simp] theorem removeReasonAround_cap (r : HoldReason) (k : Nat) (n : Option Notice) (s : State) : (removeReasonAround r k n s).cap = s.cap := by
  unfold removeReasonAround; dsimp only; (repeat' split) <;> simp
@[simp] theorem removeReasonAround_trg (r : HoldReason) (k : Nat) (n : Option Notice) (s : State) : (removeReasonAround r k n s).trg = s.trg := by
  unfold removeReasonAround; dsimp only; (repeat' split) <;> simp
@[simp] theorem removeReasonAround_rds (r : HoldReason) (k : Nat) (n : Option Notice) (s : State) : (removeReasonAround r k n s).rds = s.rds := by
  unfold removeReasonAround; dsimp only; (repeat' split) <;> simp
@[simp] theorem removeReasonAround_prs (r : HoldReason) (k : Nat) (n : Option Notice) (s : State) : (removeReasonAround r k n s).prs = s.prs := by
  unfold removeReasonAround; dsimp only; (repeat' split) <;> simp
@[simp] theorem removeReasonAround_lsm (r : HoldReason) (k : Nat) (n : Option Notice) (s : State) : (removeReasonAround r k n s).lsm = s.lsm := by
  unfold removeReasonAround; dsimp only; (repeat' split) <;> simp
@[simp] theorem removeReasonAround_flash (r : HoldReason) (k : Nat) (n : Option Notice) (s : State) : (removeReasonAround r k n s).flash = s.flash := by
  unfold removeReasonAround; dsimp only; (repeat' split) <;> simp
@[simp] theorem removeReasonAround_owed (r : HoldReason) (k : Nat) (n : Option Notice) (s : State) : (removeReasonAround r k n s).owed = s.owed := by
  unfold removeReasonAround; dsimp only; (repeat' split) <;> simp
@[simp] theorem removeReasonAround_draws (r : HoldReason) (k : Nat) (n : Option Notice) (s : State) : (removeReasonAround r k n s).draws = s.draws := by
  unfold removeReasonAround; dsimp only; (repeat' split) <;> simp
@[simp] theorem removeReasonAround_pending (r : HoldReason) (k : Nat) (n : Option Notice) (s : State) : (removeReasonAround r k n s).pending = s.pending := by
  unfold removeReasonAround; dsimp only; (repeat' split) <;> simp
@[simp] theorem removeReasonAround_lnk_rx (r : HoldReason) (k : Nat) (n : Option Notice) (s : State) : (removeReasonAround r k n s).lnk.rx = s.lnk.rx := by
  unfold removeReasonAround; dsimp only; (repeat' split) <;> simp
@[simp] theorem removeReasonAround_lnk_backlog (r : HoldReason) (k : Nat) (n : Option Notice) (s : State) : (removeReasonAround r k n s).lnk.backlog = s.lnk.backlog := by
  unfold removeReasonAround; dsimp only; (repeat' split) <;> simp
@[simp] theorem removeReasonAround_lnk_inbound (r : HoldReason) (k : Nat) (n : Option Notice) (s : State) : (removeReasonAround r k n s).lnk.inbound = s.lnk.inbound := by
  unfold removeReasonAround; dsimp only; (repeat' split) <;> simp
@[simp] theorem removeReasonAround_lnk_restartPending (r : HoldReason) (k : Nat) (n : Option Notice) (s : State) : (removeReasonAround r k n s).lnk.restartPending = s.lnk.restartPending := by
  unfold removeReasonAround; dsimp only; (repeat' split) <;> simp
@[simp] theorem removeReasonAround_lnk_seqState (r : HoldReason) (k : Nat) (n : Option Notice) (s : State) : (removeReasonAround r k n s).lnk.seqState = s.lnk.seqState := by
  unfold removeReasonAround; dsimp only; (repeat' split) <;> simp
@[simp] theorem removeReasonAround_lnk_cache (r : HoldReason) (k : Nat) (n : Option Notice) (s : State) : (removeReasonAround r k n s).lnk.cache = s.lnk.cache := by
  unfold removeReasonAround; dsimp only; (repeat' split) <;> simp
@[simp] theorem removeReasonAround_lnk_replies (r : HoldReason) (k : Nat) (n : Option Notice) (s : State) : (removeReasonAround r k n s).lnk.replies = s.lnk.replies := by
  unfold removeReasonAround; dsimp only; (repeat' split) <;> simp
@[simp] theorem removeReasonAround_lnk_counters (r : HoldReason) (k : Nat) (n : Option Notice) (s : State) : (removeReasonAround r k n s).lnk.counters = s.lnk.counters := by
  unfold removeReasonAround; dsimp only; (repeat' split) <;> simp
@[simp] theorem removeReasonAround_lnk_arate (r : HoldReason) (k : Nat) (n : Option Notice) (s : State) : (removeReasonAround r k n s).lnk.arate = s.lnk.arate := by
  unfold removeReasonAround; dsimp only; (repeat' split) <;> simp
@[simp] theorem removeReasonAround_lnk_autoload (r : HoldReason) (k : Nat) (n : Option Notice) (s : State) : (removeReasonAround r k n s).lnk.autoload = s.lnk.autoload := by
  unfold removeReasonAround; dsimp only; (repeat' split) <;> simp
@[simp] theorem removeReasonAround_lnk_startCause (r : HoldReason) (k : Nat) (n : Option Notice) (s : State) : (removeReasonAround r k n s).lnk.startCause = s.lnk.startCause := by
  unfold removeReasonAround; dsimp only; (repeat' split) <;> simp
@[simp] theorem removeReasonAround_line_config (r : HoldReason) (k : Nat) (n : Option Notice) (s : State) (i : Nat) (hi : i < 16) :
    ((removeReasonAround r k n s).lin[i]).config = (s.lin[i]).config := by
  unfold removeReasonAround; dsimp only; (repeat' split) <;> simp
@[simp] theorem removeReasonAround_line_input (r : HoldReason) (k : Nat) (n : Option Notice) (s : State) (i : Nat) (hi : i < 16) :
    ((removeReasonAround r k n s).lin[i]).input = (s.lin[i]).input := by
  unfold removeReasonAround; dsimp only; (repeat' split) <;> simp
@[simp] theorem removeReasonAround_line_glitches (r : HoldReason) (k : Nat) (n : Option Notice) (s : State) (i : Nat) (hi : i < 16) :
    ((removeReasonAround r k n s).lin[i]).glitches = (s.lin[i]).glitches := by
  unfold removeReasonAround; dsimp only; (repeat' split) <;> simp
@[simp] theorem removeReasonAround_line_ext (r : HoldReason) (k : Nat) (n : Option Notice) (s : State) (i : Nat) (hi : i < 16) :
    ((removeReasonAround r k n s).lin[i]).ext = (s.lin[i]).ext := by
  unfold removeReasonAround; dsimp only; (repeat' split) <;> simp
@[simp] theorem removeReasonAround_sch_tolerance (r : HoldReason) (k : Nat) (n : Option Notice) (s : State) : (removeReasonAround r k n s).sch.tolerance = s.sch.tolerance := by
  unfold removeReasonAround; dsimp only; (repeat' split) <;> simp
@[simp] theorem removeReasonAround_sch_lastHandle (r : HoldReason) (k : Nat) (n : Option Notice) (s : State) : (removeReasonAround r k n s).sch.lastHandle = s.sch.lastHandle := by
  unfold removeReasonAround; dsimp only; (repeat' split) <;> simp

/-! ## The notice of a discarded entry -/

@[simp] theorem postDiscard_power (e : Entry) (s : State) : (postDiscard e s).power = s.power := by
  unfold postDiscard; split <;> simp
@[simp] theorem postDiscard_straps (e : Entry) (s : State) : (postDiscard e s).straps = s.straps := by
  unfold postDiscard; split <;> simp
@[simp] theorem postDiscard_tmb (e : Entry) (s : State) : (postDiscard e s).tmb = s.tmb := by
  unfold postDiscard; split <;> simp
@[simp] theorem postDiscard_cap (e : Entry) (s : State) : (postDiscard e s).cap = s.cap := by
  unfold postDiscard; split <;> simp
@[simp] theorem postDiscard_trg (e : Entry) (s : State) : (postDiscard e s).trg = s.trg := by
  unfold postDiscard; split <;> simp
@[simp] theorem postDiscard_rds (e : Entry) (s : State) : (postDiscard e s).rds = s.rds := by
  unfold postDiscard; split <;> simp
@[simp] theorem postDiscard_prs (e : Entry) (s : State) : (postDiscard e s).prs = s.prs := by
  unfold postDiscard; split <;> simp
@[simp] theorem postDiscard_lsm (e : Entry) (s : State) : (postDiscard e s).lsm = s.lsm := by
  unfold postDiscard; split <;> simp
@[simp] theorem postDiscard_flash (e : Entry) (s : State) : (postDiscard e s).flash = s.flash := by
  unfold postDiscard; split <;> simp
@[simp] theorem postDiscard_owed (e : Entry) (s : State) : (postDiscard e s).owed = s.owed := by
  unfold postDiscard; split <;> simp
@[simp] theorem postDiscard_draws (e : Entry) (s : State) : (postDiscard e s).draws = s.draws := by
  unfold postDiscard; split <;> simp
@[simp] theorem postDiscard_pending (e : Entry) (s : State) : (postDiscard e s).pending = s.pending := by
  unfold postDiscard; split <;> simp
@[simp] theorem postDiscard_sch (e : Entry) (s : State) : (postDiscard e s).sch = s.sch := by
  unfold postDiscard; split <;> simp
@[simp] theorem postDiscard_lin (e : Entry) (s : State) : (postDiscard e s).lin = s.lin := by
  unfold postDiscard; split <;> simp
@[simp] theorem postDiscard_lnk_rx (e : Entry) (s : State) : (postDiscard e s).lnk.rx = s.lnk.rx := by
  unfold postDiscard; split <;> simp
@[simp] theorem postDiscard_lnk_backlog (e : Entry) (s : State) : (postDiscard e s).lnk.backlog = s.lnk.backlog := by
  unfold postDiscard; split <;> simp
@[simp] theorem postDiscard_lnk_inbound (e : Entry) (s : State) : (postDiscard e s).lnk.inbound = s.lnk.inbound := by
  unfold postDiscard; split <;> simp
@[simp] theorem postDiscard_lnk_restartPending (e : Entry) (s : State) : (postDiscard e s).lnk.restartPending = s.lnk.restartPending := by
  unfold postDiscard; split <;> simp
@[simp] theorem postDiscard_lnk_seqState (e : Entry) (s : State) : (postDiscard e s).lnk.seqState = s.lnk.seqState := by
  unfold postDiscard; split <;> simp
@[simp] theorem postDiscard_lnk_cache (e : Entry) (s : State) : (postDiscard e s).lnk.cache = s.lnk.cache := by
  unfold postDiscard; split <;> simp
@[simp] theorem postDiscard_lnk_replies (e : Entry) (s : State) : (postDiscard e s).lnk.replies = s.lnk.replies := by
  unfold postDiscard; split <;> simp
@[simp] theorem postDiscard_lnk_counters (e : Entry) (s : State) : (postDiscard e s).lnk.counters = s.lnk.counters := by
  unfold postDiscard; split <;> simp
@[simp] theorem postDiscard_lnk_arate (e : Entry) (s : State) : (postDiscard e s).lnk.arate = s.lnk.arate := by
  unfold postDiscard; split <;> simp
@[simp] theorem postDiscard_lnk_autoload (e : Entry) (s : State) : (postDiscard e s).lnk.autoload = s.lnk.autoload := by
  unfold postDiscard; split <;> simp
@[simp] theorem postDiscard_lnk_startCause (e : Entry) (s : State) : (postDiscard e s).lnk.startCause = s.lnk.startCause := by
  unfold postDiscard; split <;> simp

/-! ## The notices of discarded entries -/

@[simp] theorem postDiscards_power (es : List Entry) (s : State) : (postDiscards es s).power = s.power := by
  unfold postDiscards
  induction es generalizing s with
  | nil => rfl
  | cons e es ih => rw [List.foldl_cons, ih]; simp
@[simp] theorem postDiscards_straps (es : List Entry) (s : State) : (postDiscards es s).straps = s.straps := by
  unfold postDiscards
  induction es generalizing s with
  | nil => rfl
  | cons e es ih => rw [List.foldl_cons, ih]; simp
@[simp] theorem postDiscards_tmb (es : List Entry) (s : State) : (postDiscards es s).tmb = s.tmb := by
  unfold postDiscards
  induction es generalizing s with
  | nil => rfl
  | cons e es ih => rw [List.foldl_cons, ih]; simp
@[simp] theorem postDiscards_cap (es : List Entry) (s : State) : (postDiscards es s).cap = s.cap := by
  unfold postDiscards
  induction es generalizing s with
  | nil => rfl
  | cons e es ih => rw [List.foldl_cons, ih]; simp
@[simp] theorem postDiscards_trg (es : List Entry) (s : State) : (postDiscards es s).trg = s.trg := by
  unfold postDiscards
  induction es generalizing s with
  | nil => rfl
  | cons e es ih => rw [List.foldl_cons, ih]; simp
@[simp] theorem postDiscards_rds (es : List Entry) (s : State) : (postDiscards es s).rds = s.rds := by
  unfold postDiscards
  induction es generalizing s with
  | nil => rfl
  | cons e es ih => rw [List.foldl_cons, ih]; simp
@[simp] theorem postDiscards_prs (es : List Entry) (s : State) : (postDiscards es s).prs = s.prs := by
  unfold postDiscards
  induction es generalizing s with
  | nil => rfl
  | cons e es ih => rw [List.foldl_cons, ih]; simp
@[simp] theorem postDiscards_lsm (es : List Entry) (s : State) : (postDiscards es s).lsm = s.lsm := by
  unfold postDiscards
  induction es generalizing s with
  | nil => rfl
  | cons e es ih => rw [List.foldl_cons, ih]; simp
@[simp] theorem postDiscards_flash (es : List Entry) (s : State) : (postDiscards es s).flash = s.flash := by
  unfold postDiscards
  induction es generalizing s with
  | nil => rfl
  | cons e es ih => rw [List.foldl_cons, ih]; simp
@[simp] theorem postDiscards_owed (es : List Entry) (s : State) : (postDiscards es s).owed = s.owed := by
  unfold postDiscards
  induction es generalizing s with
  | nil => rfl
  | cons e es ih => rw [List.foldl_cons, ih]; simp
@[simp] theorem postDiscards_draws (es : List Entry) (s : State) : (postDiscards es s).draws = s.draws := by
  unfold postDiscards
  induction es generalizing s with
  | nil => rfl
  | cons e es ih => rw [List.foldl_cons, ih]; simp
@[simp] theorem postDiscards_pending (es : List Entry) (s : State) : (postDiscards es s).pending = s.pending := by
  unfold postDiscards
  induction es generalizing s with
  | nil => rfl
  | cons e es ih => rw [List.foldl_cons, ih]; simp
@[simp] theorem postDiscards_sch (es : List Entry) (s : State) : (postDiscards es s).sch = s.sch := by
  unfold postDiscards
  induction es generalizing s with
  | nil => rfl
  | cons e es ih => rw [List.foldl_cons, ih]; simp
@[simp] theorem postDiscards_lin (es : List Entry) (s : State) : (postDiscards es s).lin = s.lin := by
  unfold postDiscards
  induction es generalizing s with
  | nil => rfl
  | cons e es ih => rw [List.foldl_cons, ih]; simp
@[simp] theorem postDiscards_lnk_rx (es : List Entry) (s : State) : (postDiscards es s).lnk.rx = s.lnk.rx := by
  unfold postDiscards
  induction es generalizing s with
  | nil => rfl
  | cons e es ih => rw [List.foldl_cons, ih]; simp
@[simp] theorem postDiscards_lnk_backlog (es : List Entry) (s : State) : (postDiscards es s).lnk.backlog = s.lnk.backlog := by
  unfold postDiscards
  induction es generalizing s with
  | nil => rfl
  | cons e es ih => rw [List.foldl_cons, ih]; simp
@[simp] theorem postDiscards_lnk_inbound (es : List Entry) (s : State) : (postDiscards es s).lnk.inbound = s.lnk.inbound := by
  unfold postDiscards
  induction es generalizing s with
  | nil => rfl
  | cons e es ih => rw [List.foldl_cons, ih]; simp
@[simp] theorem postDiscards_lnk_restartPending (es : List Entry) (s : State) : (postDiscards es s).lnk.restartPending = s.lnk.restartPending := by
  unfold postDiscards
  induction es generalizing s with
  | nil => rfl
  | cons e es ih => rw [List.foldl_cons, ih]; simp
@[simp] theorem postDiscards_lnk_seqState (es : List Entry) (s : State) : (postDiscards es s).lnk.seqState = s.lnk.seqState := by
  unfold postDiscards
  induction es generalizing s with
  | nil => rfl
  | cons e es ih => rw [List.foldl_cons, ih]; simp
@[simp] theorem postDiscards_lnk_cache (es : List Entry) (s : State) : (postDiscards es s).lnk.cache = s.lnk.cache := by
  unfold postDiscards
  induction es generalizing s with
  | nil => rfl
  | cons e es ih => rw [List.foldl_cons, ih]; simp
@[simp] theorem postDiscards_lnk_replies (es : List Entry) (s : State) : (postDiscards es s).lnk.replies = s.lnk.replies := by
  unfold postDiscards
  induction es generalizing s with
  | nil => rfl
  | cons e es ih => rw [List.foldl_cons, ih]; simp
@[simp] theorem postDiscards_lnk_counters (es : List Entry) (s : State) : (postDiscards es s).lnk.counters = s.lnk.counters := by
  unfold postDiscards
  induction es generalizing s with
  | nil => rfl
  | cons e es ih => rw [List.foldl_cons, ih]; simp
@[simp] theorem postDiscards_lnk_arate (es : List Entry) (s : State) : (postDiscards es s).lnk.arate = s.lnk.arate := by
  unfold postDiscards
  induction es generalizing s with
  | nil => rfl
  | cons e es ih => rw [List.foldl_cons, ih]; simp
@[simp] theorem postDiscards_lnk_autoload (es : List Entry) (s : State) : (postDiscards es s).lnk.autoload = s.lnk.autoload := by
  unfold postDiscards
  induction es generalizing s with
  | nil => rfl
  | cons e es ih => rw [List.foldl_cons, ih]; simp
@[simp] theorem postDiscards_lnk_startCause (es : List Entry) (s : State) : (postDiscards es s).lnk.startCause = s.lnk.startCause := by
  unfold postDiscards
  induction es generalizing s with
  | nil => rfl
  | cons e es ih => rw [List.foldl_cons, ih]; simp

/-! ## The Scheduler's part in a step -/

@[simp] theorem schedStep_power (old new k : Nat) (n : Option Notice) (f : Bool) (s : State) : (schedStep old new k n f s).power = s.power := by
  unfold schedStep; dsimp only; (repeat' split) <;> simp
@[simp] theorem schedStep_straps (old new k : Nat) (n : Option Notice) (f : Bool) (s : State) : (schedStep old new k n f s).straps = s.straps := by
  unfold schedStep; dsimp only; (repeat' split) <;> simp
@[simp] theorem schedStep_tmb (old new k : Nat) (n : Option Notice) (f : Bool) (s : State) : (schedStep old new k n f s).tmb = s.tmb := by
  unfold schedStep; dsimp only; (repeat' split) <;> simp
@[simp] theorem schedStep_cap (old new k : Nat) (n : Option Notice) (f : Bool) (s : State) : (schedStep old new k n f s).cap = s.cap := by
  unfold schedStep; dsimp only; (repeat' split) <;> simp
@[simp] theorem schedStep_trg (old new k : Nat) (n : Option Notice) (f : Bool) (s : State) : (schedStep old new k n f s).trg = s.trg := by
  unfold schedStep; dsimp only; (repeat' split) <;> simp
@[simp] theorem schedStep_rds (old new k : Nat) (n : Option Notice) (f : Bool) (s : State) : (schedStep old new k n f s).rds = s.rds := by
  unfold schedStep; dsimp only; (repeat' split) <;> simp
@[simp] theorem schedStep_prs (old new k : Nat) (n : Option Notice) (f : Bool) (s : State) : (schedStep old new k n f s).prs = s.prs := by
  unfold schedStep; dsimp only; (repeat' split) <;> simp
@[simp] theorem schedStep_lsm (old new k : Nat) (n : Option Notice) (f : Bool) (s : State) : (schedStep old new k n f s).lsm = s.lsm := by
  unfold schedStep; dsimp only; (repeat' split) <;> simp
@[simp] theorem schedStep_flash (old new k : Nat) (n : Option Notice) (f : Bool) (s : State) : (schedStep old new k n f s).flash = s.flash := by
  unfold schedStep; dsimp only; (repeat' split) <;> simp
@[simp] theorem schedStep_owed (old new k : Nat) (n : Option Notice) (f : Bool) (s : State) : (schedStep old new k n f s).owed = s.owed := by
  unfold schedStep; dsimp only; (repeat' split) <;> simp
@[simp] theorem schedStep_draws (old new k : Nat) (n : Option Notice) (f : Bool) (s : State) : (schedStep old new k n f s).draws = s.draws := by
  unfold schedStep; dsimp only; (repeat' split) <;> simp
@[simp] theorem schedStep_pending (old new k : Nat) (n : Option Notice) (f : Bool) (s : State) : (schedStep old new k n f s).pending = s.pending := by
  unfold schedStep; dsimp only; (repeat' split) <;> simp
@[simp] theorem schedStep_lnk_rx (old new k : Nat) (n : Option Notice) (f : Bool) (s : State) : (schedStep old new k n f s).lnk.rx = s.lnk.rx := by
  unfold schedStep; dsimp only; (repeat' split) <;> simp
@[simp] theorem schedStep_lnk_backlog (old new k : Nat) (n : Option Notice) (f : Bool) (s : State) : (schedStep old new k n f s).lnk.backlog = s.lnk.backlog := by
  unfold schedStep; dsimp only; (repeat' split) <;> simp
@[simp] theorem schedStep_lnk_inbound (old new k : Nat) (n : Option Notice) (f : Bool) (s : State) : (schedStep old new k n f s).lnk.inbound = s.lnk.inbound := by
  unfold schedStep; dsimp only; (repeat' split) <;> simp
@[simp] theorem schedStep_lnk_restartPending (old new k : Nat) (n : Option Notice) (f : Bool) (s : State) : (schedStep old new k n f s).lnk.restartPending = s.lnk.restartPending := by
  unfold schedStep; dsimp only; (repeat' split) <;> simp
@[simp] theorem schedStep_lnk_seqState (old new k : Nat) (n : Option Notice) (f : Bool) (s : State) : (schedStep old new k n f s).lnk.seqState = s.lnk.seqState := by
  unfold schedStep; dsimp only; (repeat' split) <;> simp
@[simp] theorem schedStep_lnk_cache (old new k : Nat) (n : Option Notice) (f : Bool) (s : State) : (schedStep old new k n f s).lnk.cache = s.lnk.cache := by
  unfold schedStep; dsimp only; (repeat' split) <;> simp
@[simp] theorem schedStep_lnk_replies (old new k : Nat) (n : Option Notice) (f : Bool) (s : State) : (schedStep old new k n f s).lnk.replies = s.lnk.replies := by
  unfold schedStep; dsimp only; (repeat' split) <;> simp
@[simp] theorem schedStep_lnk_counters (old new k : Nat) (n : Option Notice) (f : Bool) (s : State) : (schedStep old new k n f s).lnk.counters = s.lnk.counters := by
  unfold schedStep; dsimp only; (repeat' split) <;> simp
@[simp] theorem schedStep_lnk_arate (old new k : Nat) (n : Option Notice) (f : Bool) (s : State) : (schedStep old new k n f s).lnk.arate = s.lnk.arate := by
  unfold schedStep; dsimp only; (repeat' split) <;> simp
@[simp] theorem schedStep_lnk_autoload (old new k : Nat) (n : Option Notice) (f : Bool) (s : State) : (schedStep old new k n f s).lnk.autoload = s.lnk.autoload := by
  unfold schedStep; dsimp only; (repeat' split) <;> simp
@[simp] theorem schedStep_lnk_startCause (old new k : Nat) (n : Option Notice) (f : Bool) (s : State) : (schedStep old new k n f s).lnk.startCause = s.lnk.startCause := by
  unfold schedStep; dsimp only; (repeat' split) <;> simp
@[simp] theorem schedStep_line_config (old new k : Nat) (n : Option Notice) (f : Bool) (s : State) (i : Nat) (hi : i < 16) :
    ((schedStep old new k n f s).lin[i]).config = (s.lin[i]).config := by
  unfold schedStep; dsimp only; (repeat' split) <;> simp
@[simp] theorem schedStep_line_input (old new k : Nat) (n : Option Notice) (f : Bool) (s : State) (i : Nat) (hi : i < 16) :
    ((schedStep old new k n f s).lin[i]).input = (s.lin[i]).input := by
  unfold schedStep; dsimp only; (repeat' split) <;> simp
@[simp] theorem schedStep_line_glitches (old new k : Nat) (n : Option Notice) (f : Bool) (s : State) (i : Nat) (hi : i < 16) :
    ((schedStep old new k n f s).lin[i]).glitches = (s.lin[i]).glitches := by
  unfold schedStep; dsimp only; (repeat' split) <;> simp
@[simp] theorem schedStep_line_ext (old new k : Nat) (n : Option Notice) (f : Bool) (s : State) (i : Nat) (hi : i < 16) :
    ((schedStep old new k n f s).lin[i]).ext = (s.lin[i]).ext := by
  unfold schedStep; dsimp only; (repeat' split) <;> simp
@[simp] theorem schedStep_sch_tolerance (old new k : Nat) (n : Option Notice) (f : Bool) (s : State) : (schedStep old new k n f s).sch.tolerance = s.sch.tolerance := by
  unfold schedStep; dsimp only; (repeat' split) <;> simp
@[simp] theorem schedStep_sch_lastHandle (old new k : Nat) (n : Option Notice) (f : Bool) (s : State) : (schedStep old new k n f s).sch.lastHandle = s.sch.lastHandle := by
  unfold schedStep; dsimp only; (repeat' split) <;> simp

@[simp] theorem schedStep_sch_hold (old new k : Nat) (n : Option Notice) (f : Bool) (s : State) :
    (schedStep old new k n f s).sch.hold = if f then s.sch.hold.put .notime false else s.sch.hold := by
  unfold schedStep; dsimp only; (repeat' split) <;> simp_all

/-! ## A change of validity -/

@[simp] theorem setValidity_power (v : Validity) (c : ValidityCause) (k : Nat) (s : State) : (setValidity v c k s).power = s.power := by
  unfold setValidity addReason; dsimp only; (repeat' split) <;> simp
@[simp] theorem setValidity_straps (v : Validity) (c : ValidityCause) (k : Nat) (s : State) : (setValidity v c k s).straps = s.straps := by
  unfold setValidity addReason; dsimp only; (repeat' split) <;> simp
@[simp] theorem setValidity_cap (v : Validity) (c : ValidityCause) (k : Nat) (s : State) : (setValidity v c k s).cap = s.cap := by
  unfold setValidity addReason; dsimp only; (repeat' split) <;> simp
@[simp] theorem setValidity_trg (v : Validity) (c : ValidityCause) (k : Nat) (s : State) : (setValidity v c k s).trg = s.trg := by
  unfold setValidity addReason; dsimp only; (repeat' split) <;> simp
@[simp] theorem setValidity_rds (v : Validity) (c : ValidityCause) (k : Nat) (s : State) : (setValidity v c k s).rds = s.rds := by
  unfold setValidity addReason; dsimp only; (repeat' split) <;> simp
@[simp] theorem setValidity_prs (v : Validity) (c : ValidityCause) (k : Nat) (s : State) : (setValidity v c k s).prs = s.prs := by
  unfold setValidity addReason; dsimp only; (repeat' split) <;> simp
@[simp] theorem setValidity_lsm (v : Validity) (c : ValidityCause) (k : Nat) (s : State) : (setValidity v c k s).lsm = s.lsm := by
  unfold setValidity addReason; dsimp only; (repeat' split) <;> simp
@[simp] theorem setValidity_flash (v : Validity) (c : ValidityCause) (k : Nat) (s : State) : (setValidity v c k s).flash = s.flash := by
  unfold setValidity addReason; dsimp only; (repeat' split) <;> simp
@[simp] theorem setValidity_owed (v : Validity) (c : ValidityCause) (k : Nat) (s : State) : (setValidity v c k s).owed = s.owed := by
  unfold setValidity addReason; dsimp only; (repeat' split) <;> simp
@[simp] theorem setValidity_draws (v : Validity) (c : ValidityCause) (k : Nat) (s : State) : (setValidity v c k s).draws = s.draws := by
  unfold setValidity addReason; dsimp only; (repeat' split) <;> simp
@[simp] theorem setValidity_pending (v : Validity) (c : ValidityCause) (k : Nat) (s : State) : (setValidity v c k s).pending = s.pending := by
  unfold setValidity addReason; dsimp only; (repeat' split) <;> simp
@[simp] theorem setValidity_lnk_rx (v : Validity) (c : ValidityCause) (k : Nat) (s : State) : (setValidity v c k s).lnk.rx = s.lnk.rx := by
  unfold setValidity addReason; dsimp only; (repeat' split) <;> simp
@[simp] theorem setValidity_lnk_backlog (v : Validity) (c : ValidityCause) (k : Nat) (s : State) : (setValidity v c k s).lnk.backlog = s.lnk.backlog := by
  unfold setValidity addReason; dsimp only; (repeat' split) <;> simp
@[simp] theorem setValidity_lnk_inbound (v : Validity) (c : ValidityCause) (k : Nat) (s : State) : (setValidity v c k s).lnk.inbound = s.lnk.inbound := by
  unfold setValidity addReason; dsimp only; (repeat' split) <;> simp
@[simp] theorem setValidity_lnk_restartPending (v : Validity) (c : ValidityCause) (k : Nat) (s : State) : (setValidity v c k s).lnk.restartPending = s.lnk.restartPending := by
  unfold setValidity addReason; dsimp only; (repeat' split) <;> simp
@[simp] theorem setValidity_lnk_seqState (v : Validity) (c : ValidityCause) (k : Nat) (s : State) : (setValidity v c k s).lnk.seqState = s.lnk.seqState := by
  unfold setValidity addReason; dsimp only; (repeat' split) <;> simp
@[simp] theorem setValidity_lnk_cache (v : Validity) (c : ValidityCause) (k : Nat) (s : State) : (setValidity v c k s).lnk.cache = s.lnk.cache := by
  unfold setValidity addReason; dsimp only; (repeat' split) <;> simp
@[simp] theorem setValidity_lnk_replies (v : Validity) (c : ValidityCause) (k : Nat) (s : State) : (setValidity v c k s).lnk.replies = s.lnk.replies := by
  unfold setValidity addReason; dsimp only; (repeat' split) <;> simp
@[simp] theorem setValidity_lnk_counters (v : Validity) (c : ValidityCause) (k : Nat) (s : State) : (setValidity v c k s).lnk.counters = s.lnk.counters := by
  unfold setValidity addReason; dsimp only; (repeat' split) <;> simp
@[simp] theorem setValidity_lnk_arate (v : Validity) (c : ValidityCause) (k : Nat) (s : State) : (setValidity v c k s).lnk.arate = s.lnk.arate := by
  unfold setValidity addReason; dsimp only; (repeat' split) <;> simp
@[simp] theorem setValidity_lnk_autoload (v : Validity) (c : ValidityCause) (k : Nat) (s : State) : (setValidity v c k s).lnk.autoload = s.lnk.autoload := by
  unfold setValidity addReason; dsimp only; (repeat' split) <;> simp
@[simp] theorem setValidity_lnk_startCause (v : Validity) (c : ValidityCause) (k : Nat) (s : State) : (setValidity v c k s).lnk.startCause = s.lnk.startCause := by
  unfold setValidity addReason; dsimp only; (repeat' split) <;> simp
@[simp] theorem setValidity_line_config (v : Validity) (c : ValidityCause) (k : Nat) (s : State) (i : Nat) (hi : i < 16) :
    ((setValidity v c k s).lin[i]).config = (s.lin[i]).config := by
  unfold setValidity addReason; dsimp only; (repeat' split) <;> simp
@[simp] theorem setValidity_line_input (v : Validity) (c : ValidityCause) (k : Nat) (s : State) (i : Nat) (hi : i < 16) :
    ((setValidity v c k s).lin[i]).input = (s.lin[i]).input := by
  unfold setValidity addReason; dsimp only; (repeat' split) <;> simp
@[simp] theorem setValidity_line_glitches (v : Validity) (c : ValidityCause) (k : Nat) (s : State) (i : Nat) (hi : i < 16) :
    ((setValidity v c k s).lin[i]).glitches = (s.lin[i]).glitches := by
  unfold setValidity addReason; dsimp only; (repeat' split) <;> simp
@[simp] theorem setValidity_line_ext (v : Validity) (c : ValidityCause) (k : Nat) (s : State) (i : Nat) (hi : i < 16) :
    ((setValidity v c k s).lin[i]).ext = (s.lin[i]).ext := by
  unfold setValidity addReason; dsimp only; (repeat' split) <;> simp
@[simp] theorem setValidity_sch_tolerance (v : Validity) (c : ValidityCause) (k : Nat) (s : State) : (setValidity v c k s).sch.tolerance = s.sch.tolerance := by
  unfold setValidity addReason; dsimp only; (repeat' split) <;> simp
@[simp] theorem setValidity_sch_lastHandle (v : Validity) (c : ValidityCause) (k : Nat) (s : State) : (setValidity v c k s).sch.lastHandle = s.sch.lastHandle := by
  unfold setValidity addReason; dsimp only; (repeat' split) <;> simp

/-- The Time Base after a change of validity: the validity alone. -/
@[simp] theorem setValidity_tmb (v : Validity) (c : ValidityCause) (k : Nat) (s : State) :
    (setValidity v c k s).tmb = { s.tmb with validity := v } := by
  unfold setValidity addReason
  dsimp only
  split
  · rename_i h; rw [h]
  · split
    · simp
    · split <;> simp

/-! ## A step and the change of validity that comes with it -/

@[simp] theorem stepWith_power (new : Instant) (c : StepCause) (d : Option ValidityChange) (k : Nat) (s : State) : (stepWith new c d k s).power = s.power := by
  unfold stepWith refStepEvent; simp
@[simp] theorem stepWith_straps (new : Instant) (c : StepCause) (d : Option ValidityChange) (k : Nat) (s : State) : (stepWith new c d k s).straps = s.straps := by
  unfold stepWith refStepEvent; simp
@[simp] theorem stepWith_cap (new : Instant) (c : StepCause) (d : Option ValidityChange) (k : Nat) (s : State) : (stepWith new c d k s).cap = s.cap := by
  unfold stepWith refStepEvent; simp
@[simp] theorem stepWith_trg (new : Instant) (c : StepCause) (d : Option ValidityChange) (k : Nat) (s : State) : (stepWith new c d k s).trg = s.trg := by
  unfold stepWith refStepEvent; simp
@[simp] theorem stepWith_prs (new : Instant) (c : StepCause) (d : Option ValidityChange) (k : Nat) (s : State) : (stepWith new c d k s).prs = s.prs := by
  unfold stepWith refStepEvent; simp
@[simp] theorem stepWith_lsm (new : Instant) (c : StepCause) (d : Option ValidityChange) (k : Nat) (s : State) : (stepWith new c d k s).lsm = s.lsm := by
  unfold stepWith refStepEvent; simp
@[simp] theorem stepWith_flash (new : Instant) (c : StepCause) (d : Option ValidityChange) (k : Nat) (s : State) : (stepWith new c d k s).flash = s.flash := by
  unfold stepWith refStepEvent; simp
@[simp] theorem stepWith_owed (new : Instant) (c : StepCause) (d : Option ValidityChange) (k : Nat) (s : State) : (stepWith new c d k s).owed = s.owed := by
  unfold stepWith refStepEvent; simp
@[simp] theorem stepWith_draws (new : Instant) (c : StepCause) (d : Option ValidityChange) (k : Nat) (s : State) : (stepWith new c d k s).draws = s.draws := by
  unfold stepWith refStepEvent; simp
@[simp] theorem stepWith_pending (new : Instant) (c : StepCause) (d : Option ValidityChange) (k : Nat) (s : State) : (stepWith new c d k s).pending = s.pending := by
  unfold stepWith refStepEvent; simp
@[simp] theorem stepWith_lnk_rx (new : Instant) (c : StepCause) (d : Option ValidityChange) (k : Nat) (s : State) : (stepWith new c d k s).lnk.rx = s.lnk.rx := by
  unfold stepWith refStepEvent; simp
@[simp] theorem stepWith_lnk_backlog (new : Instant) (c : StepCause) (d : Option ValidityChange) (k : Nat) (s : State) : (stepWith new c d k s).lnk.backlog = s.lnk.backlog := by
  unfold stepWith refStepEvent; simp
@[simp] theorem stepWith_lnk_inbound (new : Instant) (c : StepCause) (d : Option ValidityChange) (k : Nat) (s : State) : (stepWith new c d k s).lnk.inbound = s.lnk.inbound := by
  unfold stepWith refStepEvent; simp
@[simp] theorem stepWith_lnk_restartPending (new : Instant) (c : StepCause) (d : Option ValidityChange) (k : Nat) (s : State) : (stepWith new c d k s).lnk.restartPending = s.lnk.restartPending := by
  unfold stepWith refStepEvent; simp
@[simp] theorem stepWith_lnk_seqState (new : Instant) (c : StepCause) (d : Option ValidityChange) (k : Nat) (s : State) : (stepWith new c d k s).lnk.seqState = s.lnk.seqState := by
  unfold stepWith refStepEvent; simp
@[simp] theorem stepWith_lnk_cache (new : Instant) (c : StepCause) (d : Option ValidityChange) (k : Nat) (s : State) : (stepWith new c d k s).lnk.cache = s.lnk.cache := by
  unfold stepWith refStepEvent; simp
@[simp] theorem stepWith_lnk_replies (new : Instant) (c : StepCause) (d : Option ValidityChange) (k : Nat) (s : State) : (stepWith new c d k s).lnk.replies = s.lnk.replies := by
  unfold stepWith refStepEvent; simp
@[simp] theorem stepWith_lnk_counters (new : Instant) (c : StepCause) (d : Option ValidityChange) (k : Nat) (s : State) : (stepWith new c d k s).lnk.counters = s.lnk.counters := by
  unfold stepWith refStepEvent; simp
@[simp] theorem stepWith_lnk_arate (new : Instant) (c : StepCause) (d : Option ValidityChange) (k : Nat) (s : State) : (stepWith new c d k s).lnk.arate = s.lnk.arate := by
  unfold stepWith refStepEvent; simp
@[simp] theorem stepWith_lnk_autoload (new : Instant) (c : StepCause) (d : Option ValidityChange) (k : Nat) (s : State) : (stepWith new c d k s).lnk.autoload = s.lnk.autoload := by
  unfold stepWith refStepEvent; simp
@[simp] theorem stepWith_lnk_startCause (new : Instant) (c : StepCause) (d : Option ValidityChange) (k : Nat) (s : State) : (stepWith new c d k s).lnk.startCause = s.lnk.startCause := by
  unfold stepWith refStepEvent; simp
@[simp] theorem stepWith_line_config (new : Instant) (c : StepCause) (d : Option ValidityChange) (k : Nat) (s : State) (i : Nat) (hi : i < 16) :
    ((stepWith new c d k s).lin[i]).config = (s.lin[i]).config := by
  unfold stepWith refStepEvent; simp
@[simp] theorem stepWith_line_input (new : Instant) (c : StepCause) (d : Option ValidityChange) (k : Nat) (s : State) (i : Nat) (hi : i < 16) :
    ((stepWith new c d k s).lin[i]).input = (s.lin[i]).input := by
  unfold stepWith refStepEvent; simp
@[simp] theorem stepWith_line_glitches (new : Instant) (c : StepCause) (d : Option ValidityChange) (k : Nat) (s : State) (i : Nat) (hi : i < 16) :
    ((stepWith new c d k s).lin[i]).glitches = (s.lin[i]).glitches := by
  unfold stepWith refStepEvent; simp
@[simp] theorem stepWith_line_ext (new : Instant) (c : StepCause) (d : Option ValidityChange) (k : Nat) (s : State) (i : Nat) (hi : i < 16) :
    ((stepWith new c d k s).lin[i]).ext = (s.lin[i]).ext := by
  unfold stepWith refStepEvent; simp
@[simp] theorem stepWith_sch_tolerance (new : Instant) (c : StepCause) (d : Option ValidityChange) (k : Nat) (s : State) : (stepWith new c d k s).sch.tolerance = s.sch.tolerance := by
  unfold stepWith refStepEvent; simp
@[simp] theorem stepWith_sch_lastHandle (new : Instant) (c : StepCause) (d : Option ValidityChange) (k : Nat) (s : State) : (stepWith new c d k s).sch.lastHandle = s.sch.lastHandle := by
  unfold stepWith refStepEvent; simp

/-- The Time Base after a step (R15). -/
@[simp] theorem stepWith_tmb (new : Instant) (c : StepCause) (d : Option ValidityChange) (k : Nat) (s : State) :
    (stepWith new c d k s).tmb = s.tmb.stepped new d := by
  unfold stepWith refStepEvent; simp

/-- A step ends the outlier run and leaves the rest of the Reference Discipline (R123). -/
@[simp] theorem stepWith_rds (new : Instant) (c : StepCause) (d : Option ValidityChange) (k : Nat) (s : State) :
    (stepWith new c d k s).rds = { s.rds with run := 0 } := by
  unfold stepWith refStepEvent; simp

/-- A step takes NOTIME out of the set exactly where its operation takes the validity out of UNSET (R15, R41). -/
theorem stepWith_sch_hold (new : Instant) (c : StepCause) (d : Option ValidityChange) (k : Nat) (s : State) :
    (stepWith new c d k s).sch.hold =
      if s.tmb.validity = .unset ∧ (s.tmb.stepped new d).validity ≠ .unset then s.sch.hold.put .notime false else s.sch.hold := by
  unfold stepWith refStepEvent; simp

/-- The Time Base after a step that leaves the validity: the instant, the generation and the slew (R15). -/
@[simp] theorem makeStep_tmb (new : Instant) (c : StepCause) (s : State) :
    (makeStep new c s).tmb = { s.tmb with instant := new, generation := s.tmb.generation + 1, slew := 0 } := by
  simp [makeStep, Tmb.stepped]

end Sys2Proof.Machine
end

