-- ==== Sys2Proof/Laws/Memory.lean ====
section
/-! SUPPORT. The flash as a memory: what a write reads back as, that it leaves every other address alone, and that every
operation keeps the canonical form. -/

namespace Sys2Proof.Machine

theorem Memory.wfFrom_mono {m : List Host.Cell} {lo hi : Nat} (h : Memory.wfFrom hi m = true) (le : lo ≤ hi) :
    Memory.wfFrom lo m = true := by
  cases m with
  | nil => rfl
  | cons c m =>
    obtain ⟨a, b⟩ := c
    simp only [Memory.wfFrom, Bool.and_eq_true, decide_eq_true_eq] at h ⊢
    exact ⟨⟨by omega, h.1.2⟩, h.2⟩

/-- Below its first address a canonical memory reads as erased. -/
theorem Memory.read_below {m : List Host.Cell} {lo x : Nat} (h : Memory.wfFrom lo m = true) (hx : x < lo) :
    Memory.read m x = erased := by
  induction m generalizing lo with
  | nil => rfl
  | cons c m ih =>
    obtain ⟨a, b⟩ := c
    simp only [Memory.wfFrom, Bool.and_eq_true, decide_eq_true_eq] at h
    simp only [Memory.read, if_neg (show ¬a = x by omega)]
    exact ih h.2 (by omega)

theorem Memory.write_wfFrom {m : List Host.Cell} {lo x : Nat} (b : Byte) (h : Memory.wfFrom lo m = true) (hx : lo ≤ x) :
    Memory.wfFrom lo (Memory.write m x b) = true := by
  induction m generalizing lo with
  | nil =>
    by_cases hb : b = erased <;> simp [Memory.write, Memory.wfFrom, hb, hx]
  | cons c m ih =>
    obtain ⟨a, d⟩ := c
    have h0 := h
    simp only [Memory.wfFrom, Bool.and_eq_true, decide_eq_true_eq] at h
    obtain ⟨⟨h1, h2⟩, h3⟩ := h
    by_cases hlt : x < a
    · by_cases hb : b = erased
      · simpa [Memory.write, hlt, hb] using h0
      · simp only [Memory.write, hlt, hb, if_true, if_false, Memory.wfFrom, Bool.and_eq_true, decide_eq_true_eq]
        exact ⟨⟨hx, by simpa using hb⟩, ⟨by omega, h2⟩, h3⟩
    · by_cases he : x = a
      · subst he
        by_cases hb : b = erased
        · simpa [Memory.write, hb] using Memory.wfFrom_mono h3 (by omega)
        · simp only [Memory.write, lt_irrefl, hb, if_true, if_false, Memory.wfFrom, Bool.and_eq_true, decide_eq_true_eq]
          exact ⟨⟨hx, by simpa using hb⟩, h3⟩
      · simp only [Memory.write, hlt, he, if_false, Memory.wfFrom, Bool.and_eq_true, decide_eq_true_eq]
        exact ⟨⟨h1, h2⟩, ih h3 (by omega)⟩

/-- A write keeps the canonical form. -/
theorem Memory.write_wf {m : List Host.Cell} (x : Nat) (b : Byte) (h : Memory.wf m = true) :
    Memory.wf (Memory.write m x b) = true :=
  Memory.write_wfFrom b h (Nat.zero_le x)

/-- A run of writes keeps the canonical form. -/
theorem Memory.writeAll_wf (bs : List Byte) {m : List Host.Cell} (x : Nat) (h : Memory.wf m = true) :
    Memory.wf (Memory.writeAll m x bs) = true := by
  induction bs generalizing m x with
  | nil => exact h
  | cons b bs ih => exact ih (x + 1) (Memory.write_wf x b h)

/-- A run of writes cut short keeps the canonical form. -/
theorem Memory.writeCut_wf (draw : Nat) (bs : List Byte) {m : List Host.Cell} (x : Nat) (h : Memory.wf m = true) :
    Memory.wf (Memory.writeCut draw m x bs) = true := by
  induction bs generalizing m x with
  | nil => exact h
  | cons b bs ih =>
    simp only [Memory.writeCut]
    split
    · exact ih (x + 1) (Memory.write_wf x b h)
    · exact ih (x + 1) h

theorem Memory.filter_wfFrom (p : Host.Cell → Bool) {m : List Host.Cell} {lo : Nat} (h : Memory.wfFrom lo m = true) :
    Memory.wfFrom lo (m.filter p) = true := by
  induction m generalizing lo with
  | nil => rfl
  | cons c m ih =>
    obtain ⟨a, b⟩ := c
    simp only [Memory.wfFrom, Bool.and_eq_true, decide_eq_true_eq] at h
    simp only [List.filter_cons]
    split
    · simp only [Memory.wfFrom, Bool.and_eq_true, decide_eq_true_eq]
      exact ⟨h.1, ih h.2⟩
    · exact Memory.wfFrom_mono (ih h.2) (by omega)

/-- A sector erase keeps the canonical form. -/
theorem Memory.erase_wf (slot : Slot) {m : List Host.Cell} (h : Memory.wf m = true) : Memory.wf (Memory.erase m slot) = true :=
  Memory.filter_wfFrom _ h

/-- A sector erase cut short keeps the canonical form. -/
theorem Memory.eraseCut_wf (draw : Nat) (slot : Slot) {m : List Host.Cell} (h : Memory.wf m = true) :
    Memory.wf (Memory.eraseCut draw m slot) = true :=
  Memory.filter_wfFrom _ h

/-- The flaws of a page program keep the canonical form. -/
theorem applyFlaws_wf (base : Nat) (fs : List (Fin 256 × Byte)) {m : List Host.Cell} (h : Memory.wf m = true) :
    Memory.wf (applyFlaws base fs m) = true := by
  induction fs generalizing m with
  | nil => exact h
  | cons f fs ih => exact ih (Memory.write_wf _ _ h)

/-- What an erase sends over the SPI port erases its slot (R129). -/
@[simp] theorem FlashCommand.run_erase (m : List Host.Cell) (slot : Slot) :
    FlashCommand.run m (.erase slot) = Memory.erase m slot := rfl

/-- What a program sends over the SPI port writes its bytes (R129). -/
@[simp] theorem FlashCommand.run_program (m : List Host.Cell) (a : Nat) (bs : List Byte) :
    FlashCommand.run m (.program a bs) = Memory.writeAll m a bs := rfl

/-- A flash command keeps the canonical form. -/
theorem FlashCommand.run_wf (c : FlashCommand) {m : List Host.Cell} (h : Memory.wf m = true) : Memory.wf (FlashCommand.run m c) = true := by
  cases c with
  | erase slot => exact Memory.erase_wf slot h
  | program a bs => exact Memory.writeAll_wf bs a h

/-- A flash command cut short keeps the canonical form. -/
theorem FlashCommand.runCut_wf (draw : Nat) (c : FlashCommand) {m : List Host.Cell} (h : Memory.wf m = true) :
    Memory.wf (c.runCut draw m) = true := by
  cases c with
  | erase slot => exact Memory.eraseCut_wf draw slot h
  | program a bs => exact Memory.writeCut_wf draw bs a h

theorem Memory.read_write_from {m : List Host.Cell} {lo : Nat} (x y : Nat) (b : Byte) (h : Memory.wfFrom lo m = true) :
    Memory.read (Memory.write m x b) y = if x = y then b else Memory.read m y := by
  induction m generalizing lo with
  | nil =>
    by_cases hb : b = erased
    · subst hb; by_cases hxy : x = y <;> simp [Memory.write, Memory.read, hxy]
    · simp [Memory.write, Memory.read, hb]
  | cons c m ih =>
    obtain ⟨a, d⟩ := c
    have h0 := h
    simp only [Memory.wfFrom, Bool.and_eq_true, decide_eq_true_eq] at h
    obtain ⟨⟨h1, h2⟩, h3⟩ := h
    by_cases hlt : x < a
    · by_cases hb : b = erased
      · subst hb
        simp only [Memory.write, hlt, if_true]
        split
        · next he =>
          subst he
          exact Memory.read_below (lo := a) (by simpa [Memory.wfFrom, h3] using h2) hlt
        · rfl
      · simp [Memory.write, hlt, hb, Memory.read]
    · by_cases he : x = a
      · subst he
        by_cases hb : b = erased
        · subst hb
          simp only [Memory.write, lt_irrefl, if_true, if_false, Memory.read]
          split
          · next hxy => subst hxy; exact Memory.read_below h3 (by omega)
          · rfl
        · simp only [Memory.write, lt_irrefl, hb, if_true, if_false, Memory.read]
          split <;> rfl
      · simp only [Memory.write, hlt, he, if_false, Memory.read]
        by_cases hay : a = y
        · subst hay; simp [he]
        · simp only [hay, if_false]
          exact ih h3

/-- A read after a write: the byte written at its address, the old byte anywhere else. -/
theorem Memory.read_write {m : List Host.Cell} (x y : Nat) (b : Byte) (h : Memory.wf m = true) :
    Memory.read (Memory.write m x b) y = if x = y then b else Memory.read m y :=
  Memory.read_write_from x y b h

/-- Cells left out of the list read as erased, and the others as before. -/
theorem Memory.read_filter (p : Nat → Bool) {m : List Host.Cell} {lo : Nat} (h : Memory.wfFrom lo m = true) (x : Nat) :
    Memory.read (m.filter fun c => p c.1) x = if p x then Memory.read m x else erased := by
  induction m generalizing lo with
  | nil => simp [Memory.read]
  | cons c m ih =>
    obtain ⟨a, b⟩ := c
    simp only [Memory.wfFrom, Bool.and_eq_true, decide_eq_true_eq] at h
    have ihx := ih h.2
    by_cases hp : p a
    · simp only [List.filter_cons, hp, if_true, Memory.read]
      by_cases hx : a = x
      · subst hx; simp [hp]
      · simp [hx, ihx]
    · simp only [List.filter_cons, hp, Memory.read]
      by_cases hx : a = x
      · subst hx; simpa [hp] using ihx
      · simpa [hx] using ihx

/-- What a sector erase cut short leaves: a byte of the slot as it was or erased, and every other byte as it was (R149). -/
theorem Memory.read_eraseCut (draw : Nat) (slot : Slot) {m : List Host.Cell} (h : Memory.wf m = true) (x : Nat) :
    Memory.read (Memory.eraseCut draw m slot) x = Memory.read m x ∨
      (slot.holds x = true ∧ Memory.read (Memory.eraseCut draw m slot) x = erased) := by
  rw [Memory.eraseCut, Memory.read_filter (fun a => !(slot.holds a && Config.flashByteDone draw a)) h]
  by_cases hs : slot.holds x = true <;> cases Config.flashByteDone draw x <;> simp [hs]

/-- What a program cut short leaves: a byte of its reach as it was or programmed, and every other byte as it was (R144, R149). -/
theorem Memory.read_writeCut (draw : Nat) (bs : List Byte) {m : List Host.Cell} (a : Nat) (h : Memory.wf m = true) (x : Nat) :
    Memory.read (Memory.writeCut draw m a bs) x = Memory.read m x ∨
      (a ≤ x ∧ ∃ b, bs[x - a]? = some b ∧ Memory.read (Memory.writeCut draw m a bs) x = b) := by
  induction bs generalizing m a with
  | nil => exact .inl rfl
  | cons b bs ih =>
    rw [Memory.writeCut]
    have hm : Memory.wf (if Config.flashByteDone draw a then Memory.write m a b else m) = true := by
      split
      · exact Memory.write_wf a b h
      · exact h
    rcases ih (a + 1) hm with hr | ⟨hx, b', hb, hr⟩
    · rw [hr]
      split
      · rw [Memory.read_write _ _ _ h]
        by_cases hax : a = x
        · exact .inr ⟨hax.le, b, by simp [hax], by simp [hax]⟩
        · exact .inl (by simp [hax])
      · exact .inl rfl
    · refine .inr ⟨by omega, b', ?_, hr⟩
      obtain ⟨k, rfl⟩ : ∃ k, x = a + 1 + k := ⟨x - (a + 1), by omega⟩
      rw [show a + 1 + k - (a + 1) = k by omega] at hb
      rw [show a + 1 + k - a = k + 1 by omega]
      simpa using hb

end Sys2Proof.Machine
end

