-- ==== Sys2Proof/Laws/Reception.lean ====
section
/-! SUPPORT. The receiver, byte by byte: what each byte does to a receiver with nothing to scan again, and the reception of a whole
frame from HUNT (R163, R165). -/

namespace Sys2Proof.Machine

/-! ## Bytes on the line -/

/-- A byte as it stands on the line reads back as that byte, with a high stop bit (R161). -/
@[simp] theorem readCharacter_character : ∀ b : Byte, readCharacter (character b) = some (b, true) := by decide +kernel

/-- The levels of a byte are received as that byte (R161, R163). -/
theorem receiveCharacter_character (b : Byte) (ts : List Taking) (s : State) :
    receiveCharacter (character b) ts s = receiveByte b ts s := by simp [receiveCharacter]

/-- A start bit, eight data bits and a low stop bit are a byte framing error (R161, R163). -/
theorem receiveCharacter_badStop {data : List Level} (h : data.length = 8) (ts : List Taking) (s : State) :
    receiveCharacter (.low :: data ++ [.low]) ts s = badStopBit s := by
  match data, h with
  | [_, _, _, _, _, _, _, _], _ => rfl

/-! ## Scanning -/

/-- With no frame waiting a taking takes nothing. -/
theorem takeHeads_of_empty (ks : Taking) {s : State} (h : s.lnk.inbound = []) : takeHeads ks s = s := by
  induction ks with
  | nil => rfl
  | cons k ks ih =>
    have e : takeHead k s = s := by unfold takeHead; rw [h]; split <;> rfl
    unfold takeHeads at ih ⊢
    rw [List.foldl_cons, e, ih]

/-- A taking that names no head takes none. -/
@[simp] theorem takeHeads_nil (s : State) : takeHeads [] s = s := rfl

/-- With nothing waiting there is nothing to scan. -/
@[simp] theorem scan_of_empty (k : Nat) (ts : List Taking) {s : State} (h : s.lnk.backlog = []) : scan k ts s = s := by
  cases k with
  | zero => rfl
  | succ k => simp [scan, h]

/-- One step of a scan. -/
theorem scan_cons (k : Nat) (ts : List Taking) {s : State} {b : Byte} {rest : List Byte} (h : s.lnk.backlog = b :: rest) :
    scan (k + 1) ts s =
      scan k ts.tail (takeHeads (ts.headD []) (receiverStep b (s.setLnk { s.lnk with backlog := rest }))) := by
  simp [scan, h]

/-- With nothing waiting, and nothing given back by it, a byte moves the receiver one step, and the heads named are taken. -/
theorem receiveByte_of_quiet {b : Byte} {ts : List Taking} {s : State} (h : s.lnk.backlog = [])
    (h' : (takeHeads (ts.headD []) (receiverStep b s)).lnk.backlog = []) :
    receiveByte b ts s = takeHeads (ts.headD []) (receiverStep b s) := by
  let u : State := s.setLnk { s.lnk with backlog := s.lnk.backlog ++ [b] }
  have hu : u.lnk.backlog = [b] := by simp [u, h]
  have hback : u.setLnk { u.lnk with backlog := [] } = s := by
    simp only [u, State.setLnk_lnk, State.setLnk_setLnk]
    rw [← h]; rfl
  have hk : u.lnk.scanSteps = (u.lnk.rx.size + 1) * (u.lnk.rx.size + 1) + 1 := by simp [Lnk.scanSteps, hu]
  change scan u.lnk.scanSteps ts u = _
  rw [hk, scan_cons _ _ hu, hback, scan_of_empty _ _ h']

/-- The same with no head taken. -/
theorem receiveByte_alone {b : Byte} {s : State} (h : s.lnk.backlog = []) (h' : (receiverStep b s).lnk.backlog = []) :
    receiveByte b [] s = receiverStep b s := receiveByte_of_quiet h h'

/-- Bytes one after another. -/
theorem receiveBytes_cons (b : Byte) (bs : List Byte) (s : State) :
    receiveBytes (b :: bs) s = receiveBytes bs (receiveByte b [] s) := rfl

/-- Bytes one after another, in two runs. -/
theorem receiveBytes_append (as bs : List Byte) (s : State) :
    receiveBytes (as ++ bs) s = receiveBytes bs (receiveBytes as s) := by
  simp [receiveBytes, List.foldl_append]

/-! ## The receiver's states -/

@[simp] theorem State.setRx_setRx (s : State) (r q : Receiver) : (s.setRx r).setRx q = s.setRx q := rfl
theorem State.setRx_self {s : State} {r : Receiver} (h : s.lnk.rx = r) : s.setRx r = s := by subst h; rfl

/-- SYNC in HUNT begins a frame. -/
theorem receiveByte_sync {s : State} (hr : s.lnk.rx = .hunt) (hb : s.lnk.backlog = []) :
    receiveByte syncByte [] s = s.setRx (.header []) := by
  have e : receiverStep syncByte s = s.setRx (.header []) := by simp [receiverStep, hr]
  rw [receiveByte_alone hb (by rw [e]; exact hb), e]

/-- Any other byte in HUNT is passed over. -/
theorem receiveByte_hunt {s : State} {b : Byte} (hr : s.lnk.rx = .hunt) (hb : s.lnk.backlog = []) (h : b ≠ syncByte) :
    receiveByte b [] s = s := by
  have e : receiverStep b s = s := by
    unfold receiverStep
    rw [hr]
    exact if_neg h
  rw [receiveByte_alone hb (by rw [e]; exact hb), e]

/-- LEN and KIND are held. -/
theorem receiveByte_header {s : State} {b : Byte} {held : List Byte} (hb : s.lnk.backlog = []) (h : held.length < 2) :
    receiveByte b [] (s.setRx (.header held)) = s.setRx (.header (held ++ [b])) := by
  have e : receiverStep b (s.setRx (.header held)) = s.setRx (.header (held ++ [b])) := by
    simp [receiverStep, show held.length + 1 < 3 by omega]
  rw [receiveByte_alone (by simpa using hb) (by rw [e]; exact hb), e]

/-- SEQ ends the header of a frame whose LEN is allowed. -/
theorem receiveByte_seq {s : State} {len kind seq : Byte} (hb : s.lnk.backlog = []) (h : len.toNat ≤ Config.payloadMax) :
    receiveByte seq [] (s.setRx (.header [len, kind])) =
      s.setRx (if len.toNat = 0 then .check [len, kind, seq] else .body [len, kind, seq]) := by
  have e : receiverStep seq (s.setRx (.header [len, kind])) =
      s.setRx (if len.toNat = 0 then .check [len, kind, seq] else .body [len, kind, seq]) := by
    simp [receiverStep, afterSeq, byteAt, Nat.not_lt.mpr h]
  rw [receiveByte_alone (by simpa using hb) (by rw [e]; exact hb), e]

/-- A payload byte is held; the last one leads to CHECK. -/
theorem receiveByte_body {s : State} {len b : Byte} {rest : List Byte} (hb : s.lnk.backlog = []) :
    receiveByte b [] (s.setRx (.body (len :: rest))) =
      s.setRx (if rest.length + 2 < 3 + len.toNat then .body (len :: rest ++ [b]) else .check (len :: rest ++ [b])) := by
  have e : receiverStep b (s.setRx (.body (len :: rest))) =
      s.setRx (if rest.length + 2 < 3 + len.toNat then .body (len :: rest ++ [b]) else .check (len :: rest ++ [b])) := by
    simp [receiverStep, byteAt]
  rw [receiveByte_alone (by simpa using hb) (by rw [e]; exact hb), e]

/-- The first CRC byte is held. -/
theorem receiveByte_check {s : State} {len b : Byte} {rest : List Byte} (hb : s.lnk.backlog = [])
    (h : rest.length + 2 < 5 + len.toNat) :
    receiveByte b [] (s.setRx (.check (len :: rest))) = s.setRx (.check (len :: rest ++ [b])) := by
  have e : receiverStep b (s.setRx (.check (len :: rest))) = s.setRx (.check (len :: rest ++ [b])) := by
    simp [receiverStep, byteAt, h]
  rw [receiveByte_alone (by simpa using hb) (by rw [e]; exact hb), e]

/-- The payload of a frame, byte by byte. -/
theorem receiveBytes_body {s : State} {len : Byte} (hb : s.lnk.backlog = []) :
    ∀ (bs held : List Byte), bs ≠ [] → held.length + 1 + bs.length = 3 + len.toNat →
      receiveBytes bs (s.setRx (.body (len :: held))) = s.setRx (.check (len :: held ++ bs)) := by
  intro bs
  induction bs with
  | nil => intro held h; exact absurd rfl h
  | cons b bs ih =>
    intro held _ hl
    rw [receiveBytes_cons, receiveByte_body hb]
    simp only [List.length_cons] at hl
    cases bs with
    | nil => simp only [List.length_nil] at hl; rw [if_neg (by omega)]; rfl
    | cons c cs =>
      rw [if_pos (by simp only [List.length_cons] at hl; omega)]
      rw [show len :: held ++ [b] = len :: (held ++ [b]) from rfl, ih (held ++ [b]) (by simp) (by simp at hl ⊢; omega)]
      simp

/-! ## A whole frame -/

/-- LEN as a number. -/
theorem lenByte_toNat {p : List Byte} (h : p.length ≤ Config.payloadMax) : (BitVec.ofNat 8 p.length : Byte).toNat = p.length := by
  simp only [BitVec.toNat_ofNat]
  have : Config.payloadMax = 250 := rfl
  omega

/-- Up to the last CRC byte a frame only fills the receiver. -/
theorem receiveBytes_upToCrc {s : State} {kind seq : Byte} {p : List Byte} {c : Byte} (hr : s.lnk.rx = .hunt)
    (hb : s.lnk.backlog = []) (hp : p.length ≤ Config.payloadMax) :
    receiveBytes (syncByte :: (frameCore kind seq p ++ [c])) s = s.setRx (.check (frameCore kind seq p ++ [c])) := by
  have hl := lenByte_toNat hp
  unfold frameCore
  simp only [List.cons_append, receiveBytes_cons]
  rw [receiveByte_sync hr hb, receiveByte_header hb (by simp), receiveByte_header hb (by simp)]
  simp only [List.nil_append, List.cons_append]
  rw [receiveByte_seq hb (by rw [hl]; exact hp), receiveBytes_append, hl]
  cases p with
  | nil =>
    simp only [List.length_nil, ↓reduceIte, receiveBytes, List.foldl_cons, List.foldl_nil, List.nil_append]
    rw [receiveByte_check hb (by simp)]; rfl
  | cons b bs =>
    rw [if_neg (by simp), receiveBytes_body hb (b :: bs) _ (by simp) (by rw [hl]; simp +arith)]
    simp only [receiveBytes, List.foldl_cons, List.foldl_nil]
    rw [show ∀ (x : Byte) (y z : List Byte), x :: y ++ z = x :: (y ++ z) from fun _ _ _ => rfl,
      receiveByte_check hb (by rw [hl]; simp; omega)]
    simp

/-- The bytes of a frame that its CRC covers. -/
theorem frameCore_length (kind seq : Byte) (p : List Byte) : (frameCore kind seq p).length = 3 + p.length := by
  simp [frameCore]; omega

/-- What the last CRC byte of a frame completes: a good frame where the CRC is right, else a discard (R165). -/
theorem receiverStep_complete {s : State} {kind seq : Byte} {p : List Byte} {crc : W16} (hr : s.lnk.rx = .hunt)
    (hp : p.length ≤ Config.payloadMax) :
    receiverStep ((crc >>> 8).setWidth 8) (s.setRx (.check (frameCore kind seq p ++ [crc.setWidth 8]))) =
      if crcField (crc16 (frameCore kind seq p)) = crcField crc then goodFrame kind seq p s
      else countCrc (rescan (frameCore kind seq p ++ crcField crc) s) := by
  have hl := lenByte_toNat hp
  have h0 : byteAt (frameCore kind seq p ++ crcField crc) 0 = BitVec.ofNat 8 p.length := rfl
  have htake : (frameCore kind seq p ++ crcField crc).take (3 + p.length) = frameCore kind seq p := by
    rw [← frameCore_length kind seq p]; exact List.take_left' rfl
  have hdrop : (frameCore kind seq p ++ crcField crc).drop (3 + p.length) = crcField crc := by
    rw [← frameCore_length kind seq p]; exact List.drop_left' rfl
  have happ : frameCore kind seq p ++ [crc.setWidth 8] ++ [(crc >>> 8).setWidth 8] = frameCore kind seq p ++ crcField crc := by
    simp [crcField]
  have hlen : (frameCore kind seq p ++ crcField crc).length = 5 + p.length := by
    simp [frameCore_length, crcField]; omega
  simp only [receiverStep, State.setRx_lnk]
  rw [happ, h0, hl, hlen, if_neg (by omega)]
  unfold completeFrame
  simp only [h0, hl, htake, hdrop, State.setRx_setRx, State.setRx_self hr]
  rfl

/-- The CRC field spells its word. -/
theorem crcField_injective {a b : W16} (h : crcField a = crcField b) : a = b := by
  simp only [crcField, List.cons.injEq, and_true] at h
  obtain ⟨h1, h2⟩ := h
  apply BitVec.eq_of_getLsbD_eq
  intro i hi
  by_cases hlt : i < 8
  · have := congrArg (fun x : Byte => x.getLsbD i) h1
    simpa [hlt] using this
  · have := congrArg (fun x : Byte => x.getLsbD (i - 8)) h2
    simp only [BitVec.getLsbD_setWidth, BitVec.getLsbD_ushiftRight] at this
    rw [show 8 + (i - 8) = i by omega] at this
    simpa [show i - 8 < 8 by omega] using this

/-! ## The receiver after a reset and after a good frame -/

@[simp] theorem abandonCommand_lnk (s : State) : (abandonCommand s).lnk = s.lnk := by
  unfold abandonCommand State.drawn State.setCells
  split
  · rfl
  · split <;> rfl

/-- A main reset leaves the receiver in HUNT with nothing to scan. -/
theorem mainReset_receiver (cause : StartCause) (s : State) :
    (mainReset cause s).lnk.rx = .hunt ∧ (mainReset cause s).lnk.backlog = [] := by
  have h : ∀ u : State, (resetBlocks cause u).lnk.rx = .hunt ∧ (resetBlocks cause u).lnk.backlog = [] := fun _ => ⟨rfl, rfl⟩
  obtain ⟨hr, hb⟩ := h (abandonCommand s)
  have hp : ∀ u : State, (postResetState s.tmb.validity (postStarted u)).lnk.rx = u.lnk.rx ∧
      (postResetState s.tmb.validity (postStarted u)).lnk.backlog = u.lnk.backlog := by
    intro u; unfold postResetState postStarted; split <;> simp
  obtain ⟨pr, pb⟩ := hp (resetBlocks cause (abandonCommand s))
  unfold mainReset startUp endLoad State.setJob
  dsimp only
  split
  · exact ⟨by rw [pr, hr], by rw [pb, hb]⟩
  · split <;> simp [pr, pb, hr, hb]

/-- A good frame leaves the receiver in HUNT with nothing to scan. -/
theorem goodFrame_receiver (kind seq : Byte) (p : List Byte) {s : State} (hr : s.lnk.rx = .hunt) (hb : s.lnk.backlog = []) :
    (goodFrame kind seq p s).lnk.rx = .hunt ∧ (goodFrame kind seq p s).lnk.backlog = [] := by
  have hu : (renewLease s).lnk.rx = .hunt ∧ (renewLease s).lnk.backlog = [] := ⟨hr, hb⟩
  generalize hgen : renewLease s = u at hu
  have ho : ∀ f, (offerFrame f u).lnk.rx = .hunt ∧ (offerFrame f u).lnk.backlog = [] := by
    intro f; unfold offerFrame countOverflow State.setCounters
    split <;> simp [hu]
  have hf : (countFraming u).lnk.rx = .hunt ∧ (countFraming u).lnk.backlog = [] := by
    unfold countFraming State.setCounters; simp [hu]
  unfold goodFrame
  dsimp only
  rw [hgen]
  split
  · exact ho _
  · exact ho _
  · unfold creditFrame
    split
    · split
      · unfold addCredits; simp [hu]
      · exact hf
    · exact hf
  · split
    · unfold linkReset
      split
      · exact mainReset_receiver _ _
      · unfold Lnk.afterReset; simp [hu]
    · exact hf
  · exact hf

/-- A frame received from HUNT, with any CRC field (R163, R165). -/
theorem receiveBytes_frameWith {s : State} {kind seq : Byte} {p : List Byte} {crc : W16} (hr : s.lnk.rx = .hunt)
    (hb : s.lnk.backlog = []) (hp : p.length ≤ Config.payloadMax) :
    receiveBytes (frameWith kind seq p crc) s =
      receiveByte ((crc >>> 8).setWidth 8) [] (s.setRx (.check (frameCore kind seq p ++ [crc.setWidth 8]))) := by
  have e : frameWith kind seq p crc =
      (syncByte :: (frameCore kind seq p ++ [crc.setWidth 8])) ++ [(crc >>> 8).setWidth 8] := by
    simp [frameWith, crcField]
  rw [e, receiveBytes_append, receiveBytes_upToCrc hr hb hp]
  rfl

/-- A whole frame with its own CRC, received from HUNT, is a good frame and nothing else (R163, R165). -/
theorem receiveBytes_frameBytes {s : State} {kind seq : Byte} {p : List Byte} (hr : s.lnk.rx = .hunt)
    (hb : s.lnk.backlog = []) (hp : p.length ≤ Config.payloadMax) :
    receiveBytes (frameBytes kind seq p) s = goodFrame kind seq p s := by
  unfold frameBytes
  rw [receiveBytes_frameWith hr hb hp]
  have e := receiverStep_complete (kind := kind) (seq := seq) (crc := crc16 (frameCore kind seq p)) hr hp
  rw [if_pos rfl] at e
  rw [receiveByte_alone (by simpa using hb) (by rw [e]; exact (goodFrame_receiver kind seq p hr hb).2), e]

end Sys2Proof.Machine
end

