-- ==== Sys2Proof/Laws/Schedule.lean ====
section
/-! SUPPORT. The order of the schedule: where an entry is put, what the re-sort keeps, and when a pass ends (R28 to R31, R50, R61). -/

namespace Sys2Proof.Machine

/-- The ticks of an instant made of ticks. -/
@[simp] theorem Instant.ofTicks_ticks (n : Nat) : (Instant.ofTicks n).ticks = n := by
  simp only [Instant.ofTicks, Instant.ticks]; omega

/-- The tick of an instant made of ticks is one of the 1024. -/
theorem Instant.ofTicks_tick (n : Nat) : (Instant.ofTicks n).tick ≤ 1023 := by
  simp only [Instant.ofTicks]; omega

/-- An instant whose tick is one of the 1024 is the one its ticks make. -/
theorem Instant.ofTicks_of_ticks {i : Instant} (h : i.tick ≤ 1023) : Instant.ofTicks i.ticks = i := by
  cases i; simp only [Instant.ofTicks, Instant.ticks, Instant.mk.injEq] at *; omega

/-- An entry is put behind a run of entries due no later (R30). -/
theorem placeEntry_split (e : Entry) (es : List Entry) :
    ∃ before after, es = before ++ after ∧ placeEntry e es = before ++ e :: after ∧
      (∀ x ∈ before, x.due.ticks ≤ e.due.ticks) ∧ (∀ y ∈ after.head?, e.due.ticks < y.due.ticks) := by
  induction es with
  | nil => exact ⟨[], [], rfl, rfl, by simp, by simp⟩
  | cons x xs ih =>
    by_cases h : x.due.ticks ≤ e.due.ticks
    · obtain ⟨b, a, h1, h2, h3, h4⟩ := ih
      exact ⟨x :: b, a, by rw [h1]; rfl, by simp [placeEntry, h, h2], by simpa [h] using h3, h4⟩
    · exact ⟨[], x :: xs, rfl, by simp [placeEntry, h], by simp, by simpa using Nat.lt_of_not_le h⟩

/-- An insertion adds the entry and nothing else. -/
theorem mem_placeEntry {e x : Entry} {es : List Entry} : x ∈ placeEntry e es ↔ x = e ∨ x ∈ es := by
  obtain ⟨b, a, h1, h2, _, _⟩ := placeEntry_split e es
  rw [h2, h1]; simp; tauto

@[simp] theorem placeEntry_length (e : Entry) (es : List Entry) : (placeEntry e es).length = es.length + 1 := by
  obtain ⟨b, a, h1, h2, _, _⟩ := placeEntry_split e es
  rw [h2, h1]; simp; omega

/-- The re-sort neither adds nor removes an entry (R61). -/
theorem sortedInsert_perm (e : Entry) (es : List Entry) : (sortedInsert e es).Perm (e :: es) := by
  induction es with
  | nil => exact List.Perm.refl _
  | cons x xs ih =>
    unfold sortedInsert
    split
    · exact List.Perm.refl _
    · exact (ih.cons x).trans (List.Perm.swap e x xs)

/-- The re-sort neither adds nor removes an entry (R61). -/
theorem sortEntries_perm (es : List Entry) : (sortEntries es).Perm es := by
  induction es with
  | nil => exact List.Perm.refl _
  | cons x xs ih => exact (sortedInsert_perm x _).trans (ih.cons x)

/-- Renumbering changes the stamps alone, in schedule order (R28). -/
theorem restamp_dues (k : Nat) (es : List Entry) : (restamp k es).map (·.due) = es.map (·.due) := by
  induction es generalizing k with
  | nil => rfl
  | cons e es ih => simp [restamp, ih]

/-- Renumbering gives the stamps from `k` on in their order (R28). -/
theorem restamp_eq_zipIdx (k : Nat) (es : List Entry) :
    restamp k es = (es.zipIdx k).map fun p => { p.1 with stamp := p.2 } := by
  induction es generalizing k with
  | nil => rfl
  | cons e es ih => simp [restamp, ih]

@[simp] theorem restamp_length (k : Nat) (es : List Entry) : (restamp k es).length = es.length := by
  induction es generalizing k with
  | nil => rfl
  | cons e es ih => simp [restamp, ih]

/-- A pass of a HELD scheduler takes nothing (R40). -/
theorem pass_of_held {s : State} (h : s.sch.hold.isEmpty = false) : pass s = s := by simp [pass, h]

/-- A pass with nothing due takes nothing (R50). -/
theorem pass_of_none_due {s : State} (h : ∀ e ∈ s.sch.entries.head?, s.now < e.due.ticks) : pass s = s := by
  unfold pass
  split
  · cases hs : s.sch.entries with
    | nil => rfl
    | cons e es =>
      have : ¬e.due.ticks ≤ s.now := Nat.not_le.mpr (h e (by simp [hs]))
      simp [passLoop, hs, this]
  · rfl

/-- Takings come one after another: a pass cut in two is one pass (R50). -/
theorem passLoop_add (j k : Nat) (s : State) : passLoop (j + k) s = passLoop k (passLoop j s) := by
  induction j generalizing s with
  | zero => simp [passLoop]
  | succ j ih =>
    rw [Nat.add_right_comm]
    simp only [passLoop]
    split
    · cases k with
      | zero => rfl
      | succ k => simp [passLoop, *]
    · split
      · exact ih _
      · cases k with
        | zero => rfl
        | succ k => simp [passLoop, *]

/-- The removal of a reason that is not in the set does nothing (R40). -/
theorem removeReason_of_absent {r : HoldReason} {s : State} (h : s.sch.hold.has r = false) : removeReason r s = s := by
  simp [removeReason, h]

/-- A repeat with a period above 0 that stays is due after the instant (R57). -/
theorem consume_nextDue_later {e : Entry} {r : Rep} {late due : Nat} (h : e.rep = some r) (hp : 0 < r.period)
    (hd : (e.consume late).nextDue = some due) : e.due.ticks + late < due := by
  have key : late < periodsDue late r.period * r.period := by
    have := Nat.lt_div_mul_add (a := late) hp
    unfold periodsDue
    rw [Nat.add_mul, Nat.one_mul]
    exact this
  have : due = e.due.ticks + periodsDue late r.period * r.period := by
    simp only [Entry.consume, h] at hd
    split at hd
    · split at hd
      · exact (Option.some.inj hd).symm
      · simp at hd
    · simp only at hd
      split at hd
      · simp at hd
      · split at hd
        · exact (Option.some.inj hd).symm
        · simp at hd
  omega

end Sys2Proof.Machine
end

