-- ==== Sys2Proof/Laws/Reset.lean ====
section
/-! SUPPORT. What a main reset leaves as it was, and the dealing of an owed part of a tick (R2, R24, R149). -/

namespace Sys2Proof.Machine

/-! ## The flash command at a reset -/

@[simp] theorem abandonCommand_power (s : State) : (abandonCommand s).power = s.power := by
  unfold abandonCommand State.drawn State.setCells; (repeat' split) <;> rfl
@[simp] theorem abandonCommand_straps (s : State) : (abandonCommand s).straps = s.straps := by
  unfold abandonCommand State.drawn State.setCells; (repeat' split) <;> rfl
@[simp] theorem abandonCommand_tmb (s : State) : (abandonCommand s).tmb = s.tmb := by
  unfold abandonCommand State.drawn State.setCells; (repeat' split) <;> rfl
@[simp] theorem abandonCommand_lin (s : State) : (abandonCommand s).lin = s.lin := by
  unfold abandonCommand State.drawn State.setCells; (repeat' split) <;> rfl
@[simp] theorem abandonCommand_owed (s : State) : (abandonCommand s).owed = s.owed := by
  unfold abandonCommand State.drawn State.setCells; (repeat' split) <;> rfl
@[simp] theorem abandonCommand_pending (s : State) : (abandonCommand s).pending = s.pending := by
  unfold abandonCommand State.drawn State.setCells; (repeat' split) <;> rfl
@[simp] theorem abandonCommand_maker (s : State) : (abandonCommand s).flash.maker = s.flash.maker := by
  unfold abandonCommand State.drawn State.setCells; (repeat' split) <;> rfl

/-- With no flash command in hand there is nothing to abandon. -/
theorem abandonCommand_of_none {s : State} (h : s.prs.command = none) : abandonCommand s = s := by
  simp [abandonCommand, h]

/-- What becomes of the flash when a command in hand is abandoned: it has completed, or it has not happened (R149). -/
theorem abandonCommand_cells {c : FlashCommand} {s : State} (h : s.prs.command = some c) :
    (abandonCommand s).flash.cells = s.flash.cells ∨ (abandonCommand s).flash.cells = c.run s.flash.cells := by
  simp only [abandonCommand, h]
  split
  · exact .inr rfl
  · exact .inl rfl

/-! ## The main reset -/

/-- Everything that a main reset does to the state apart from the notices: the blocks as `resetBlocks` sets them, and the
start-up load of an absent flash ended at once (R24, R135, R176). -/
theorem mainReset_blocks (cause : StartCause) (s : State) :
    let u := resetBlocks cause (abandonCommand s)
    let t := mainReset cause s
    t.power = u.power ∧ t.straps = u.straps ∧ t.tmb = u.tmb ∧ t.cap = u.cap ∧ t.trg = u.trg ∧ t.rds = u.rds ∧ t.lsm = u.lsm ∧
    t.flash = u.flash ∧ t.owed = u.owed ∧ t.draws = u.draws ∧ t.pending = u.pending ∧ t.sch.entries = [] ∧
    t.lin = u.lin := by
  intro u t
  have hu : u.sch.entries = [] := rfl
  have hp : ∀ v : State, v.sch.entries = [] → pass v = v := fun v hv => pass_of_none_due (by simp [hv])
  have hr : ∀ v : State, v.sch.entries = [] →
      (removeReason .load v).sch.entries = [] ∧ (removeReason .load v).lin = v.lin := by
    intro v hv
    unfold removeReason
    dsimp only
    split
    · split
      · rw [hp _ (by simp [hv])]; simp [hv]
      · simp [hv]
    · exact ⟨hv, rfl⟩
  have hs : ∀ old (v : State), (postResetState old v).sch = v.sch ∧ (postResetState old v).lin = v.lin := by
    intro old v; unfold postResetState; split <;> simp
  have ht : t = startUp (postResetState s.tmb.validity (postStarted u)) := rfl
  clear_value t
  subst ht
  unfold startUp endLoad State.setJob
  dsimp only
  split
  · simp [postResetState, postStarted]; split <;> simp [hu]
  · split
    · have h1 := hr ((postResetState s.tmb.validity (postStarted u)).setPrs
        { (postResetState s.tmb.validity (postStarted u)).prs with job := .idle })
        (by simp [hs, postStarted, hu])
      simp [h1]
      unfold postResetState postStarted
      split <;> simp
    · unfold postResetState postStarted
      split <;> simp [hu]

/-- A main reset keeps the supply, the flash's maker byte, the commands that wait and the levels that the outside drives. -/
theorem mainReset_outside (cause : StartCause) (s : State) :
    (mainReset cause s).power = s.power ∧ (mainReset cause s).pending = s.pending ∧
    (mainReset cause s).flash.maker = s.flash.maker ∧ (mainReset cause s).straps = s.straps := by
  obtain ⟨h1, h2, _, _, _, _, _, h8, _, _, h11, _, _⟩ := mainReset_blocks cause s
  exact ⟨by rw [h1]; simp [resetBlocks], by rw [h11]; simp [resetBlocks], by rw [h8]; simp [resetBlocks],
    by rw [h2]; simp [resetBlocks]⟩

/-! ## Owed parts -/

/-- A part that is not owed is not dealt with. -/
theorem deal_of_not_owed {p : TickPart} {s : State} (h : p.unit ∉ s.owed) : deal p s = s := by
  simp [deal, h]

/-- An owed part is dealt with once. -/
theorem deal_of_owed {p : TickPart} {s : State} (h : p.unit ∈ s.owed) :
    deal p s = doPart p (s.setOwed (s.owed.erase p.unit)) := by
  simp [deal, h]

@[simp] theorem dealAll_nil (s : State) : dealAll [] s = s := rfl
theorem dealAll_cons (p : TickPart) (ps : List TickPart) (s : State) : dealAll (p :: ps) s = dealAll ps (deal p s) := rfl

/-! ## Runs -/

/-- A run that is not complete is not accepted. -/
theorem acceptRun_of_incomplete {n : LineNo} {order : EdgeOrder} {s : State} (h : s.complete n = false) :
    acceptRun n order s = s := by
  unfold acceptRun
  simp only [State.complete, Option.isSome_eq_false_iff, Option.isNone_iff_eq_none] at h
  rw [h]

/-- A complete run is accepted: the level changes, the run ends, and its edge is handed on (R81, R84). -/
theorem acceptRun_of_complete {n : LineNo} {order : EdgeOrder} {f : Filter} {r : Run} {s : State}
    (h : s.completed n = some (f, r)) :
    acceptRun n order s =
      handOn { line := n, edge := Edge.ofLevel f.changed.accepted, onset := r.onset, generation := r.generation } order
        (s.setLine n { s.lin[n] with input := some f.changed }) := by
  unfold acceptRun; rw [h]

/-- With no run complete there is none to accept. -/
theorem acceptRuns_of_none {s : State} (h : ∀ n, s.complete n = false) : acceptRuns s = s := by
  have key : ∀ ns : List LineNo, ns.foldl (fun x n => acceptRun n ⟨0, 0⟩ x) s = s := by
    intro ns
    induction ns with
    | nil => rfl
    | cons n ns ih => rw [List.foldl_cons, acceptRun_of_incomplete (h n), ih]
  exact key _

/-- With nothing owed and no run complete there is nothing to settle. -/
theorem settle_of_none {s : State} (ho : s.owed = []) (h : ∀ n, s.complete n = false) : settle s = s := by
  simp [settle, acceptRuns_of_none h, ho]

end Sys2Proof.Machine
end

