-- ==== Sys2Proof/Laws/Spi.lean ====
section
/-! SUPPORT. The SPI port in mode 0: a byte read back from its bits, and what the rising edges of a command sample (R129). -/

namespace Sys2Proof.Machine

/-- Eight bits sent are the byte read back. -/
@[simp] theorem spiByte_spiBits : ∀ b : Byte, spiByte (spiBits b) = b := by decide +kernel

/-- Bit 0 of the status byte is the busy bit, whatever the other bits are. -/
@[simp] theorem statusByte_busy (others : Byte) (busy : Bool) : (statusByte others busy).getLsbD 0 = busy := by
  cases busy <;> simp [statusByte]

/-- A run of bits on the port, ended by SCK at rest and NCS high, is sampled bit by bit. -/
theorem risingEdges_bits (ds : List (Option Level × Option Level)) (p : SpiPins) :
    risingEdges (p :: ((ds.map fun d => spiBit d.1 d.2).flatten ++ [⟨.low, .low, none, none⟩, spiRest])) =
      ds.map fun d => ⟨.low, .high, d.1, d.2⟩ := by
  induction ds generalizing p with
  | nil => simp [risingEdges, spiRest]
  | cons d ds ih =>
    have hb : spiBit d.1 d.2 = [⟨.low, .low, d.1, d.2⟩, ⟨.low, .high, d.1, d.2⟩] := rfl
    simp only [List.map_cons, List.flatten_cons, hb, List.cons_append, List.nil_append]
    simp [risingEdges, ih]

/-- What the rising edges of a command sample: its bytes on MOSI, bit by bit, then the answer on MISO (R129). -/
theorem risingEdges_pins (c : SpiCommand) (answer : List Byte) :
    risingEdges (c.pins answer) =
      (c.mosi.map fun l => ⟨.low, .high, some l, none⟩) ++
        ((answer.map spiBits).flatten.map fun l => ⟨.low, .high, none, some l⟩) := by
  have h := risingEdges_bits
    (c.mosi.map (fun l => (some l, none)) ++ (answer.map spiBits).flatten.map (fun l => (none, some l))) spiRest
  simpa [SpiCommand.pins, Function.comp_def] using h

end Sys2Proof.Machine
end

