-- ==== Sys2Proof/Laws/SupplyLoss.lean ====
section
/-! SUPPORT. What a loss of supply in the midst of a flash command leaves: the two forms it takes, the canonical form, and what
validation then finds (R149). -/

namespace Sys2Proof.Machine

/-- Every byte of an erased sector reads as erased. -/
theorem Memory.read_eraseSector_in (m : List Host.Cell) {a x : Nat} (h : inSector a x = true) :
    Memory.read (Memory.eraseSector m a) x = erased := by
  induction m with
  | nil => rfl
  | cons c m ih =>
    obtain ⟨y, b⟩ := c
    have ihm : Memory.read (m.filter fun c => !inSector a c.1) x = erased := ih
    by_cases hy : inSector a y = true
    · simpa [Memory.eraseSector, List.filter_cons, hy] using ihm
    · have hxy : y ≠ x := fun e => hy (e ▸ h)
      simpa [Memory.eraseSector, List.filter_cons, hy, Memory.read, hxy] using ihm

/-- An erased slot is invalid by its marker (R133). -/
@[simp] theorem validateSlot_erase (m : List Host.Cell) (slot : Slot) : validateSlot (Memory.erase m slot) slot = none := by
  have h : slotHead (Memory.erase m slot) slot = List.replicate 32 erased := by
    rw [slotHead, headRead, SpiCommand.cells, Memory.readAll, List.eq_replicate_iff]
    refine ⟨by simp, fun b hb => ?_⟩
    obtain ⟨i, hi, rfl⟩ := List.mem_map.1 hb
    rw [List.mem_range] at hi
    exact Memory.read_eraseSector_in m (by simp [inSector, slotSize]; omega)
  rw [validateSlot, h]
  rfl

/-- What a loss of supply leaves: the command cut short within R149, or the command carried out. -/
theorem Prs.lossCells_cases (p : Prs) (draw : Nat) (m : List Host.Cell) (c : FlashCommand) :
    (p.lossLeaves m (c.runCut draw m) = true ∧ p.lossCells draw m c = c.runCut draw m) ∨ p.lossCells draw m c = c.run m := by
  rw [Prs.lossCells]
  split
  · exact .inl ⟨‹_›, rfl⟩
  · exact .inr rfl

/-- A loss of supply keeps the canonical form. -/
theorem Prs.lossCells_wf (p : Prs) (draw : Nat) (c : FlashCommand) {m : List Host.Cell} (h : Memory.wf m = true) :
    Memory.wf (p.lossCells draw m c) = true := by
  obtain ⟨-, e⟩ | e := p.lossCells_cases draw m c <;> rw [e]
  · exact c.runCut_wf draw h
  · exact c.run_wf h

/-- An erase ahead of the programs, or one asked for by PROF-ERASE, leaves its slot invalid or judged as before (R149). -/
theorem Prs.lossCells_erase (p : Prs) (draw : Nat) (m : List Host.Cell) (slot : Slot)
    (hj : p.job = .saveErase ∧ p.target = some slot ∨ (∃ d, p.job = .eraseA d) ∧ slot = .a ∨ p.job = .eraseB ∧ slot = .b) :
    validateSlot (p.lossCells draw m (.erase slot)) slot = none ∨
      validateSlot (p.lossCells draw m (.erase slot)) slot = validateSlot m slot := by
  obtain ⟨h, e⟩ | e := p.lossCells_cases draw m (.erase slot) <;> rw [e]
  · obtain ⟨hj, ht⟩ | ⟨⟨d, hj⟩, rfl⟩ | ⟨hj, rfl⟩ := hj <;> simpa [Prs.lossLeaves, Prs.slotInHand, *] using h
  · simp

/-- From the programs on a loss of supply leaves a target that is invalid or holds the full image, or the command in hand carried
out (R149). -/
theorem Prs.lossCells_save (p : Prs) (draw : Nat) (m : List Host.Cell) (slot : Slot) (c : FlashCommand)
    (hj : (∃ page rest, p.job = .saveProgram page rest) ∨ ∃ cause, p.job = .saveRecover cause) (ht : p.target = some slot) :
    validateSlot (p.lossCells draw m c) slot = none ∨ p.verified (p.lossCells draw m c) = true ∨ p.lossCells draw m c = c.run m := by
  obtain ⟨h, e⟩ | e := p.lossCells_cases draw m c
  · rw [e]
    obtain ⟨page, rest, hj⟩ | ⟨cause, hj⟩ := hj <;> simp [Prs.lossLeaves, Prs.slotInHand, hj, ht] at h <;> tauto
  · exact .inr (.inr e)

end Sys2Proof.Machine
end

