-- ==== Sys2Proof/Laws/Taking.lean ====
section
/-! SUPPORT. The taking of frames from the inbound queue, and a request sent to a part whose link is quiet (R166, R167, R170). -/

namespace Sys2Proof.Machine

/-- Nothing is taken from a queue whose head cannot be taken. -/
theorem takeHead_of_blocked (k : Nat) {s : State} (h : s.lnk.canTake = false) : takeHead k s = s := by simp [takeHead, h]

/-- A head that can be taken leaves the queue and is dealt with (R167). -/
theorem takeHead_of_cons {k : Nat} {f : HostFrame} {rest : List HostFrame} {s : State} (h : s.lnk.inbound = f :: rest)
    (hc : s.lnk.canTake = true) : takeHead k s = dealFrame f k (s.setLnk { s.lnk with inbound := rest }) := by
  simp [takeHead, h, hc]

/-- Heads are taken one after another. -/
theorem takeHeads_cons (k : Nat) (ks : Taking) (s : State) : takeHeads (k :: ks) s = takeHeads ks (takeHead k s) := rfl

/-- Every head of a queue of one frame that can be taken: that frame is dealt with. -/
theorem takeAll_one {k : Nat} {f : HostFrame} {s : State} (h : s.lnk.inbound = [f]) (hc : s.lnk.canTake = true) :
    takeAll k s = dealFrame f k (s.setLnk { s.lnk with inbound := [] }) := by
  simp [takeAll, h, takeHeads, takeHead_of_cons h hc]

/-- A frame in turn is executed (R167). -/
theorem dealFrame_execute {f : HostFrame} {after : Nat} {s : State}
    (h : s.lnk.seqState = .free ∨ ∃ l k, s.lnk.seqState = .expecting f.head.seq l k) :
    dealFrame f after s = executeFrame f after s := by
  unfold dealFrame SeqState.judge
  rcases h with h | ⟨l, k, h⟩ <;> simp [h]

/-- A REQUEST or POSTED frame that reaches a quiet link is executed at once, after the lease was renewed (R152, R166, R167). -/
theorem sendRequest_of_quiet {h : FrameHead} {r : Request} {after : Nat} {s : State} (hq : Quiet h s)
    (hp : (encodeRequest r).length ≤ Config.payloadMax) :
    sendRequestAfter h r after s = executeFrame ⟨h, encodeRequest r⟩ after (renewLease s) := by
  obtain ⟨⟨_, hrx, hback⟩, hin, hroom, hres, hseq⟩ := hq
  obtain ⟨kind, seq⟩ := h
  unfold sendRequestAfter
  rw [receiveBytes_frameBytes hrx hback hp]
  have hoff : goodFrame kind.byte seq (encodeRequest r) s =
      (renewLease s).setLnk { s.lnk with inbound := [⟨⟨kind, seq⟩, encodeRequest r⟩] } := by
    cases kind <;>
      simp [goodFrame, ReqKind.byte, ReqKind.code, offerFrame, renewLease, hin]
  rw [hoff, takeAll_one (f := ⟨⟨kind, seq⟩, encodeRequest r⟩) (by simp) (by simp [Lnk.canTake, hroom, hres])]
  have hback : ((renewLease s).setLnk { s.lnk with inbound := [⟨⟨kind, seq⟩, encodeRequest r⟩] }).setLnk
      { ((renewLease s).setLnk { s.lnk with inbound := [⟨⟨kind, seq⟩, encodeRequest r⟩] }).lnk with inbound := [] } =
      renewLease s := by
    simp only [State.setLnk_lnk, State.setLnk_setLnk]
    rw [← hin]; rfl
  rw [hback]
  exact dealFrame_execute hseq

end Sys2Proof.Machine
end

