-- ==== Sys2Proof/Tests/Slice0.lean ====
section
/-! SUPPORT. Tests on fixed values: the checks of WellFormed on ill-formed terms, the worked examples of the spec one step at a
time, and for every statement with hypotheses a witness that they can be met together. -/

namespace Sys2Proof.Tests

open Sys2Proof Sys2Proof.Machine

-- One test after another: side by side, their evaluations wait for the kernel in a thread each, and the threads' stacks fill the memory.
set_option Elab.async false

/-! ## Helpers -/

/-- The state of a next answer. -/
def after (o : Machine.Outcome) (s : State) : State := match o with
  | .next t => t
  | .fault _ | .refused _ => s

/-- The state after one command. -/
def run1 (c : Instr) (s : State) : State := after (exec c s) s

/-- A REQUEST head and a POSTED head. -/
abbrev rq (q : Byte) : FrameHead := ⟨.request, q⟩
abbrev po (q : Byte) : FrameHead := ⟨.posted, q⟩

/-- A RUNNING part with the time set to second 1000, tick 100, and an idle Profile Store. -/
def running : State :=
  ((State.reset.setTmb { Tmb.cold with instant := ⟨1000, 100⟩, validity := .set }).setSch
    { State.reset.sch with hold := HoldSet.none }).setPrs { State.reset.prs with job := .idle }

/-- A part whose profile load is running. -/
def loading : State := running.setPrs { running.prs with job := .loading false .validating }

/-- An output line, an input line and a reference line. -/
def outLine (o : Output) : Line :=
  { config := ⟨.pushPull, .low, .low, .none, 0, .none⟩, output := some o, input := none, glitches := 0, ext := none }
def inLine (f : Filter) (flt : Nat) (ext : Level) : Line :=
  { config := ⟨.input, .low, .low, .none, flt, .both⟩, output := none, input := some f, glitches := 0, ext := some ext }

/-- L1 an output at LOW, L5 an input of length 16 accepted LOW with a high pin. -/
def withLines : State :=
  (running.setLine 0 (outLine ⟨.low, none⟩)).setLine 4 (inLine ⟨.low, none⟩ 16 .high)

/-- A trigger on rising edges of L5 that drives L1. -/
def trigger5 : Trigger :=
  { defn := { source := 4, edge := .rise, delay := 10, holdoff := 2048,
              template := { kind := .pulse, lines := 1, width := 512, late := .run, notify := true } },
    armCount := 2, state := .armed, remainder := 0, fired := 0, overruns := 0 }

/-- A calendar MARK and an interval MARK. -/
def mark (due : Instant) (a : Anchor) (stamp : Nat) : Entry :=
  { handle := stamp, label := 0, due := due, anchor := a, kind := .mark, lines := 0, width := 0, rep := none, remaining := 0,
    late := .run, guard := none, notify := true, standing := false, origin := .host, suppressed := 0, stamp := stamp }

/-- The parameters of a MARK by calendar instant. -/
def addMark (sec : W32) (tick : W16) : ActAddParams :=
  { label := 0, anchor := 0, seconds := sec, tick := tick, kind := 4, lines := 0, width := 0, repPresent := false, period := 0,
    count := 0, late := 0, guardPresent := false, guardLine := 0, guardLevel := 0, notify := true, standing := false }

/-! ## WellFormed -/

theorem test_wf_duplicate_part : (Instr.nominalTick [.lease, .lease]).wf = false := by decide
theorem test_wf_len_allowed : (Instr.frameLenDiscard 250 1 0).wf = false ∧ (Instr.frameLenDiscard 251 1 0).wf = true := by decide
theorem test_wf_good_crc : (Instr.frameCrcDiscard 3 0 [1] (crc16 [1, 3, 0, 1])).wf = false := by decide +kernel
theorem test_wf_long_payload : (Instr.frameEnqueue (rq 0) (List.replicate 251 0) [0]).wf = false := by decide +kernel
theorem test_wf_known_kind : (Instr.frameUnknownKind 3 0 []).wf = false := by decide
theorem test_wf_long_unknown : (Instr.frameUnknownKind 9 0 (List.replicate 251 0)).wf = false := by decide +kernel
theorem test_wf_long_credit : (Instr.credit 0 (List.replicate 251 0)).wf = false := by decide +kernel
theorem test_wf_long_link_reset : (Instr.linkReset 0 (List.replicate 251 0)).wf = false := by decide +kernel
theorem test_wf_form_taken : (Instr.timeSet (rq 0) ⟨.other 1 [], 0⟩).wf = false := by decide
theorem test_wf_strap_released : (Instr.rawLevelChange .arate .released).wf = false := by decide
theorem test_wf_flaw_twice : (Instr.pageProgramDone [(3, 1), (3, 2)]).wf = false := by decide

/-! ## Decoding: no row of the table has bits -/

theorem test_no_words : decodeTableWord 16 0xA501 = none ∧ State.reset.withFetchWord 16 0xA501 = State.reset := by decide

/-! ## The check vectors of R162 and R131 -/

theorem test_crc16_vector : crc16 [0x31, 0x32, 0x33, 0x34, 0x35, 0x36, 0x37, 0x38, 0x39] = 0x29B1 := by decide +kernel
theorem test_crc32_vector : crc32 [0x31, 0x32, 0x33, 0x34, 0x35, 0x36, 0x37, 0x38, 0x39] = 0xCBF43926 := by decide +kernel

/-! ## Time (section 1.2 and the worked example of chapter 1) -/

theorem test_civil_2024 : civilOf 762609600 = ⟨2024, 3, 1, 12, 0, 0, 5⟩ ∧ instantOfCivil 2024 3 1 12 0 0 0 = ⟨762609600, 0⟩ := by
  decide +kernel
theorem test_civil_top : civilOf 3155759999 = ⟨2099, 12, 31, 23, 59, 59, 4⟩ := by decide +kernel

/-- Tick 64 of the example: a slew carry, an advance of 0. -/
theorem test_slew_tick64 :
    let a := Tmb.advance { Tmb.cold with instant := ⟨7, 63⟩, validity := .set, trim := -2048, acc := -129024, slew := -9, phase := 63 }
    a.tmb.instant = ⟨7, 63⟩ ∧ a.tmb.slew = -8 ∧ a.tmb.acc = -131072 ∧ a.slewDone = false := by decide
/-- Tick 512: the slew carry is withheld beside the trim carry. -/
theorem test_slew_tick512 :
    let a := Tmb.advance { Tmb.cold with instant := ⟨7, 504⟩, validity := .set, trim := -2048, acc := -1046528, slew := -2,
                                         phase := 63 }
    a.tmb.instant = ⟨7, 504⟩ ∧ a.tmb.slew = -2 ∧ a.tmb.acc = 0 := by decide
/-- Tick 640: the remainder reaches 0 through an applied correction. -/
theorem test_slew_tick640 :
    let a := Tmb.advance { Tmb.cold with instant := ⟨7, 630⟩, validity := .set, trim := -2048, acc := -260096, slew := -1,
                                         phase := 63 }
    a.tmb.instant = ⟨7, 630⟩ ∧ a.tmb.slew = 0 ∧ a.slewDone = true := by decide
theorem test_range_end :
    let a := Tmb.advance { Tmb.cold with instant := Instant.top, validity := .set, slew := 5 }
    a.tmb.instant = Instant.top ∧ a.tmb.slew = 0 ∧ a.rangeEnd = true := by decide
theorem test_time_set : (run1 (.timeSet (rq 1) ⟨.calendar 2024 3 1 12 0 0 0, 0⟩) State.reset).tmb.instant = ⟨762609600, 0⟩ := by
  decide +kernel
theorem test_time_set_29_feb : (run1 (.timeSet (rq 1) ⟨.calendar 2023 2 29 0 0 0 0, 0⟩) State.reset).tmb.validity = .unset := by
  decide +kernel

/-! ## The schedule (worked examples of chapters 2 and 3) -/

/-- Steps 1 to 3 of the example: the interval entry goes before, the equal due behind. -/
theorem test_positions :
    let c1 := (Sch.fresh HoldSet.none).insertNew (mark ⟨1010, 0⟩ .calendar 0)
    let c2 := (c1.insertNew (mark ⟨1005, 100⟩ .interval 0)).insertNew (mark ⟨1010, 0⟩ .calendar 0)
    c2.entries.map (fun e => (e.handle, e.stamp)) = [(2, 2), (1, 1), (3, 3)] := by decide
/-- Step 5: handle 1 is free, but the counter does not go back to it. -/
theorem test_handle_goes_on :
    Sch.newHandle { Sch.fresh HoldSet.none with entries := [mark ⟨1005, 0⟩ .calendar 2, mark ⟨1010, 0⟩ .calendar 3], lastHandle := 3 } = 4 ∧
    Sch.newHandle { Sch.fresh HoldSet.none with entries := [mark ⟨1005, 0⟩ .calendar 1], lastHandle := 65535 } = 2 := by decide
/-- R55: T = 20, P = 8, lateness 17 consumes 3 occurrences on time. -/
theorem test_catch_up :
    ({ mark ⟨1000, 0⟩ .calendar 1 with rep := some ⟨8, 0⟩ } : Entry).consume 17 = ⟨3, 0, some 1024024⟩ ∧
    occurrenceOutcome 17 20 .run true = .run := by decide
/-- The step of +3072 shifts the interval entry and no other. -/
theorem test_step_shift :
    (shiftEntries 1000 4072 [mark ⟨2, 0⟩ .calendar 1, mark ⟨3, 0⟩ .interval 3]).map (·.due) = [⟨2, 0⟩, ⟨6, 0⟩] := by decide
theorem test_add_replies_handle :
    (run1 (.actAdd (rq 9) (addMark 1010 0)) running).lnk.replies = [.answer 9 0x20 .ok false [1, 0, 0] false] := by decide +kernel

/-! ## Lines (worked examples of chapter 4) -/

theorem test_pulse_starts : Output.claim ⟨.low, none⟩ .low (.pulse 256) = ⟨.high, some ⟨.low, 256⟩⟩ := by decide
theorem test_pulse_retriggers : Output.claim ⟨.high, some ⟨.low, 56⟩⟩ .low (.pulse 100) = ⟨.high, some ⟨.low, 100⟩⟩ := by decide
theorem test_pulse_expires : Output.tick ⟨.high, some ⟨.low, 1⟩⟩ = ⟨.low, none⟩ := by decide
theorem test_toggle_ends_pulse : Output.claim ⟨.high, some ⟨.low, 1⟩⟩ .low .toggle = ⟨.low, none⟩ := by decide
/-- Samples s3 and s7 of the filtered input. -/
theorem test_filter_glitch :
    Filter.sample ⟨.low, some ⟨2, ⟨0, 1⟩, 0⟩⟩ .low ⟨0, 3⟩ 0 = { filter := ⟨.low, none⟩, glitch := true } := by decide
theorem test_filter_accepts :
    ((Filter.sample ⟨.low, some ⟨3, ⟨0, 4⟩, 0⟩⟩ .high ⟨0, 7⟩ 0).filter.completed 4).map (·.onset) = some ⟨0, 4⟩ ∧
      (Filter.sample ⟨.low, some ⟨2, ⟨0, 4⟩, 0⟩⟩ .high ⟨0, 6⟩ 0).filter.completed 4 = none := by decide
/-- An unpowered part drives no pin: a PUSH_PULL line at HIGH shows what the outside drives (R69). -/
theorem test_unpowered_pin :
    let s := running.setLine 0 { outLine ⟨.high, none⟩ with ext := some .low }
    (s.setPower false).driven 0 = none ∧ (s.setPower false).raw 0 = .low ∧ s.driven 0 = some .high := by decide

/-- Code 3 of the pull and code 4 of the capture edges stand for nothing (R70). -/
theorem test_unused_codes : LineRecord.config ⟨3, 0, 0, 3, 4, 1⟩ = none ∧ LineRecord.config ⟨3, 0, 0, 2, 4, 4⟩ = none ∧
    (LineRecord.config ⟨3, 0, 0, 2, 4, 3⟩).isSome = true := by decide

/-! ## Capture and triggers (worked example of chapter 5) -/

/-- The acceptance of L5 at tick 215 with onset 200, offered to the trigger alone: the entry is taken late, L1 pulses, HOLDOFF. -/
theorem test_trigger_fires :
    let s := ((withLines.setTmb { withLines.tmb with instant := ⟨1000, 215⟩ }).setTrg (withLines.trg.set 2 (some trigger5)))
    let t := handToTriggers ⟨4, .rise, ⟨1000, 200⟩, 0⟩ ⟨8, 0⟩ s
    (t.lin[0]).output = some ⟨.high, some ⟨.low, 512⟩⟩ ∧ t.sch.entries = [] ∧
      t.trg[2].map (fun x => (x.state, x.armCount, x.remainder, x.fired)) = some (.holdoff, 1, 2048, 1) := by decide +kernel
theorem test_second_record_is_pending :
    let s := running.setCap { Cap.fresh with log := [⟨41, 5, .rise, ⟨1000, 210⟩, 0, .set⟩], lastSerial := 41, mark := 2 }
    let t := captureEdge ⟨4, .rise, ⟨1000, 200⟩, 0⟩ s
    t.cap.lastSerial = 42 ∧ t.cap.armed = false ∧ t.lnk.notices = [(1, .capturePending 2 0 42)] := by decide

/-! ## Reference (worked example of chapter 6) -/

theorem test_reference_offsets : (offsetOf 3, offsetOf 1022, offsetOf 511, offsetOf 512) = ((3 : Int), (-2 : Int), (511 : Int), (-512 : Int)) ∧
    correctionOf (-512) = 511 := by decide
/-- Edge 7 of the table: the third outlier steps by −300. -/
theorem test_reference_step :
    let s := (running.setTmb { running.tmb with instant := ⟨1000, 300⟩, validity := .tracking }).setRds
      { Rds.fresh with line := some 7, config := ⟨.steer, .rise, 8, 3, 5⟩, state := .active, run := 2 }
    let t := referenceEdge ⟨7, .rise, ⟨1000, 300⟩, 0⟩ 0 s
    t.tmb.instant = ⟨1000, 0⟩ ∧ t.tmb.generation = 1 ∧ t.rds.run = 0 ∧ t.rds.history = [⟨1000, 300, .stepped⟩] := by decide

/-- R126: a TIME-SET dealt with before an edge whose run stands complete leaves it its old generation, and it is IGNORED. -/
theorem test_step_before_edge :
    let line : Line := { config := ⟨.reference, .low, .low, .none, 0, .none⟩, output := none,
                         input := some ⟨.low, some ⟨1, ⟨1000, 100⟩, 0⟩⟩, glitches := 0, ext := some .high }
    let s := (running.setLine 7 line).setRds { Rds.fresh with line := some 7, config := ⟨.steer, .rise, 8, 3, 5⟩, state := .active }
    let t := run1 (.edgeAccept 7 ⟨0, 0⟩) (setTime ⟨2000, 0⟩ 0 s)
    t.rds.history = [⟨1000, 100, .ignored⟩] ∧ (t.lin[7]).input = some ⟨.high, none⟩ := by decide +kernel

/-! ## Profile (worked example of chapter 7, with day 10 for D) -/

/-- Stored 2 at 07:20 was due at 06:00 hourly with 12 left: it comes back at 08:00 with 10 left. Stored 3 is dropped. -/
theorem test_stored_entries :
    let e : StoredEntry := { label := 0, due := ⟨885600, 0⟩, kind := .pulse, lines := 2, width := 1024, period := some 3686400,
                             remaining := 12, late := .run, guard := none, notify := false }
    let once : StoredEntry := { e with kind := .low, lines := 1, width := 0, due := ⟨890100, 0⟩, period := none, remaining := 0 }
    (e.judge .holdover (890400 * 1024)).map (fun x => (x.due, x.remaining)) = some (⟨892800, 0⟩, 10) ∧
      once.judge .holdover (890400 * 1024) = none := by decide

/-- The sector erase of slot B and page 7 of slot A on the SPI port, the address most significant byte first (R129). -/
theorem test_spi_bytes :
    (FlashCommand.transfers (.erase .b)).map SpiCommand.bytes = [[0x06], [0x20, 0x00, 0x10, 0x00], [0x05]] ∧
    (SpiCommand.pageProgram 0x700 [1, 2]).bytes = [0x02, 0x00, 0x07, 0x00, 1, 2] ∧
    SpiCommand.readId.mosi = [.high, .low, .low, .high, .high, .high, .high, .high] := by decide

/-- Mode 0: SCK rests low, the bits of write enable (0x06) stand on MOSI at its rising edges, and NCS is low from the first of them
to the end; read status brings its bits in on MISO (R129). -/
theorem test_spi_mode_0 :
    let w := SpiCommand.writeEnable.pins []
    let r := SpiCommand.readStatus.pins [0x01]
    w.map (·.ncs) = .high :: List.replicate 17 .low ++ [.high] ∧
    w.map (·.sck) = .low :: (List.replicate 8 [Level.low, .high]).flatten ++ [.low, .low] ∧
    (risingEdges w).map (·.mosi) = [.low, .low, .low, .low, .low, .high, .high, .low].map some ∧
    spiByte ((risingEdges r).filterMap (·.miso)) = 0x01 := by decide

/-! ## Lease (worked example of chapter 8) -/

theorem test_safe_hold_expiry :
    let s := ((((running.setLsm ⟨30, .safeHold, .running, 30719⟩).setOwed [.lease]).setSch
      { running.sch with hold := { HoldSet.none with host := true } }).setLine 0 (outLine ⟨.high, none⟩)).setLine 1
      { outLine ⟨.high, some ⟨.low, 9⟩⟩ with config := ⟨.pushPull, .low, .keep, .none, 0, .none⟩ }
    let t := run1 .leaseExpiry s
    t.lsm.state = .expired ∧ t.sch.hold = ⟨true, false, true, false⟩ ∧ (t.lin[0]).output = some ⟨.low, none⟩ ∧
      (t.lin[1]).output = some ⟨.high, none⟩ := by decide +kernel

/-! ## Link (worked example of chapter 9) -/

/-- SEQ 44 with E 43 and L 42 posted draws SEQ_GAP with E. -/
theorem test_gap :
    let s := running.setLnk { running.lnk with seqState := .expecting 43 42 .posted }
    (run1 (.frameEnqueue (rq 44) [0x2A] [0]) s).lnk.replies = [.answer 44 0x2A .seqGap false [43] false] := by decide +kernel
/-- A repeat of L is answered from the cache with the repeat flag, and nothing is executed. -/
theorem test_repeat :
    let r := Reply.answer 41 0x20 .ok false [7, 0, 0] false
    let s := running.setLnk { running.lnk with seqState := .expecting 42 41 .request, cache := .reply r }
    let t := run1 (.frameEnqueue (rq 41) (encodeRequest (.actAdd (addMark 1010 0))) [0]) s
    t.lnk.replies = [.answer 41 0x20 .ok true [7, 0, 0] false] ∧ t.sch = s.sch ∧ t.lnk.counters.duplicate = 1 := by decide +kernel
/-- R180: between two heads of the queue a LINK-RESET can fall; the second head is then gone. -/
theorem test_reset_between_heads :
    let s := running.setLnk { running.lnk with inbound := [⟨po 1, [0x28]⟩, ⟨po 2, [0x64]⟩] }
    let t := run1 (.linkReset 9 []) (run1 (.transmitDone [0]) s)
    t.sch.hold.host = true ∧ t.prs.locked = false ∧ t.lnk.inbound = [] := by decide +kernel
/-- R161: a strap moved while the part runs counts at the next main reset, here by RESTART, and not before. -/
theorem test_strap_moves :
    let s := run1 (.rawLevelChange .arate (.held .high)) running
    s.lnk.arate = false ∧ (mainReset .request s).lnk.arate = true := by decide +kernel
theorem test_reset_from_cold :
    run1 (.powerUp false ⟨false, false, 0xEF⟩)
      ((State.reset.setPower false).setTmb { Tmb.cold with marker := false, slew := 5 }) = State.reset := by decide +kernel

/-- R161: 0x35 on the line, least significant bit first, and read back; the same levels with a low stop bit are a framing error. -/
theorem test_character :
    character 0x35 = [.low, .high, .low, .high, .low, .high, .high, .low, .low, .high] ∧
      readCharacter (character 0x35) = some (0x35, true) ∧
      readCharacter [.low, .high, .low, .high, .low, .high, .high, .low, .low, .low] = some (0x35, false) := by decide
/-- R161: the rate follows the strap of the last main reset. -/
theorem test_rate : State.reset.lnk.rate = 115200 ∧ (run1 (.nrst ⟨true, false, 0xEF⟩) running).lnk.rate = 460800 := by decide +kernel

/-! ## Witnesses: the hypotheses of the statements can be met -/

/-- A powered part with the link of `running` is quiet. -/
theorem quiet_of {h : FrameHead} {s : State} (hp : s.power = true) (hl : s.lnk = running.lnk) : Quiet h s :=
  ⟨⟨hp, by rw [hl]; rfl, by rw [hl]; rfl⟩, by rw [hl]; rfl, by rw [hl]; decide, by rw [hl]; rfl, by rw [hl]; exact .inl rfl⟩

theorem listening_running : Listening running := ⟨rfl, rfl, rfl⟩

theorem witness_StepRunsFrontCommand : (running.setPending [.refLost, .powerLoss]).pending = .refLost :: [.powerLoss] := rfl

theorem witness_PayloadsDecode : (Request.timeSet (.other 2 (List.replicate 248 0))).fits = true ∧ Request.ident.fits = true := by
  decide +kernel

theorem witness_RequestsAreServed :
    ((Instr.trimSet (po 3) 5).asRequest = some (po 3, .trimSet 5) ∧ Quiet (po 3) running ∧ (Request.trimSet 5).fits = true ∧
      (Request.trimSet 5).sendable (po 3) ∧ Request.trimSet 5 ≠ .restart) ∧
    ((Instr.timeRead (po 3)).asRequest = some (po 3, .timeRead) ∧ Request.timeRead.fits = true ∧
      (po 3).kind = .posted ∧ Request.timeRead.isRead = true) :=
  ⟨⟨rfl, quiet_of rfl rfl, rfl, fun _ => by decide, by decide⟩, rfl, rfl, rfl, by decide⟩

theorem witness_ServingTouchesTheLink : running.lnk.tx ≠ .forReply ∧ (running.setLnk (Lnk.fresh false false .cold)).lnk.tx = .idle := by
  decide

theorem witness_TimeReadAndIdentReply : Quiet (rq 255) running := quiet_of rfl rfl

theorem witness_StatusReadsReply :
    let s := running.setSch { running.sch with entries := [mark Instant.top .calendar 65535] }
    Quiet (rq 0) s ∧ s.sch.find (65535 : W16).toNat = some (mark Instant.top .calendar 65535) ∧ s.sch.find (0 : W16).toNat = none :=
  ⟨quiet_of rfl rfl, by decide, by decide⟩

theorem witness_TimeSetSteps : Quiet (po 0) running ∧ (TimeSetForm.other 2 (List.replicate 248 0)).wf = true :=
  ⟨quiet_of rfl rfl, by decide +kernel⟩

theorem witness_CalendarRoundTrip : civilValid 2000 1 1 0 0 0 0 = true ∧ civilValid 2099 12 31 23 59 59 1023 = true := by decide

theorem witness_StepsReplaceTheInstant :
    let s := (running.setSch { running.sch with hold := ⟨true, false, false, false⟩,
                                                entries := [mark ⟨1003, 0⟩ .interval 1, mark ⟨1004, 0⟩ .calendar 2] })
    let free := s.setSch { s.sch with hold := HoldSet.none }
    let unset := (free.setSch { free.sch with hold := { HoldSet.none with notime := true } }).setTmb { running.tmb with validity := .unset }
    let reset := some (⟨.set, .hostSet⟩ : ValidityChange)
    (stepWith ⟨0, 0⟩ .hostSet reset 1 s).sch.hold.isEmpty = false ∧ (stepWith ⟨0, 0⟩ .hostSet none 0 free).sch.hold.isEmpty = true ∧
      (stepWith ⟨0, 0⟩ .hostSet reset 1 unset).sch.hold.isEmpty = true ∧ Validity.set ≠ unset.tmb.validity ∧
      (mark ⟨1003, 0⟩ .interval 1) ∈ s.sch.entries ∧ (∀ e ∈ free.sch.entries, e.rep = none) ∧
      (mark ⟨1003, 0⟩ .interval 1).due.ticks + (⟨0, 0⟩ : Instant).ticks ≤ Instant.top.ticks + s.now ∧
      Instant.top.ticks + s.now < (mark ⟨1003, 0⟩ .interval 1).due.ticks + Instant.top.ticks ∧
      s.lnk.tx ≠ .idle ∧ s.lnk.notices.length + s.sch.entries.length + 2 ≤ Config.noticeMax := by decide

theorem witness_ValidityChangesAreReported :
    Validity.set = running.tmb.validity ∧ Validity.unset ≠ running.tmb.validity ∧
    (Validity.set ≠ State.reset.tmb.validity ∧ State.reset.tmb.validity = .unset) ∧
    (Validity.holdover ≠ running.tmb.validity ∧ running.tmb.validity ≠ .unset) ∧
    running.lnk.tx ≠ .idle ∧ running.lnk.notices.length < Config.noticeMax := by decide

theorem witness_TimeAdjustsAndClears : Quiet (rq 0) running := quiet_of rfl rfl
theorem witness_TrimSets : Quiet (po 7) running := quiet_of rfl rfl

theorem witness_ActAddChecksAndInserts :
    (Quiet (rq 0) loading ∧ loading.loading = true) ∧
    (Quiet (rq 0) running ∧ running.loading = false ∧ readActAdd (addMark 3155760000 0) running.now = none ∧
      readActAdd (addMark 3155759999 1023) running.now = some (mark Instant.top .calendar 0)) :=
  ⟨⟨quiet_of rfl rfl, rfl⟩, quiet_of rfl rfl, rfl, by decide, by decide⟩

theorem witness_InsertionsTakeTheirPlace :
    let c : Sch := { Sch.fresh HoldSet.none with entries := List.replicate 128 (mark ⟨5, 0⟩ .calendar 1), lastHandle := 65535 }
    (c.entries.length ≤ 128 ∧ c.lastHandle ≤ 65535 ∧ ∀ x ∈ c.entries, x.handle ≠ nextCandidate 2) ∧
    ((Sch.fresh HoldSet.none).stamps ≠ stampTop ∧
      (Sch.insertNew (Sch.fresh HoldSet.none) (mark ⟨5, 0⟩ .calendar 1)).entries = [mark ⟨5, 0⟩ .calendar 1]) ∧
    (Sch.fresh HoldSet.none).entries.Pairwise Entry.precedes ∧
    ({ c with stamps := stampTop } : Sch).stamps = stampTop ∧
    (let d : Sch := { Sch.fresh HoldSet.none with entries := [mark ⟨5, 0⟩ .calendar 1, mark ⟨6, 0⟩ .calendar 2], stamps := stampTop }
     d.stamps = stampTop ∧ d.entries.Pairwise Entry.precedes ∧
       (d.insertNew (mark ⟨5, 0⟩ .calendar 9)).entries.map (·.stamp) = [1, 3, 2]) :=
  ⟨by decide +kernel, by decide, List.Pairwise.nil, rfl, rfl, by simp [Entry.precedes]; decide, by decide +kernel⟩

theorem witness_CancelsAndPurges : Quiet (rq 0) running := quiet_of rfl rfl
theorem witness_HoldsReleasesConfigures : Quiet (po 255) running := quiet_of rfl rfl

/-- A repeating entry and a single one, each due now with another entry behind it. -/
theorem witness_TakingsClaimConsumeAndReport :
    let e : Entry := { mark ⟨1000, 100⟩ .calendar 1 with rep := some ⟨8, 0⟩ }
    let x := mark ⟨1000, 101⟩ .calendar 2
    let s := running.setSch { running.sch with entries := [e, x] }
    (e.rep = some ⟨8, 0⟩ ∧ 0 < (⟨8, 0⟩ : Rep).period ∧ x.rep = none) ∧ s.sch.entries = e :: [x] ∧ s.sch.hold.isEmpty = true ∧ e.due.ticks ≤ s.now ∧
      (∀ y ∈ [x], s.now < y.due.ticks) ∧ [x].Pairwise Entry.precedes ∧ (e.consume 0).nextDue = some 1024108 ∧
      s.sch.stamps ≠ stampTop ∧ e.notify = true ∧ ((mark ⟨1000, 100⟩ .calendar 1).consume 0).nextDue = none :=
  ⟨by decide, rfl, by decide, by decide, by decide, List.pairwise_singleton _ _, by decide, by decide, rfl, by decide⟩

theorem witness_PassesTakeEverythingDue :
    let s := running.setSch { running.sch with entries := [mark ⟨1000, 100⟩ .calendar 1, mark ⟨1000, 101⟩ .calendar 2] }
    s.sch.entries.Pairwise Entry.precedes ∧ s.sch.hold.isEmpty = true ∧ (∀ e ∈ s.sch.entries, e.rep = none) ∧
      (∃ e ∈ s.sch.entries, e.due.ticks ≤ s.now) ∧ (∃ e ∈ s.sch.entries, s.now < e.due.ticks) := by
  refine ⟨?_, by decide, by decide, by decide, by decide⟩
  exact List.pairwise_pair.mpr (.inl (by decide))

theorem witness_LineConfigures :
    let out : LineRecord := ⟨1, 1, 0, 0, 0, 0⟩
    let locked := running.setPrs { running.prs with locked := true }
    (Quiet (rq 0) locked ∧ locked.prs.locked = true) ∧
    (Quiet (rq 0) loading ∧ loading.prs.locked = false ∧ loading.loading = true) ∧
    (Quiet (rq 0) running ∧ running.prs.locked = false ∧ running.loading = false ∧ (0 : Byte).toNat < 1 ∧
      16 < (17 : Byte).toNat ∧ LineRecord.config ⟨1, 0, 0, 1, 0, 0⟩ = none) ∧
    ((1 : Byte).toNat = (0 : LineNo).val + 1 ∧ (16 : Byte).toNat = (15 : LineNo).val + 1 ∧ LineRecord.config out = some ⟨.pushPull, .high, .low, .none, 0, .none⟩) :=
  ⟨⟨quiet_of rfl rfl, rfl⟩, ⟨quiet_of rfl rfl, rfl, rfl⟩, ⟨quiet_of rfl rfl, rfl, rfl, by decide, by decide, by decide⟩,
    by decide, by decide, by decide⟩

theorem witness_LineDrives : Quiet (po 0) withLines ∧ ¬(3 < (3 : Byte).toNat) ∧ (65535 : W16) ≠ 0 ∧
    (∀ n : LineNo, (1 : W16).getLsbD n = true → withLines.outputRole n = true) :=
  ⟨quiet_of rfl rfl, by decide, by decide +kernel⟩

theorem witness_CaptureConfiguresAndAcknowledges : Quiet (rq 0) running := quiet_of rfl rfl

theorem witness_TriggerRequests :
    let s := withLines.setTrg (withLines.trg.set 7 (some trigger5))
    (Quiet (rq 0) loading ∧ loading.loading = true) ∧
    (Quiet (rq 0) s ∧ s.loading = false ∧ (8 : Byte).toNat = (7 : TrigNo).val + 1 ∧ (1 : Byte).toNat = (0 : TrigNo).val + 1 ∧
      8 < (9 : Byte).toNat ∧ (0 : Byte).toNat < 1 ∧ readTrigDef 5 0 1048576 65535 3 1 512 0 true = none ∧
      readTrigDef 5 0 1048575 65535 3 1 512 0 true =
        some { trigger5.defn with delay := 1048575, holdoff := 65535 } ∧
      s.trg[(0 : TrigNo)] = none ∧ s.trg[(7 : TrigNo)] = some trigger5) :=
  ⟨⟨quiet_of rfl rfl, rfl⟩, quiet_of rfl rfl, rfl, by decide, by decide, by decide, by decide, by decide, by decide, by decide, by decide⟩

theorem witness_RefConfigures :
    (Quiet (rq 0) loading ∧ loading.loading = true) ∧
    (Quiet (rq 0) running ∧ running.loading = false ∧ readRefConfig 2 0 513 1 2 = none ∧
      readRefConfig 2 0 512 15 60 = some ⟨.steer, .rise, 512, 15, 60⟩) :=
  ⟨⟨quiet_of rfl rfl, rfl⟩, quiet_of rfl rfl, rfl, by decide, by decide⟩

/-- A reference in each mode and an edge on each side of the window, at the boundary ticks. -/
def steering (mode : RefMode) (run : Nat) : State :=
  running.setRds { Rds.fresh with line := some 7, config := ⟨mode, .rise, 8, 3, 5⟩, state := .active, run := run }

theorem witness_ReferenceEdgesAreSampled :
    let e : EdgeReport := ⟨7, .rise, ⟨1000, 8⟩, 0⟩
    let far : EdgeReport := ⟨7, .rise, ⟨1000, 512⟩, 0⟩
    (e.onset.tick ≤ 1023 ∧ running.rds.state = .idle) ∧
    ((steering .steer 0).rds.state ≠ .idle ∧ e.edge = (steering .steer 0).rds.config.edge ∧
      (steering .steer 0).tmb.validity ≠ .unset ∧ e.generation = (steering .steer 0).tmb.generation) ∧
    ((steering .observe 0).rds.config.mode ≠ .steer) ∧
    ((offsetOf e.onset.tick).natAbs ≤ (steering .steer 0).rds.config.window ∧
      (steering .steer 0).rds.config.window < (offsetOf far.onset.tick).natAbs) ∧
    ((steering .steer 1).rds.run + 1 < (steering .steer 1).rds.config.limit ∧
      (steering .steer 2).rds.config.limit ≤ (steering .steer 2).rds.run + 1) ∧
    ((7 : W16) ≠ (steering .steer 0).tmb.generation) := by decide

theorem witness_ProfileRequests :
    let absent := running.setPrs { running.prs with present := false }
    let locked := running.setPrs { running.prs with locked := true }
    (Quiet (rq 0) absent ∧ absent.prs.present = false) ∧
    (Quiet (rq 0) locked ∧ locked.prs.present = true ∧ locked.prs.locked = true) ∧
    (Quiet (rq 0) loading ∧ loading.prs.present = true ∧ loading.prs.locked = false ∧ loading.prs.job ≠ .idle) ∧
    (Quiet (rq 0) running ∧ running.prs.present = true ∧ running.prs.locked = false ∧ running.prs.job = .idle) :=
  ⟨⟨quiet_of rfl rfl, rfl⟩, ⟨quiet_of rfl rfl, rfl, rfl⟩, ⟨quiet_of rfl rfl, rfl, rfl, by decide⟩,
    quiet_of rfl rfl, rfl, rfl, rfl⟩

theorem witness_LeaseRequests :
    let expired := running.setLsm ⟨600, .hold, .expired, 614400⟩
    Quiet (rq 0) running ∧ running.lsm.state ≠ .expired ∧ Quiet (rq 0) expired ∧ expired.lsm.state = .expired :=
  ⟨quiet_of rfl rfl, by decide, quiet_of rfl rfl, rfl⟩

theorem witness_Restarts :
    let s := running.setLnk { running.lnk with tx := .reply, replies := [.answer 1 3 .ok false [] true] }
    Quiet (rq 0) running ∧ running.lnk.tx ≠ .forReply ∧ Quiet (po 0) running ∧ s.power = true ∧ s.lnk.tx = .reply ∧
      s.lnk.replies = .answer 1 3 .ok false [] true :: [] :=
  ⟨quiet_of rfl rfl, by decide, quiet_of rfl rfl, rfl, rfl, rfl⟩

theorem witness_GoodFramesReachTheirHandler :
    Listening running ∧ (List.replicate 250 (0 : Byte)).length ≤ 250 ∧ 1 ≤ (1 : Byte).toNat ∧ (32 : Byte).toNat ≤ 32 ∧
      (∀ n : Byte, [(33 : Byte)] = [n] → n.toNat = 0 ∨ 32 < n.toNat) ∧ [(0 : Byte)] ≠ [] ∧ unknownKind 0 = true ∧ unknownKind 5 = true :=
  ⟨listening_running, List.length_replicate.le, by decide, by decide, by intro n h; cases h; decide, by decide, by decide, by decide⟩

theorem witness_LinkResets :
    let s := running.setLnk { running.lnk with replies := [.answer 1 3 .ok false [] true] }
    (Listening running ∧ running.lnk.tx ≠ .forReply ∧ running.lnk.waiting.any Reply.isRestart = false) ∧
    (Listening s ∧ s.lnk.tx ≠ .forReply ∧ s.lnk.waiting.any Reply.isRestart = true) :=
  ⟨⟨listening_running, by decide, by decide⟩, ⟨rfl, rfl, rfl⟩, by decide, by decide⟩

theorem witness_DiscardedFramesAreScannedAgain :
    Listening running ∧ running.lnk.waiting.any Reply.isRestart = false ∧ 250 < (251 : Byte).toNat ∧
      ([] : List Byte).length ≤ 250 ∧ (0 : W16) ≠ crc16 (BitVec.ofNat 8 0 :: 1 :: 0 :: []) :=
  ⟨listening_running, by decide, by decide, by decide, by decide +kernel⟩

theorem witness_BytesMoveTheReceiver :
    running.power = true ∧ running.lnk.backlog = [] ∧ running.lnk.inbound = [] ∧ running.lnk.rx = .hunt ∧
    (running.setRx (.header [250])).lnk.rx = .header [250] ∧ (running.setRx (.header [250, 1])).lnk.rx = .header [250, 1] ∧
    (250 : Byte).toNat ≤ 250 ∧ (running.setRx (.body [1, 2, 3])).lnk.rx = .body (1 :: [2, 3]) ∧
    (running.setRx (.check [0, 2, 3])).lnk.rx = .check (0 :: [2, 3]) ∧ [(2 : Byte), 3].length + 1 = 3 + (0 : Byte).toNat ∧
    (running.setRx (.header [])).lnk.rx ≠ .hunt := by decide

/-- A queue with one frame, in each position to the sequence state. -/
def queued (f : HostFrame) (q : SeqState) : State :=
  running.setLnk { running.lnk with inbound := [f], seqState := q, cache := .reply (.answer 41 0x10 .ok false [1] false) }

theorem witness_TakenFrames :
    let f : HostFrame := ⟨rq 41, [0x10]⟩
    let bad : HostFrame := ⟨rq 42, [0x99]⟩
    (∀ q, (queued f q).power = true ∧ (queued f q).lnk.inbound = f :: [] ∧ (queued f q).lnk.replies.length < 2 ∧
      (queued f q).lnk.restartPending = false) ∧
    ((queued f (.expecting 42 41 .request)).lnk.seqState = .expecting 42 41 .request ∧ f.head.seq ≠ 42 ∧ f.head.seq = 41 ∧
      f.head.kind = .request ∧ (queued f (.expecting 42 41 .request)).lnk.cache = .reply (.answer 41 0x10 .ok false [1] false)) ∧
    ((queued f (.expecting 42 41 .posted)).lnk.seqState = .expecting 42 41 .posted) ∧
    ((queued f (.expecting 7 6 .posted)).lnk.seqState = .expecting 7 6 .posted ∧ f.head.seq ≠ 7 ∧ f.head.seq ≠ 6 ∧
      (⟨po 41, [0x28]⟩ : HostFrame).head.kind = .posted) ∧
    ((queued bad (.expecting 42 41 .posted)).lnk.seqState = .expecting bad.head.seq 41 .posted ∧
      decodePayload bad.head.kind bad.payload = .error (0x99, .unknownRequest)) :=
  ⟨fun _ => ⟨rfl, rfl, (by decide : running.lnk.replies.length < 2), rfl⟩, by decide, by decide, by decide, rfl, rfl⟩

theorem witness_TransmitterChooses :
    let k := running.lnk
    let idle := running.setLnk { k with tx := .idle, notices := [(5, .noticesLost 1)], credits := 1 }
    let busy := running.setLnk { k with tx := .reply, replies := [.linkReset 1, .linkReset 2] }
    let full := running.setLnk { k with notices := List.replicate 32 (5, .noticesLost 1), lost := 1, credits := 1 }
    let answers : Lnk := { k with tx := .reply, replies := [.answer 7 0x10 .ok true [1] false] }
    (busy.power = true ∧ busy.lnk.tx ≠ .forReply ∧ (∀ r ∈ busy.lnk.replies, r.isRestart = false) ∧ busy.lnk.replies ≠ [] ∧
      busy.lnk.replies.tail ≠ []) ∧
    (running.lnk.replies = [] ∧ running.lnk.notices = []) ∧
    (idle.lnk.notices = (5, .noticesLost 1) :: [] ∧ 0 < idle.lnk.credits ∧ idle.lnk.tx = .idle) ∧
    (full.lnk.notices = (5, .noticesLost 1) :: List.replicate 31 (5, .noticesLost 1) ∧ 0 < full.lnk.credits ∧ 0 < full.lnk.lost) ∧
    (answers.tx = .reply ∧ answers.replies = .answer 7 0x10 .ok true [1] false :: []) ∧
    (busy.lnk.tx = .reply ∧ busy.lnk.replies = .linkReset 1 :: [.linkReset 2]) ∧
    running.lnk.tx = .notice 0 (.started .cold false false true) := by
  decide +kernel

theorem witness_PowerComesUp :
    running.power = true ∧ (running.setPower false).power = false ∧ (running.setPower false).tmb.marker = true ∧
      ((running.setPower false).setTmb { running.tmb with marker := false }).tmb.marker = false := by decide

theorem witness_MainResetSetsTheBlocks : running.power = true ∧ running.prs.command = none := by decide

theorem witness_BackupDomainGoesOn :
    let off := running.setPower false
    off.power = false ∧ off.tmb.marker = true ∧ running.power = true ∧ running.prs.command = none ∧
      (∃ t, exec .powerLoss off = .next t) ∧ (∀ b p, Instr.powerLoss ≠ .powerUp b p) ∧ (∀ x d, Instr.powerLoss ≠ .rawLevelChange x d) ∧
      ((withLines.setPower false).lin[(4 : LineNo)]).ext = some .high :=
  ⟨rfl, rfl, rfl, rfl, ⟨_, rfl⟩, fun _ _ => by simp, fun _ _ => by simp, rfl⟩

/-- A part between ticks, with a pulse, three filters, a holdoff, an edge count and a lease that all go on counting. -/
def ticking : State :=
  ((((((withLines.setLine 0 (outLine ⟨.high, some ⟨.low, 2⟩⟩)).setLine 5 (inLine ⟨.low, some ⟨14, ⟨1000, 90⟩, 0⟩⟩ 16 .high)).setLine 6
    (inLine ⟨.low, some ⟨3, ⟨1000, 90⟩, 0⟩⟩ 16 .low)).setTrg
    ((withLines.trg.set 7 (some { trigger5 with state := .holdoff, remainder := 2 })).set 6 (some trigger5))).setRds
    { Rds.fresh with line := some 7, config := ⟨.steer, .rise, 8, 3, 60⟩, state := .active, count := 61439 }).setLsm
    ⟨600, .restart, .running, 614398⟩)

theorem witness_TicksAreGivenOut :
    (ticking.power = true ∧ ticking.owed = [] ∧ ∀ n, ticking.complete n = false) ∧
    (ticking.tmb.advance.rangeEnd = false ∧ ticking.tmb.advance.slewDone = false ∧ ticking.sch.entries = []) ∧
    ((ticking.lin[(0 : LineNo)]).input = none ∧ (ticking.lin[(0 : LineNo)]).output = some ⟨.high, some ⟨.low, 2⟩⟩ ∧ 1 < 2 ∧
      (ticking.lin[(1 : LineNo)]).output = none) ∧
    ((ticking.lin[(4 : LineNo)]).input = some ⟨.low, none⟩ ∧ ticking.raw 4 ≠ .low ∧ 1 < (ticking.lin[(4 : LineNo)]).config.acceptance) ∧
    ((ticking.lin[(5 : LineNo)]).input = some ⟨.low, some ⟨14, ⟨1000, 90⟩, 0⟩⟩ ∧ ticking.raw 5 ≠ .low ∧
      14 + 1 < (ticking.lin[(5 : LineNo)]).config.acceptance) ∧
    ((ticking.lin[(6 : LineNo)]).input = some ⟨.low, some ⟨3, ⟨1000, 90⟩, 0⟩⟩ ∧ ticking.raw 6 = .low) ∧
    (ticking.trg[(7 : TrigNo)] = some { trigger5 with state := .holdoff, remainder := 2 } ∧
      ticking.trg[(6 : TrigNo)] = some trigger5 ∧ trigger5.state ≠ .holdoff ∧ ticking.trg[(0 : TrigNo)] = none) ∧
    (ticking.rds.state = .active ∧ min 65535 (ticking.rds.count + 1) ≤ ticking.rds.config.timeout * 1024 ∧ running.rds.state = .idle) ∧
    (ticking.lsm.state = .running ∧ ticking.lsm.count + 1 < ticking.lsm.period * 1024 ∧ running.lsm.state ≠ .running) := by
  decide +kernel

/-- A time base at the top value with a correction due. -/
def atTop (tick : Nat) : Tmb :=
  { Tmb.cold with instant := ⟨3155759999, tick⟩, validity := .set, trim := 2047, acc := 1048575, slew := -16384, phase := 63 }

theorem witness_AdvanceIsBounded : (atTop 1023).inRange ∧ (atTop 0).inRange ∧ (atTop 1023).advance.rangeEnd = true ∧
    (atTop 0).advance.rangeEnd = false := by
  unfold Tmb.inRange
  decide

theorem witness_AdvanceRowsDealTheAdvance :
    let s := fun t : Tmb => (running.setTmb t).setOwed [.advance]
    (s (atTop 0)).power = true ∧ TickUnit.advance ∈ (s (atTop 0)).owed ∧ (atTop 0).advance.rangeEnd = false ∧
      (atTop 0).acc + (atTop 0).trim ≥ 1048576 ∧ (atTop 0).phase = 63 ∧ (atTop 0).slew ≠ 0 ∧ (atTop 1023).advance.rangeEnd = true ∧
      (((s (atTop 0)).setSch State.reset.sch)).sch.hold.isEmpty = false ∧ (s (atTop 1023)).tmb.validity ≠ .unset ∧
      (running.tmb.acc + running.tmb.trim < 1048576 ∧ -1048576 < running.tmb.acc + running.tmb.trim ∧ running.tmb.phase ≠ 63 ∧
        running.tmb.advance.rangeEnd = false) := by decide

theorem witness_CountdownsEnd :
    let s := (((withLines.setLine 0 (outLine ⟨.high, some ⟨.low, 1⟩⟩)).setTrg
      (withLines.trg.set 7 (some { trigger5 with state := .holdoff, remainder := 1 }))).setRds
      { Rds.fresh with line := some 7, config := ⟨.steer, .rise, 8, 3, 60⟩, state := .active, count := 61440 }).setOwed tickUnits
    s.power = true ∧ TickUnit.line 0 ∈ s.owed ∧ (s.lin[(0 : LineNo)]).input = none ∧
      (s.lin[(0 : LineNo)]).output = some ⟨.high, some ⟨.low, 1⟩⟩ ∧ TickUnit.trigger 7 ∈ s.owed ∧
      s.trg[(7 : TrigNo)] = some { trigger5 with state := .holdoff, remainder := 1 } ∧ TickUnit.reference ∈ s.owed ∧
      s.rds.state = .active ∧ s.rds.count < 65535 ∧ s.rds.config.timeout * 1024 < s.rds.count + 1 := by decide +kernel

theorem witness_EdgesAreAccepted :
    let at14 := (withLines.setLine 4 (inLine ⟨.low, some ⟨15, ⟨1000, 200⟩, 0⟩⟩ 16 .high)).setOwed tickUnits
    let once := (withLines.setLine 4 (inLine ⟨.low, none⟩ 0 .high)).setOwed tickUnits
    let full := withLines.setLine 4 (inLine ⟨.low, some ⟨16, ⟨1000, 200⟩, 0⟩⟩ 16 .low)
    (at14.power = true ∧ TickUnit.line 4 ∈ at14.owed ∧ (at14.lin[(4 : LineNo)]).input = some ⟨.low, some ⟨15, ⟨1000, 200⟩, 0⟩⟩ ∧
      at14.raw 4 ≠ .low ∧ 15 + 1 = (at14.lin[(4 : LineNo)]).config.acceptance) ∧
    (TickUnit.line 4 ∈ once.owed ∧ (once.lin[(4 : LineNo)]).input = some ⟨.low, none⟩ ∧ once.raw 4 ≠ .low ∧
      (once.lin[(4 : LineNo)]).config.acceptance = 1) ∧
    ((full.lin[(4 : LineNo)]).input = some ⟨.low, some ⟨16, ⟨1000, 200⟩, 0⟩⟩ ∧
      (full.lin[(4 : LineNo)]).config.acceptance ≤ 16) := by decide +kernel

theorem witness_EdgesAreCaptured :
    let full := running.setCap { Cap.fresh with log := List.replicate 256 ⟨0, 0, .rise, ⟨0, 0⟩, 0, .set⟩ }
    running.cap.log.length < 256 ∧ 256 ≤ full.cap.log.length ∧ full.cap.policy = .keepOldest ∧
      (full.setCap { full.cap with policy := .keepNewest }).cap.policy = .keepNewest := by decide +kernel

theorem witness_TriggersFire :
    let s := withLines.setTrg (withLines.trg.set 2 (some trigger5))
    let full := s.setSch { s.sch with entries := List.replicate 128 (mark ⟨5, 0⟩ .calendar 1) }
    s.trg[(2 : TrigNo)] = some trigger5 ∧ trigger5.state = .armed ∧ trigger5.defn.edge = .rise ∧ trigger5.defn.source = 4 ∧
      s.sch.entries.length < 128 ∧ full.trg[(2 : TrigNo)] = some trigger5 ∧ 128 ≤ full.sch.entries.length ∧
      8 ≤ (⟨8, 0⟩ : EdgeOrder).logAfter ∧ s.trg[(0 : TrigNo)] = none ∧ (⟨4, .fall, ⟨0, 0⟩, 0⟩ : EdgeReport).edge = .fall := by
  decide +kernel

theorem witness_LeaseExpires :
    let s := (running.setLsm ⟨600, .restart, .running, 614399⟩).setOwed [.lease]
    s.power = true ∧ TickUnit.lease ∈ s.owed ∧ s.lsm.state = .running ∧ s.lsm.period * 1024 = s.lsm.count + 1 := by decide

/-- A flash whose slot holds a profile of nothing, in generation 1. -/
def plain : Profile :=
  { tolerance := 2, policy := .keepOldest, mark := 1, ref := RefConfig.default, period := 0, fallback := .notify,
    lines := Vector.replicate 16 LineConfig.off, triggers := Vector.replicate 8 none, entries := [] }

/-- Bytes from an address on, as flash cells. -/
def cellsFrom : Nat → List Byte → List Host.Cell
  | _, [] => []
  | a, b :: bs => if b = 0xFF then cellsFrom (a + 1) bs else (a, b) :: cellsFrom (a + 1) bs

def flashWith (slot : Slot) : List Host.Cell := cellsFrom slot.base (slotImage 1 plain)

theorem plain_validates_in_b : validateSlot (flashWith .b) .b = some (1, plain) ∧ validateSlot (flashWith .b) .a = none ∧
    rankedFirst (flashWith .b) = .b := by decide +kernel
theorem nothing_validates : validateSlot [] .a = none ∧ validateSlot [] .b = none ∧ rankedFirst [] = .a := by decide +kernel

theorem witness_StartUpReadsTheSlots :
    State.reset.power = true ∧ State.reset.prs.job = .scanning ∧
    (∀ m, ((running.setCells m).setJob (.loading true .validating)).prs.job = .loading true .validating) ∧
    ((describe (validateSlot [] .a)).valid = false ∧ (describe (validateSlot [] .b)).valid = false) ∧
    (validateSlot (flashWith .b) .b = some (1, plain) ∧ validateSlot (flashWith .b) Slot.b.other = none) :=
  ⟨rfl, rfl, fun _ => rfl, by rw [nothing_validates.1, nothing_validates.2.1]; decide,
    plain_validates_in_b.1, plain_validates_in_b.2.1⟩

/-- A flash in which the slot ranked first has a good header and no body, and the other slot is valid. -/
def flashFallback : List Host.Cell := cellsFrom Slot.a.base (slotHeader 2 [1]) ++ flashWith .b

theorem witness_LoadsApplyTheRankedSlot :
    (loading.power = true ∧ loading.prs.job = .loading false .validating ∧ loading.loading = true) ∧
    (validateSlot (flashWith .b) (rankedFirst (flashWith .b)) = some (1, plain)) ∧
    (rankedFirst flashFallback = .a ∧ validateSlot flashFallback .a = none ∧ validateSlot flashFallback .b = some (1, plain)) ∧
    (validateSlot [] (rankedFirst []) = none ∧ validateSlot [] (rankedFirst []).other = none) ∧
    (∀ st, (running.setJob (.loading false (.applying .a 1 false st 0 0))).applying = true) := by
  refine ⟨⟨rfl, rfl, rfl⟩, ?_, by decide +kernel, ?_, fun _ => rfl⟩
  · rw [plain_validates_in_b.2.2]; exact plain_validates_in_b.1
  · rw [nothing_validates.2.2]; exact ⟨nothing_validates.1, nothing_validates.2.1⟩

theorem witness_StoredEntriesAreJudged :
    let e : StoredEntry := { label := 0, due := ⟨5, 0⟩, kind := .mark, lines := 0, width := 0, period := some 8, remaining := 3,
                             late := .run, guard := none, notify := false }
    (Validity.set ≠ .unset ∧ e.due.ticks ≤ 5120 ∧ e.period = some 8 ∧ 0 < 8) ∧ 5119 < e.due.ticks ∧
      ({ e with period := none, remaining := 0 } : StoredEntry).period = none := by decide

/-- A save under way, at each of its stages. -/
def saving (job : PrsJob) : State :=
  running.setPrs { running.prs with job := job, target := some .b, image := some ⟨1, [1, 2, 3]⟩ }

/-- An erase under way: it has no image (R145). -/
def erasing (job : PrsJob) (slot : Slot) : State :=
  running.setPrs { running.prs with job := job, target := some slot, image := none }

/-- A flash command in hand at a reset and at a loss of supply: the premises of MainResetSetsTheBlocks and BackupDomainGoesOn. -/
theorem witness_command_in_hand :
    (saving .saveErase).power = true ∧ (saving .saveErase).prs.command = some (.erase .b) ∧
      (saving (.saveProgram 0 [])).prs.command = some (.program 4096 [1, 2, 3]) ∧
      Memory.wf (saving .saveErase).flash.cells = true := by decide +kernel

/-- Each stage in which a loss of supply cuts a command short: the further premises of BackupDomainGoesOn. -/
theorem witness_stages_cut_short :
    (∀ j, (saving j).power = true ∧ (saving j).prs.target = some .b ∧ (saving j).prs.image = some ⟨1, [1, 2, 3]⟩ ∧ (saving j).prs.job = j) ∧
    (∀ j slot, (erasing j slot).power = true ∧ (erasing j slot).prs.job = j) :=
  ⟨fun _ => ⟨rfl, rfl, rfl, rfl⟩, fun _ _ => ⟨rfl, rfl⟩⟩

/-- Page 0 of slot B cut short by loss of supply with the lowest generation byte alone written: the body's CRC would let the slot
validate with generation 0xFFFFFF07, and R149 does not leave it so; the full image with generation 7 may be left. -/
theorem test_cut_page_0 :
    let p := { (saving (.saveProgram 0 [])).prs with image := some ⟨7, slotImage 7 plain⟩ }
    (validateSlot (Memory.writeAll [] 4096 (slotImage 0xFFFFFF07 plain)) .b).isSome = true ∧
    p.lossLeaves [] (Memory.writeAll [] 4096 (slotImage 0xFFFFFF07 plain)) = false ∧
    p.lossLeaves [] (Memory.writeAll [] 4096 (slotImage 7 plain)) = true := by decide +kernel

theorem witness_SavesAndErasesGoThroughTheirStages :
    (∀ j, (saving j).power = true ∧ (saving j).prs.target = some .b ∧ (saving j).prs.image = some ⟨1, [1, 2, 3]⟩ ∧ (saving j).prs.job = j) ∧
    0 < [(1 : Byte), 2, 3].length ∧
    Memory.readAll (Memory.writeAll [] Slot.b.base [1, 2, 3]) Slot.b.base 3 = [1, 2, 3] ∧
    Memory.readAll (saving .saveVerify).flash.cells Slot.b.base 3 ≠ [1, 2, 3] ∧
    (∀ j slot, (erasing j slot).power = true ∧ (erasing j slot).prs.job = j ∧ (erasing j slot).prs.image = none) ∧
    (∃ d, (erasing (.eraseA ⟨true, 1⟩) .a).prs.job = .eraseA d) ∧ (erasing .eraseB .b).prs.job = .eraseB ∧ running.prs.job = .idle :=
  ⟨fun _ => ⟨rfl, rfl, rfl, rfl⟩, by decide, by decide +kernel, by decide +kernel, fun _ _ => ⟨rfl, rfl, rfl⟩, ⟨_, rfl⟩, rfl, rfl⟩

theorem witness_TimeoutsEndTheOperation :
    (saving .saveErase).power = true ∧ (saving .saveErase).prs.command = some (.erase .b) ∧
    (saving (.saveProgram 0 [])).prs.command ≠ none ∧ (saving (.saveProgram 1 [0])).prs.command ≠ none ∧
    (saving (.saveRecover .verify)).prs.command ≠ none ∧ (saving (.eraseA ⟨true, 1⟩)).prs.command ≠ none ∧
    (saving .eraseB).prs.command ≠ none ∧ Memory.wf (saving .saveErase).flash.cells = true := by decide +kernel

theorem witness_FlashOutsideTheTargetIsKept :
    let s := saving (.saveProgram 15 [0])
    (Instr.pageProgramDone []).wf = true ∧ Memory.wf s.flash.cells = true ∧ s.lnk.rx = .hunt ∧ s.lnk.backlog = [] ∧
      s.lnk.inbound = [] ∧ s.prs.job = .saveProgram 15 [0] ∧ s.prs.target = some .b ∧ Slot.b.holds 0 = false ∧
      Slot.b.holds 8192 = false ∧ (∃ t, exec (.pageProgramDone []) s = .next t) :=
  ⟨rfl, by decide, rfl, rfl, rfl, rfl, rfl, by decide, by decide, ⟨_, rfl⟩⟩

theorem witness_SavedSlotsValidate :
    Memory.wf [] = true ∧ plain.tolerance ≤ 1023 ∧ plain.mark ≤ 256 ∧ plain.period ≤ 600 ∧ plain.ref.window ≤ 512 ∧
      1 ≤ plain.ref.window ∧ plain.ref.limit ≤ 15 ∧ plain.ref.timeout ≤ 60 ∧ 2 ≤ plain.ref.timeout ∧
      (∀ n : LineNo, filterLengths.contains (plain.lines[n]).filter = true ∧ (plain.lines[n]).unusedZero = true) ∧
      (∀ n : TrigNo, plain.triggers[n] = none) ∧ plain.entries = [] ∧ plain.rolesFit = true := by decide +kernel

/-! ### The invariants hold somewhere, and a step is taken there -/

theorem lines_of_running : ∀ n : LineNo, running.lin[n] = Line.fresh none := by decide +kernel

theorem step_running : step running = .next running := rfl

theorem witness_TimeStaysInRange : running.timeOk ∧ step running = .next running := by
  refine ⟨⟨by unfold Tmb.inRange; decide, fun n f r hf => ?_⟩, step_running⟩
  rw [lines_of_running n] at hf; cases hf

theorem witness_LinkStaysInLimits : running.lnk.ok ∧ step running = .next running := by
  refine ⟨⟨by decide, by decide, by decide, by decide, by decide, by unfold Counters.inRange; decide, by decide,
    fun h => absurd h (by decide), trivial, fun e l k h => (SeqState.noConfusion h), rfl⟩, step_running⟩

theorem witness_StoredDataStaysCanonical : running.cap.ok ∧ Memory.wf running.flash.cells = true ∧ step running = .next running :=
  ⟨⟨by decide, by decide, fun _ => rfl, by decide, fun _ => .inr rfl⟩, by decide, step_running⟩

theorem witness_ScheduleStaysOrdered : running.scheduleOk ∧ step running = .next running := by
  refine ⟨⟨List.Pairwise.nil, List.nodup_nil, fun e he => absurd he List.not_mem_nil,
    ⟨fun e he => absurd he List.not_mem_nil, fun su slot gen fb st i d h => (PrsJob.noConfusion h)⟩,
    fun _ _ e he => absurd he List.not_mem_nil⟩, step_running⟩

theorem witness_HoldsFollowTheirCause : running.holdsOk ∧ running.lsm.ok ∧ step running = .next running :=
  ⟨fun _ => by decide, ⟨rfl, rfl⟩, step_running⟩

theorem witness_LinesAndReferenceStayCoherent : running.rds.ok ∧ running.linesOk ∧ step running = .next running := by
  refine ⟨⟨by decide, fun _ => rfl, by decide, by decide⟩, fun n => ?_, step_running⟩
  rw [lines_of_running n]
  exact ⟨rfl, rfl, fun o p h => (by cases h), fun f r h => (by cases h), by decide⟩

/-- A part whose load has applied every stage of a profile of nothing up to the entries. -/
def applying : State := running.setJob (.loading false (.applying .a 1 false (plain.stages.drop 8) 0 0))

theorem witness_NamedLinesKeepTheirRoles :
    (running.rolesOk ∧ running.referenceOk ∧ running.loadOk ∧ step running = .next running) ∧ applying.loadOk := by
  have fit : plain.rolesFit = true := by decide +kernel
  refine ⟨⟨⟨by decide +kernel, by decide +kernel⟩, fun n => ?_, fun su slot gen fb st i d h => (PrsJob.noConfusion h), step_running⟩, ?_⟩
  · rw [lines_of_running n]
    exact ⟨fun h => absurd h (by decide), nofun⟩
  · intro su slot gen fb st i d h
    cases h
    refine ⟨plain, 8, rfl, fit, fun _ _ n => ?_, fun _ _ => rfl, fun h => absurd h (by decide), fun _ n => ?_⟩
    · exact (by decide +kernel : ∀ n : TrigNo, running.trg[n] = none) n
    · exact (by decide +kernel : ∀ n : LineNo, (running.lin[n]).config = plain.lines[n]) n

end Sys2Proof.Tests
end

/-! ## What every command keeps: an invariant from the operations it is made of -/

namespace Sys2Proof.Machine

/-- A property that the operations of a powered part keep, one by one: the blocks' own operations, and any change of the link.
The commands are made of these, so they keep it too (`Kept.exec_powered`). -/
structure Kept (P : State → Prop) : Prop where
  link      : ∀ s k, P s → P (s.setLnk k)
  renew     : ∀ s, P s → P (renewLease s)
  answer    : ∀ r after s, P s → P (answer r after s).state
  reset     : ∀ cause s, P s → P (mainReset cause s)
  pins      : ∀ pins s, P s → P (setPins pins s)
  pin       : ∀ pin drive s, P s → P (changePin pin drive s)
  owed      : ∀ us s, P s → P (s.setOwed us)
  draw      : ∀ s, P s → P s.drawn
  elapsed   : ∀ x s, P s → P (s.setTmb { s.tmb with elapsed := x })
  part      : ∀ p s, P s → P (doPart p s)
  accept    : ∀ n order s, P s → P (acceptRun n order s)
  scanned   : ∀ s, P s → P (scanned s)
  startUp   : ∀ s, s.prs.job.isLoading = true → P s → P (startUpValidated s)
  requested : ∀ s, s.prs.job.isLoading = true → P s → P (requestedValidated s)
  stage     : ∀ s, P s → P (loadStep s)
  erased    : ∀ s, P s → P (saveErased s)
  page      : ∀ flaws s, P s → P (pageProgrammed flaws s)
  verified  : ∀ s, P s → P (saveVerified s)
  timeout   : ∀ s, P s → P (flashTimedOut s)
  recovered : ∀ s, P s → P (recoveryErased s)
  slot      : ∀ s, P s → P (slotErased s)

/-- A run of operations keeps what each of them keeps. -/
theorem foldl_keeps {α : Type} {P : State → Prop} {f : State → α → State} (h : ∀ a s, P s → P (f s a)) :
    ∀ (as : List α) (s : State), P s → P (as.foldl f s)
  | [], _, hs => hs
  | a :: as, s, hs => foldl_keeps h as (f s a) (h a s hs)

namespace Kept

variable {P : State → Prop} (hP : Kept P)
include hP

/-! ### The link -/

theorem post (n : Notice) {s : State} (hs : P s) : P (post n s) := hP.link s _ hs

theorem linkReset (seq : Byte) {s : State} (hs : P s) : P (linkReset seq s) := by
  unfold Machine.linkReset
  split
  · exact hP.reset _ _ hs
  · exact hP.link _ _ hs

theorem creditFrame (p : List Byte) {s : State} (hs : P s) : P (creditFrame p s) := by
  unfold Machine.creditFrame
  split
  · split <;> exact hP.link _ _ hs
  · exact hP.link _ _ hs

theorem offerFrame (f : HostFrame) {s : State} (hs : P s) : P (offerFrame f s) := by
  unfold Machine.offerFrame
  split <;> exact hP.link _ _ hs

/-- A good frame renews the lease and is handled by its KIND (R165). -/
theorem goodFrame (kind seq : Byte) (p : List Byte) {s : State} (hs : P s) : P (goodFrame kind seq p s) := by
  have hr := hP.renew s hs
  unfold Machine.goodFrame
  dsimp only
  split
  · exact hP.offerFrame _ hr
  · exact hP.offerFrame _ hr
  · exact hP.creditFrame _ hr
  · split
    · exact hP.linkReset _ hr
    · exact hP.link _ _ hr
  · exact hP.link _ _ hr

/-- A byte changes the link alone, but for the frame that it may complete (R163, R165). -/
theorem receiverStep (b : Byte) {s : State} (hs : P s) : P (receiverStep b s) := by
  have hafter : ∀ held, P (afterSeq held s) := by
    intro held
    unfold afterSeq
    dsimp only
    split <;> exact hP.link _ _ (hP.link _ _ hs)
  have hdone : ∀ held, P (completeFrame held s) := by
    intro held
    unfold completeFrame
    dsimp only
    split
    · exact hP.goodFrame _ _ _ (hP.link _ _ hs)
    · exact hP.link _ _ (hP.link _ _ hs)
  unfold Machine.receiverStep
  split
  · split
    · exact hP.link _ _ hs
    · exact hs
  · dsimp only
    split
    · exact hP.link _ _ hs
    · exact hafter _
  · exact hP.link _ _ hs
  · dsimp only
    split
    · exact hP.link _ _ hs
    · exact hdone _

theorem settlePosted (f : HostFrame) (st : Status) {s : State} (hs : P s) : P (settlePosted f st s) := by
  unfold Machine.settlePosted
  dsimp only
  split
  · exact hP.link _ _ hs
  · exact hP.post _ (hP.link _ _ hs)

/-- A frame is executed: the owner's change between changes of the link, or a posted RESTART (R170, R179). -/
theorem executeFrame (f : HostFrame) (after : Nat) {s : State} (hs : P s) : P (executeFrame f after s) := by
  have hq : P (advanceSeq f.head s) := hP.link _ _ hs
  have hheld : P (holdForReply (advanceSeq f.head s)) := by
    unfold holdForReply
    split
    · exact hP.link _ _ hq
    · exact hq
  unfold Machine.executeFrame
  dsimp only
  split
  · unfold runRequest
    split
    · exact hP.link _ _ hq
    · exact hP.link _ _ (hP.answer _ _ _ hheld)
  · unfold runPosted
    split
    · exact hP.settlePosted _ _ hq
    · split
      · exact hP.reset _ _ hq
      · exact hP.settlePosted _ _ (hP.answer _ _ _ hq)

/-- A taken frame is executed, repeated, discarded or out of turn (R167 to R169). -/
theorem dealFrame (f : HostFrame) (after : Nat) {s : State} (hs : P s) : P (dealFrame f after s) := by
  have hrep : ∀ b, P (repeatFrame b s) := by
    intro b
    unfold repeatFrame
    dsimp only
    split
    · exact hP.link _ _ (hP.link _ _ hs)
    · exact hP.link _ _ hs
  unfold Machine.dealFrame
  split
  · exact hP.executeFrame f after hs
  · exact hrep _
  · exact hrep _
  · unfold gapFrame
    dsimp only
    split
    · exact hP.link _ _ (hP.link _ _ hs)
    · exact hP.post _ (hP.link _ _ hs)

theorem takeHead (after : Nat) {s : State} (hs : P s) : P (takeHead after s) := by
  unfold Machine.takeHead
  split
  · split
    · exact hs
    · exact hP.dealFrame _ _ (hP.link _ _ hs)
  · exact hs

theorem takeHeads (ks : Taking) {s : State} (hs : P s) : P (takeHeads ks s) :=
  foldl_keeps (f := fun x k => Machine.takeHead k x) (fun k _ h => hP.takeHead k h) ks s hs

theorem takeHeadIf (p : Verdict → HostFrame → Bool) {s : State} (hs : P s) : P (takeHeadIf p s) := by
  unfold Machine.takeHeadIf
  split
  · exact hs
  · split
    · exact hP.takeHead 0 hs
    · exact hs

theorem scan (k : Nat) (ts : List Taking) {s : State} (hs : P s) : P (scan k ts s) := by
  induction k generalizing ts s with
  | zero => exact hs
  | succ k ih =>
    unfold Machine.scan
    split
    · exact hs
    · exact ih _ (hP.takeHeads _ (hP.receiverStep _ (hP.link _ _ hs)))

theorem receiveByte (b : Byte) (ts : List Taking) {s : State} (hs : P s) : P (receiveByte b ts s) :=
  hP.scan _ _ (hP.link _ _ hs)

theorem receiveBytes (bs : List Byte) {s : State} (hs : P s) : P (receiveBytes bs s) :=
  foldl_keeps (f := fun x b => Machine.receiveByte b [] x) (fun b _ h => hP.receiveByte b [] h) bs s hs

theorem sendRequestAfter (h : FrameHead) (r : Request) (after : Nat) {s : State} (hs : P s) :
    P (sendRequestAfter h r after s) :=
  hP.takeHeads _ (hP.receiveBytes _ hs)

theorem transmitted {s : State} (hs : P s) : P (transmitted s) := by
  unfold Machine.transmitted
  split
  · dsimp only
    split
    · exact hP.reset _ _ (hP.link _ _ hs)
    · exact hP.link _ _ (hP.link _ _ hs)
  · exact hP.link _ _ hs
  · exact hP.link _ _ hs

/-! ### The tick -/

theorem deal (p : TickPart) {s : State} (hs : P s) : P (deal p s) := by
  unfold Machine.deal
  split
  · exact hP.part _ _ (hP.owed _ _ hs)
  · exact hs

theorem dealAll (ps : List TickPart) {s : State} (hs : P s) : P (dealAll ps s) :=
  foldl_keeps (f := fun x p => Machine.deal p x) (fun p _ h => hP.deal p h) ps s hs

theorem dealIf (due : Bool) (p : TickPart) {s : State} (hs : P s) : P (dealIf due p s) := by
  unfold Machine.dealIf
  split
  · exact hP.deal p hs
  · exact hs

theorem settle {s : State} (hs : P s) : P (settle s) :=
  hP.dealAll _ (foldl_keeps (f := fun x n => acceptRun n ⟨0, 0⟩ x) (fun n _ h => hP.accept n _ _ h) _ s hs)

theorem nominalTick (now : List TickPart) {s : State} (hs : P s) : P (nominalTick now s) :=
  hP.dealAll _ (hP.owed _ _ (hP.elapsed _ _ (hP.settle hs)))

/-! ### The Profile Store -/

theorem loadSteps (k : Nat) {s : State} (hs : P s) : P (loadSteps k s) := by
  induction k generalizing s with
  | zero => exact hs
  | succ k ih => exact ih (hP.stage s hs)

theorem loadValidated (k : Nat) {s : State} (hs : P s) : P (loadValidated k s) := by
  unfold Machine.loadValidated
  split
  · exact hP.loadSteps k (hP.startUp s (by simp [*, PrsJob.isLoading]) hs)
  · exact hP.loadSteps k (hP.requested s (by simp [*, PrsJob.isLoading]) hs)
  · exact hP.loadSteps k hs
  · exact hs

end Kept

/-! ### The commands -/

/-- A row that is a request sends it in a frame of its own. -/
theorem exec_of_asRequest {i : Instr} {h : FrameHead} {r : Request} (hi : i.asRequest = some (h, r)) (s : State) :
    exec i s = whenPowered (sendRequestAfter h r i.stateAfter) s := by
  cases i <;> simp only [Instr.asRequest, Option.some.injEq, Prod.mk.injEq, reduceCtorEq] at hi <;>
    obtain ⟨rfl, rfl⟩ := hi <;> rfl

/-- A command of a powered part, the loss of supply apart, keeps what the operations keep. -/
theorem Kept.exec_powered {P : State → Prop} (hP : Kept P) {i : Instr} {s : State} (hi : i ≠ .powerLoss)
    (hp : s.power = true) (hs : P s) : ∃ t, exec i s = .next t ∧ P t := by
  have on : ∀ {x : State}, P x → ∃ t, (.next (if s.power then x else s) : Outcome) = .next t ∧ P t :=
    fun {x} hx => ⟨x, by simp [hp], hx⟩
  have same : ∀ x : State, ∃ t, (.next (if s.power then s else x) : Outcome) = .next t ∧ P t :=
    fun x => ⟨s, by simp [hp], hs⟩
  cases hr : i.asRequest with
  | some hq => rw [exec_of_asRequest hr]; exact on (hP.sendRequestAfter _ _ _ hs)
  | none =>
    match i with
    | .powerUp .. | .backupTick | .backupDomainLoss => exact same _
    | .nrst _ => exact on (hP.reset _ _ (hP.pins _ _ hs))
    | .scanDone => exact on (hP.scanned _ hs)
    | .nominalTick now => exact ⟨_, by simp [exec, execNominalTick, hp], hP.nominalTick now hs⟩
    | .trimCarry _ | .slewCorrection _ | .pulseExpiry _ | .holdoffEnd _ | .refLost | .leaseExpiry =>
      exact on (hP.dealIf _ _ hs)
    | .rangeEnd =>
      refine on ?_
      unfold dealRangeEnd
      split
      · exact hP.draw _ (hP.deal _ hs)
      · exact hs
    | .edgeAccept n order =>
      refine on (x := if s.complete n then acceptRun n order s else Machine.dealIf (s.accepting n) (.line n (some order)) s) ?_
      split
      · exact hP.accept n order s hs
      · exact hP.dealIf _ _ hs
    | .byteFramingError => exact on (hP.link _ _ (hP.link _ _ hs))
    | .frameTimeout =>
      refine on ?_
      unfold gapElapsed
      split
      · exact hP.link _ _ (hP.link _ _ hs)
      · exact hs
    | .frameLenDiscard .. | .frameCrcDiscard .. | .frameUnknownKind .. | .credit .. | .linkReset .. =>
      exact on (hP.receiveBytes _ hs)
    | .frameEnqueue .. => exact on (hP.takeHeads _ (hP.receiveBytes _ hs))
    | .frameDuplicate | .frameOutOfTurn | .requestDecodeFail => exact on (hP.takeHeadIf _ hs)
    | .transmitDone _ => exact on (hP.takeHeads _ (hP.transmitted hs))
    | .loadSlotValidated k => exact on (hP.loadValidated k hs)
    | .saveEraseDone => exact on (hP.erased s hs)
    | .pageProgramDone flaws => exact on (hP.page flaws s hs)
    | .verifyDone => exact on (hP.verified s hs)
    | .flashTimeout => exact on (hP.timeout s hs)
    | .recoveryEraseDone => exact on (hP.recovered s hs)
    | .slotEraseDone => exact on (hP.slot s hs)
    | .rawLevelChange pin drive => exact ⟨_, rfl, hP.pin pin drive s hs⟩
    | .byteReceived b takes => exact on (hP.receiveByte b takes hs)

/-- Everything that a command can do while VDD is absent (R6, R7, R69). -/
theorem exec_unpowered (i : Instr) {s : State} (hp : s.power = false) :
    exec i s = .next s ∨ exec i s = .next (backupAdvance s) ∨ exec i s = .next (loseBackup s) ∨
    (∃ pin drive, i = .rawLevelChange pin drive ∧ exec i s = .next (changePin pin drive s)) ∨
    (∃ held pins, i = .powerUp held pins ∧ exec i s = .next (gainPower held pins s)) := by
  have off : ∀ x : State, (.next (if s.power then x else s) : Outcome) = .next s := fun x => by simp [hp]
  cases hr : i.asRequest with
  | some hq => exact .inl ((exec_of_asRequest hr s).trans (off _))
  | none =>
    match i with
    | .powerUp held pins => exact .inr (.inr (.inr (.inr ⟨held, pins, rfl, by simp [exec, execPowerUp, hp]⟩)))
    | .rawLevelChange pin drive => exact .inr (.inr (.inr (.inl ⟨pin, drive, rfl, rfl⟩)))
    | .backupTick => exact .inr (.inl (by simp [exec, execBackupTick, hp]))
    | .nominalTick _ => exact .inr (.inl (by simp [exec, execNominalTick, hp]))
    | .backupDomainLoss => exact .inr (.inr (.inl (by simp [exec, execBackupDomainLoss, hp])))
    | .powerLoss | .nrst _ | .scanDone | .trimCarry _ | .slewCorrection _ | .pulseExpiry _ | .holdoffEnd _ | .refLost
    | .leaseExpiry | .rangeEnd | .edgeAccept .. | .byteFramingError | .frameTimeout | .frameLenDiscard ..
    | .frameCrcDiscard .. | .frameUnknownKind .. | .credit .. | .linkReset .. | .frameEnqueue .. | .frameDuplicate
    | .frameOutOfTurn | .requestDecodeFail | .transmitDone _ | .loadSlotValidated _ | .saveEraseDone | .pageProgramDone _
    | .verifyDone | .flashTimeout | .recoveryEraseDone | .slotEraseDone | .byteReceived .. => exact .inl (off _)

/-- An invariant `Q` of the steps: on a powered part it is `P`, which the operations keep, and it is kept by the supply's coming and
going, by the backup domain alone, and by the pins. -/
theorem step_keeps {P Q : State → Prop} (hP : Kept P) (hon : ∀ s, s.power = true → Q s → P s) (hoff : ∀ s, P s → Q s)
    (hloss : ∀ s, Q s → Q (losePower s))
    (hgain : ∀ held pins s, Q s → Q (gainPower held pins s)) (htick : ∀ s, s.power = false → Q s → Q (backupAdvance s))
    (hlost : ∀ s, Q s → Q (loseBackup s)) (hpin : ∀ pin drive s, Q s → Q (changePin pin drive s))
    (hqueue : ∀ cs s, Q s → Q (s.setPending cs)) {s t : State} (hs : Q s) (h : step s = .next t) : Q t := by
  unfold step at h
  split at h
  · cases h; exact hs
  · rename_i c rest _
    have hq := hqueue rest s hs
    generalize s.setPending rest = u at h hq
    cases hp : u.power with
    | true =>
      by_cases hc : c = .powerLoss
      · subst hc
        have : exec .powerLoss u = .next (losePower u) := by simp [exec, execPowerLoss, whenPowered, hp]
        rw [this] at h; cases h; exact hloss u hq
      · obtain ⟨t', ht, ht'⟩ := hP.exec_powered hc hp (hon u hp hq)
        rw [ht] at h; cases h; exact hoff _ ht'
    | false =>
      obtain e | e | e | ⟨pin, drive, -, e⟩ | ⟨held, pins, -, e⟩ := exec_unpowered c hp <;> rw [e] at h <;> cases h
      · exact hq
      · exact htick u hp hq
      · exact hlost u hq
      · exact hpin pin drive u hq
      · exact hgain held pins u hq

end Sys2Proof.Machine

/-! ## The main reset in full -/

namespace Sys2Proof.Machine

/-- Taking out a reason that is not in the set leaves the set. -/
theorem HoldSet.put_false_of_absent {h : HoldSet} {r : HoldReason} (hr : h.has r = false) : h.put r false = h := by
  cases h; cases r <;> simp_all [HoldSet.has, HoldSet.put]

/-- With an empty schedule the removal of a reason changes the set alone (R40). -/
theorem removeReason_of_no_entries {r : HoldReason} {s : State} (h : s.sch.entries = []) :
    removeReason r s = s.setSch { s.sch with hold := s.sch.hold.put r false } := by
  unfold removeReason
  dsimp only
  split
  · split
    · exact pass_of_none_due (by simp [h])
    · rfl
  · rename_i ha
    rw [HoldSet.put_false_of_absent (Bool.eq_false_iff.2 ha)]; rfl

/-- A notice posted to a busy transmitter with room in the queue takes the next place. -/
theorem post_lnk_of_busy {n : Notice} {s : State} (hn : n.isCapturePending = false) (ht : s.lnk.tx ≠ .idle)
    (hr : s.lnk.notices.length < Config.noticeMax) :
    (post n s).lnk =
      { s.lnk with notices := s.lnk.notices ++ [(s.lnk.nextNotice, n)], nextNotice := s.lnk.nextNotice + 1 } := by
  rw [post_lnk, Lnk.enqueue_of_room hn hr, Lnk.choose_of_busy (by simpa using ht)]

/-- STARTED goes out at once, on one of the two credits of a fresh link (R172, R174, R176). -/
theorem postStarted_lnk (cause : StartCause) (s : State) :
    (postStarted (resetBlocks cause s)).lnk =
      { Lnk.fresh s.straps.arate s.straps.autoload cause with
        tx := .notice 0 (.started cause s.straps.arate s.straps.autoload s.flash.answers), nextNotice := 1, credits := 1 } :=
  rfl

/-- The TIME-STATE of a reset from TRACKING stands behind STARTED (R24). -/
theorem postResetState_lnk (old : Validity) {s : State} (ht : s.lnk.tx ≠ .idle) (hn : s.lnk.notices = []) :
    (postResetState old s).lnk = { s.lnk with
      notices := if old = .tracking then
          [(s.lnk.nextNotice, .timeState .tracking .holdover .mainReset s.tmb.instant s.tmb.generation)] else []
      nextNotice := if old = .tracking then s.lnk.nextNotice + 1 else s.lnk.nextNotice } := by
  unfold postResetState
  split
  · rw [post_lnk_of_busy rfl ht (by simp [hn]), hn]; rfl
  · rw [← hn]

@[simp] theorem postResetState_sch (old : Validity) (s : State) : (postResetState old s).sch = s.sch := by
  unfold postResetState; split <;> rfl
@[simp] theorem postResetState_prs (old : Validity) (s : State) : (postResetState old s).prs = s.prs := by
  unfold postResetState; split <;> rfl
@[simp] theorem postStarted_sch (s : State) : (postStarted s).sch = s.sch := rfl
@[simp] theorem postStarted_prs (s : State) : (postStarted s).prs = s.prs := rfl

/-- The end of a load with an empty schedule: IDLE without LOAD, and PROFILE-DONE (R138). -/
theorem endLoad_of_no_entries {body : ProfileDone} {s : State} (h : s.sch.entries = []) :
    endLoad body s =
      post (.profileDone body) ((s.setJob .idle).setSch { s.sch with hold := s.sch.hold.put .load false }) := by
  unfold endLoad
  rw [removeReason_of_no_entries (by simpa using h)]; rfl

/-- The end of the start-up sequence that a main reset with an absent flash brings at once: its PROFILE-DONE (R135). -/
def startUpDone (autoload : Bool) : Notice :=
  .profileDone (.plain .load (if autoload then .noFlash else .skipped))

/-- The start-up sequence of a state without entries (R135). -/
theorem startUp_of_no_entries {s : State} (h : s.sch.entries = []) :
    startUp s = if s.prs.present then s else post (startUpDone s.lnk.autoload)
      (if s.lnk.autoload then (s.setJob .idle).setSch { s.sch with hold := s.sch.hold.put .load false } else s) := by
  unfold startUp
  split
  · rfl
  · split <;> simp [startUpDone, endLoad_of_no_entries h, *]

/-- The part in the midst of a main reset: every block as `resetBlocks` sets it, STARTED and the TIME-STATE of the reset posted. -/
def resetStarted (cause : StartCause) (s : State) : State :=
  postResetState s.tmb.validity (postStarted (resetBlocks cause (abandonCommand s)))

/-- Abandoning a command does not change what the flash answers. -/
@[simp] theorem abandonCommand_answers (s : State) : (abandonCommand s).flash.answers = s.flash.answers := by
  simp [Flash.answers]

/-- The link in the midst of a main reset (R24, R176). -/
theorem resetStarted_lnk (cause : StartCause) (s : State) :
    (resetStarted cause s).lnk =
      { Lnk.fresh s.straps.arate s.straps.autoload cause with
        tx := .notice 0 (.started cause s.straps.arate s.straps.autoload s.flash.answers), credits := 1
        notices := if s.tmb.validity = .tracking then
            [(1, .timeState .tracking .holdover .mainReset s.tmb.instant s.tmb.generation)] else []
        nextNotice := if s.tmb.validity = .tracking then 2 else 1 } := by
  unfold resetStarted
  rw [postResetState_lnk _ (by rw [postStarted_lnk]; simp) (by rw [postStarted_lnk]; rfl), postStarted_lnk]
  simp [postStarted, resetBlocks]

theorem resetStarted_sch (cause : StartCause) (s : State) :
    (resetStarted cause s).sch = Sch.fresh { host := false, notime := decide (s.tmb.validity = .unset), lease := false,
                                             load := s.straps.autoload } := by
  have hv : (s.tmb.validity.afterReset == .unset) = decide (s.tmb.validity = .unset) := by cases s.tmb.validity <;> rfl
  simp [resetStarted, resetBlocks, hv]

theorem resetStarted_prs (cause : StartCause) (s : State) :
    (resetStarted cause s).prs = Prs.fresh s.flash.answers (startUpJob s.flash.answers s.straps.autoload) := by
  simp [resetStarted, resetBlocks]

/-- A main reset: with the flash absent the start-up sequence ends at once (R135). -/
theorem mainReset_eq (cause : StartCause) (s : State) :
    mainReset cause s =
      if s.flash.answers then resetStarted cause s
      else post (startUpDone s.straps.autoload)
        (if s.straps.autoload then
          ((resetStarted cause s).setJob .idle).setSch
            { (resetStarted cause s).sch with hold := (resetStarted cause s).sch.hold.put .load false }
         else resetStarted cause s) := by
  have h := startUp_of_no_entries (s := resetStarted cause s) (by rw [resetStarted_sch]; rfl)
  rw [resetStarted_prs, resetStarted_lnk] at h
  exact h

/-- The Scheduler after a main reset: empty, and held by NOTIME while UNSET and by LOAD while a load runs (R48). -/
theorem mainReset_sch (cause : StartCause) (s : State) :
    (mainReset cause s).sch = Sch.fresh { host := false, notime := decide (s.tmb.validity = .unset), lease := false,
                                          load := s.flash.answers && s.straps.autoload } := by
  rw [mainReset_eq]
  cases hp : s.flash.answers <;> cases ha : s.straps.autoload <;> simp [resetStarted_sch, Sch.fresh, HoldSet.put, ha]

/-- The Profile Store after a main reset (R128, R135). -/
theorem mainReset_prs (cause : StartCause) (s : State) :
    (mainReset cause s).prs = Prs.fresh s.flash.answers
      (if !s.flash.answers then .idle else if s.straps.autoload then .loading true .validating else .scanning) := by
  rw [mainReset_eq]
  cases hp : s.flash.answers <;> cases ha : s.straps.autoload <;>
    simp [resetStarted_prs, Prs.fresh, startUpJob, hp, ha]

/-- The link after a main reset: STARTED in transmission, behind it the TIME-STATE of the reset and the PROFILE-DONE of a start-up
that ended at once (R24, R135, R176). -/
theorem mainReset_lnk (cause : StartCause) (s : State) :
    (mainReset cause s).lnk =
      if s.flash.answers then (resetStarted cause s).lnk
      else { (resetStarted cause s).lnk with
             notices := (resetStarted cause s).lnk.notices ++
               [((resetStarted cause s).lnk.nextNotice, startUpDone s.straps.autoload)]
             nextNotice := (resetStarted cause s).lnk.nextNotice + 1 } := by
  have hlnk := resetStarted_lnk cause s
  have htx : (resetStarted cause s).lnk.tx ≠ .idle := by simp [hlnk]
  have hroom : (resetStarted cause s).lnk.notices.length < Config.noticeMax := by
    rw [hlnk]; dsimp only; split <;> simp
  rw [mainReset_eq]
  split
  · rfl
  · rw [post_lnk_of_busy rfl (by split <;> exact htx) (by split <;> exact hroom)]
    split <;> rfl

/-- What becomes of the flash at a main reset: a command in hand has completed or has not happened (R149). -/
theorem mainReset_cells (cause : StartCause) (s : State) :
    (s.prs.command = none → (mainReset cause s).flash.cells = s.flash.cells) ∧
    ∀ c, s.prs.command = some c →
      (mainReset cause s).flash.cells = s.flash.cells ∨ (mainReset cause s).flash.cells = c.run s.flash.cells := by
  obtain ⟨-, -, -, -, -, -, -, hflash, -⟩ := mainReset_blocks cause s
  rw [hflash]
  refine ⟨fun h => ?_, fun c h => abandonCommand_cells h⟩
  rw [abandonCommand_of_none h]; rfl

/-- A main reset with these pins and this backup domain leaves every block at its values of a main reset (R24, R176). -/
theorem mainReset_resetTo (cause : StartCause) (pins : StartPins) (b : Tmb) (s : State) :
    s.resetTo b cause pins (mainReset cause (setPins pins ((s.setPower true).setTmb b))) := by
  generalize hu : setPins pins ((s.setPower true).setTmb b) = u
  have hpow : u.power = true := by rw [← hu]; rfl
  have hstraps : u.straps = ⟨pins.arate, pins.autoload⟩ := by rw [← hu]; rfl
  have htmb : u.tmb = b := by rw [← hu]; rfl
  have hlin : u.lin = s.lin := by rw [← hu]; rfl
  have hprs : u.prs = s.prs := by rw [← hu]; rfl
  have hcells : u.flash.cells = s.flash.cells := by rw [← hu]; rfl
  have hmaker : u.flash.maker = pins.maker := by rw [← hu]; rfl
  have hans : u.flash.answers = (pins.maker != 0 && pins.maker != 0xFF) := by rw [Flash.answers, hmaker]
  obtain ⟨rpow, -, rtmb, rcap, rtrg, rrds, rlsm, -, -, -, -, -, rlin⟩ := mainReset_blocks cause u
  obtain ⟨hp1, -, hm, hst⟩ := mainReset_outside cause u
  obtain ⟨hnone, hsome⟩ := mainReset_cells cause u
  rw [hprs, hcells] at hnone hsome
  refine ⟨hp1.trans hpow, hst.trans hstraps, ?_, ?_, ?_, rcap, ?_, rrds, ?_, rlsm, hm.trans hmaker, hnone, ?_, ?_, ?_⟩
  · rw [rtmb, ← htmb]
    cases hv : u.tmb.validity <;> simp [resetBlocks, Validity.afterReset, hv]
  · rw [mainReset_sch, htmb, hans, hstraps]; rfl
  · intro n
    rw [rlin]
    simp [resetBlocks, hlin, Line.fresh, LineConfig.off]
  · intro n
    rw [rtrg]
    simp [resetBlocks]
  · rw [mainReset_prs, hans, hstraps]; rfl
  · exact fun slot h => hsome _ h
  · exact fun a bs h => hsome _ h
  · rw [mainReset_lnk, resetStarted_lnk, hans, hstraps, htmb]
    cases hb : (pins.maker != 0 && pins.maker != 0xFF) <;> by_cases hv : b.validity = .tracking <;>
      simp [hv, Lnk.fresh, startUpDone, Counters.zero]


/-- Settles O36: NRST is `mainReset` at the pins given. -/
theorem mainResetSetsTheBlocks : Obligations.MainResetSetsTheBlocks := by
  intro pins s hp
  have hs : (s.setPower true).setTmb s.tmb = s := by rw [← hp]; rfl
  have h := mainReset_resetTo .pin pins s.tmb s
  rw [hs] at h
  exact ⟨_, by simp [exec, execNrst, whenPowered, hp], h⟩

/-- Settles O35: by the marker, a cold start or a main reset that keeps the backup domain. -/
theorem powerComesUp : Obligations.PowerComesUp := by
  intro nrst pins s
  have hup : s.power = false → exec (.powerUp nrst pins) s = .next (gainPower nrst pins s) := fun hp => by
    simp [exec, execPowerUp, hp]
  refine ⟨fun hp => by simp [exec, execPowerUp, hp], fun hp hm => ?_, fun hp hm => ?_⟩
  · have hg : gainPower nrst pins s = mainReset .cold (setPins pins ((s.setPower true).setTmb Tmb.cold)) := by
      simp [gainPower, setPins, hm]; rfl
    exact ⟨_, hup hp, hg ▸ mainReset_resetTo .cold pins Tmb.cold s⟩
  · have hg : gainPower nrst pins s =
        mainReset (if nrst then .pin else .supply) (setPins pins ((s.setPower true).setTmb s.tmb)) := by
      simp [gainPower, setPins, hm]; rfl
    exact ⟨_, hup hp, hg ▸ mainReset_resetTo _ pins s.tmb s⟩

end Sys2Proof.Machine

/-! ## The advance of the instant -/

namespace Sys2Proof.Machine

/-- The trim carry of the next advance (R8). -/
def Tmb.carry (t : Tmb) : Int := (trimCarry t.acc t.trim).1

/-- The slew correction that the next advance applies (R9, R10). -/
def Tmb.correction (t : Tmb) : Int := appliedSlew t.carry (slewCarry t.phase t.slew)

/-- Where the next advance leads, in ticks (R10). -/
def Tmb.target (t : Tmb) : Int := t.instant.ticks + 1 + t.carry + t.correction

/-- The trim carry by the sum of accumulator and trim (R8). -/
theorem Tmb.carry_eq (t : Tmb) :
    t.carry = if 1048576 ≤ t.acc + t.trim then 1 else if t.acc + t.trim ≤ -1048576 then -1 else 0 := by
  unfold Tmb.carry trimCarry
  dsimp only
  split
  · rfl
  · split <;> rfl

/-- The accumulator keeps what the carry does not take out (R8). -/
theorem trimCarry_acc (t : Tmb) : (trimCarry t.acc t.trim).2 = t.acc + t.trim - 1048576 * t.carry := by
  rw [t.carry_eq]
  unfold trimCarry
  dsimp only
  split
  · ring
  · split <;> ring

/-- The slew correction stands unless the trim carry has its sign (R9, R10). -/
theorem Tmb.correction_eq (t : Tmb) :
    t.correction = if t.phase = 63 ∧ 0 < t.slew ∧ t.carry ≠ 1 then 1
                   else if t.phase = 63 ∧ t.slew < 0 ∧ t.carry ≠ -1 then -1 else 0 := by
  unfold Tmb.correction appliedSlew slewCarry
  by_cases hp : t.phase = 63
  · simp only [hp, if_true, true_and]
    split_ifs <;> omega
  · simp [hp]

/-- An advance is one of 0, 1 or 2 ticks (R10). -/
theorem Tmb.target_bounds (t : Tmb) : 0 ≤ 1 + t.carry + t.correction ∧ 1 + t.carry + t.correction ≤ 2 := by
  rw [t.correction_eq, t.carry_eq]
  split_ifs <;> omega

/-- An advance within the range (R8 to R10). -/
theorem Tmb.advance_within {t : Tmb} (h : t.target ≤ Instant.top.ticks) :
    t.advance =
      { tmb := { t with acc := t.acc + t.trim - 1048576 * t.carry, phase := (t.phase + 1) % 64,
                        instant := Instant.ofTicks t.target.toNat, slew := t.slew - t.correction }
        moved := t.instant != Instant.ofTicks t.target.toNat
        slewDone := t.correction != 0 && t.slew - t.correction == 0, rangeEnd := false } := by
  rw [← trimCarry_acc]
  unfold Tmb.advance
  dsimp only
  rw [if_neg]
  · rfl
  · have := t.target_bounds
    change ¬Instant.top.ticks < t.target.toNat
    omega

/-- An advance past the top value is the end of the range (R12). -/
theorem Tmb.advance_past {t : Tmb} (h : (Instant.top.ticks : Int) < t.target) :
    t.advance =
      { tmb := { t with acc := t.acc + t.trim - 1048576 * t.carry, phase := (t.phase + 1) % 64, instant := Instant.top,
                        slew := 0 }
        moved := t.instant != Instant.top, slewDone := false, rangeEnd := true } := by
  rw [← trimCarry_acc]
  unfold Tmb.advance
  dsimp only
  rw [if_pos]
  change Instant.top.ticks < t.target.toNat
  omega

/-- An advance is one within the range or past it. -/
theorem Tmb.advance_cases (t : Tmb) : t.target ≤ Instant.top.ticks ∨ (Instant.top.ticks : Int) < t.target := by omega

/-! ### Instants of the range -/

theorem Instant.inRange_iff {i : Instant} : i.inRange = true ↔ i.sec ≤ Config.topSecond ∧ i.tick ≤ 1023 := by
  simp [Instant.inRange]

theorem Instant.top_ticks : Instant.top.ticks = 3231498239999 := rfl

/-- A count of ticks up to the top value is an instant of the range (R1, R12). -/
theorem Instant.inRange_ofTicks {n : Nat} (h : n ≤ Instant.top.ticks) : (Instant.ofTicks n).inRange = true := by
  rw [Instant.top_ticks] at h
  simp only [Instant.inRange_iff, Instant.ofTicks, Config.topSecond]
  omega

theorem Instant.top_inRange : Instant.top.inRange = true := by decide

/-! ### The ranges of the Time Base -/

/-- The accumulator stays in its range (R8). -/
theorem Tmb.inRange.acc {t : Tmb} (h : t.inRange) :
    -1048576 < t.acc + t.trim - 1048576 * t.carry ∧ t.acc + t.trim - 1048576 * t.carry < 1048576 := by
  obtain ⟨-, htlo, hthi, halo, hahi, -⟩ := h
  rw [t.carry_eq]
  simp only [Config.trimUnit] at halo hahi
  split_ifs <;> omega

/-- The advance keeps the Time Base in its ranges (R8, R9, R12). -/
theorem Tmb.inRange.advance {t : Tmb} (h : t.inRange) : t.advance.tmb.inRange := by
  have hacc := h.acc
  obtain ⟨-, htlo, hthi, -, -, hslew, -, hunset⟩ := h
  obtain ht | ht := t.advance_cases
  · rw [t.advance_within ht]
    refine ⟨Instant.inRange_ofTicks (by omega), htlo, hthi, hacc.1, hacc.2, ?_, ?_, fun hv => ?_⟩
    · rw [t.correction_eq]
      simp only [Config.slewMax] at hslew ⊢
      split_ifs <;> omega
    · dsimp only; omega
    · have := hunset hv
      rw [t.correction_eq]
      simp [this]
  · rw [t.advance_past ht]
    exact ⟨Instant.top_inRange, htlo, hthi, hacc.1, hacc.2, by simp, by dsimp only; omega, fun _ => rfl⟩

/-- So does the validity that a range end leaves (R12). -/
theorem Tmb.inRange.settled {t : Tmb} (h : t.inRange) : t.advance.settled.inRange := by
  have ha := h.advance
  unfold Advance.settled
  split
  · rename_i he
    obtain ⟨hi, htlo, hthi, halo, hahi, hslew, hphase, -⟩ := ha
    refine ⟨hi, htlo, hthi, halo, hahi, hslew, hphase, fun _ => ?_⟩
    obtain ht | ht := t.advance_cases
    · rw [t.advance_within ht] at he; cases he
    · rw [t.advance_past ht]
  · exact ha

/-- Settles O39: the two forms of an advance, read field by field. -/
theorem advanceIsBounded : Obligations.AdvanceIsBounded := by
  intro t hr
  have hcarry := t.carry_eq
  have hcorr := t.correction_eq
  intro a sum carry slew target
  change t.carry = carry at hcarry
  have hslew : t.correction = slew := by rw [hcorr, hcarry]
  have htarget : t.target = target := by simp only [Tmb.target, hcarry, hslew, target]
  have hb := t.target_bounds
  have hacc := hr.acc
  have hin : a.tmb.inRange := hr.advance
  rw [hcarry] at hacc
  rw [hcarry, hslew] at hb
  obtain ht | ht := t.advance_cases
  · have ha : a = _ := t.advance_within ht
    rw [hcarry, hslew, htarget] at ha
    rw [htarget] at ht
    have hticks : (target.toNat : Int) = target := by omega
    rw [ha] at hin ⊢
    refine ⟨rfl, hacc.1, hacc.2, rfl, hb.1, hb.2, fun _ => ⟨rfl, by simpa using hticks, rfl, ?_⟩, fun hgt => ?_,
      rfl, rfl, rfl, rfl, rfl, hin⟩
    · simp [sub_eq_zero]
    · omega
  · have ha : a = _ := t.advance_past ht
    rw [hcarry] at ha
    rw [htarget] at ht
    rw [ha] at hin ⊢
    exact ⟨rfl, hacc.1, hacc.2, rfl, hb.1, hb.2, fun hle => by omega, fun _ => ⟨rfl, rfl, rfl, rfl⟩,
      rfl, rfl, rfl, rfl, rfl, hin⟩

end Sys2Proof.Machine

/-! ## The calendar -/

namespace Sys2Proof.Machine

/-- A day of the year is in the month whose days hold it (R3). -/
theorem monthDay_take_add (ls : List Nat) (m k d : Nat) (hk : k < ls.length) (hd : d < ls.getD k 0) :
    monthDay ls m ((ls.take k).sum + d) = (m + k, d + 1) := by
  induction ls generalizing m k with
  | nil => simp at hk
  | cons l ls ih =>
    cases k with
    | zero => simp at hd; simp [monthDay, hd]
    | succ k =>
      have h := ih (m + 1) k (by simpa using hk) (by simpa using hd)
      have hlt : ¬l + (ls.take k).sum + d < l := by omega
      have hsub : l + (ls.take k).sum + d - l = (ls.take k).sum + d := by omega
      simp only [List.take_succ_cons, List.sum_cons, monthDay, hlt, if_false, hsub, h]
      simp; omega

/-- Every day of a year is in one of its months (R3). -/
theorem exists_month (ls : List Nat) (d : Nat) (h : d < ls.sum) :
    ∃ k r, k < ls.length ∧ r < ls.getD k 0 ∧ d = (ls.take k).sum + r := by
  induction ls generalizing d with
  | nil => simp at h
  | cons l ls ih =>
    by_cases hl : d < l
    · exact ⟨0, d, by simp, by simpa using hl, by simp⟩
    · obtain ⟨k, r, hk, hr, e⟩ := ih (d - l) (by simp at h; omega)
      exact ⟨k + 1, r, by simpa using hk, by simpa using hr, by simp; omega⟩

/-- The days of a year (R3). -/
theorem monthLengths_sum (leap : Bool) : (monthLengths leap).sum = if leap then 366 else 365 := by cases leap <;> rfl

/-- The months of a year do not run past its days. -/
theorem monthLengths_take (leap : Bool) :
    ∀ k, k < 12 → ((monthLengths leap).take k).sum + (monthLengths leap).getD k 0 ≤ (monthLengths leap).sum := by
  cases leap <;> decide

/-- The days of a four-year block before its year `j` (R3). -/
def daysBeforeBlockYear (j : Nat) : Nat := if j = 0 then 0 else 366 + 365 * (j - 1)

/-- A year of the block and its day (R3). -/
theorem yearInBlock_daysBefore {j r : Nat} (hj : j < 4) (hr : r < if j = 0 then 366 else 365) :
    yearInBlock (daysBeforeBlockYear j + r) = (j, r) ∧ daysBeforeBlockYear j + r < 1461 := by
  unfold yearInBlock daysBeforeBlockYear
  by_cases h : j = 0
  · subst h
    simp only [if_true] at hr ⊢
    rw [if_pos (by omega)]
    exact ⟨by simp, by omega⟩
  · simp only [h, if_false] at hr ⊢
    rw [if_neg (by omega)]
    refine ⟨?_, by omega⟩
    simp only [Prod.mk.injEq]
    omega

/-- Every day of a four-year block is one of a year of it (R3). -/
theorem exists_blockYear {d : Nat} (h : d < 1461) :
    ∃ j r, j < 4 ∧ (r < if j = 0 then 366 else 365) ∧ d = daysBeforeBlockYear j + r := by
  unfold daysBeforeBlockYear
  by_cases h0 : d < 366
  · exact ⟨0, d, by omega, by simpa using h0, by simp⟩
  · refine ⟨1 + (d - 366) / 365, (d - 366) % 365, by omega, ?_, ?_⟩
    · rw [if_neg (by omega)]; omega
    · rw [if_neg (by omega)]; omega

/-- A date by its four-year block, its year in the block, its month counted from 0 and its day counted from 0. -/
structure BlockDate where
  block : Nat
  year  : Nat
  month : Nat
  day   : Nat

namespace BlockDate

/-- The date lies in the range of the calendar (R3). -/
def ok (b : BlockDate) : Prop :=
  b.block < 25 ∧ b.year < 4 ∧ b.month < 12 ∧ b.day < (monthLengths (b.year == 0)).getD b.month 0

/-- The day of its year. -/
def dayOfYear (b : BlockDate) : Nat := ((monthLengths (b.year == 0)).take b.month).sum + b.day

/-- The day number, counted from 2000-01-01 (R5). -/
def number (b : BlockDate) : Nat := 1461 * b.block + (daysBeforeBlockYear b.year + b.dayOfYear)

variable {b : BlockDate}

theorem ok.dayOfYear_lt (h : b.ok) : b.dayOfYear < if b.year = 0 then 366 else 365 := by
  obtain ⟨-, -, hm, hd⟩ := h
  have := monthLengths_take (b.year == 0) b.month hm
  rw [monthLengths_sum] at this
  simp only [beq_iff_eq] at this
  unfold dayOfYear
  omega

/-- The calendar fields of a date and a time of day (R3, R4). -/
theorem ok.civilOf (h : b.ok) {t : Nat} (ht : t < 86400) :
    civilOf (b.number * 86400 + t) =
      { year := 2000 + 4 * b.block + b.year, month := b.month + 1, day := b.day + 1, hour := t / 3600,
        minute := t % 3600 / 60, second := t % 3600 % 60, weekday := (b.number + 5) % 7 + 1 } := by
  obtain ⟨hyear, hlt⟩ := yearInBlock_daysBefore h.2.1 h.dayOfYear_lt
  have hday : (b.number * 86400 + t) / 86400 = b.number := by omega
  have htime : (b.number * 86400 + t) % 86400 = t := by omega
  have hblock : b.number / 1461 = b.block := by unfold number; omega
  have hrest : b.number % 1461 = daysBeforeBlockYear b.year + b.dayOfYear := by unfold number; omega
  have hmonth := monthDay_take_add (monthLengths (b.year == 0)) 1 b.month b.day h.2.2.1 h.2.2.2
  unfold Machine.civilOf
  simp only [hday, htime, hblock, hrest, hyear]
  unfold dayOfYear
  rw [hmonth]
  simp only [Nat.add_comm 1]

theorem ok.number_lt (h : b.ok) : b.number < 36525 := by
  have := (yearInBlock_daysBefore h.2.1 h.dayOfYear_lt).2
  have := h.1
  unfold number
  omega

/-- The first year of a block is its leap year (R3). -/
theorem leapYear_of_block (hy : b.year < 4) : leapYear (2000 + 4 * b.block + b.year) = (b.year == 0) := by
  unfold leapYear
  rw [show (2000 + 4 * b.block + b.year) % 4 = b.year by omega]

/-- The instant of a date and a time of day (R5). -/
theorem instantOfCivil (hy : b.year < 4) (hour minute second tick : Nat) :
    instantOfCivil (2000 + 4 * b.block + b.year) (b.month + 1) (b.day + 1) hour minute second tick =
      ⟨b.number * 86400 + hour * 3600 + minute * 60 + second, tick⟩ := by
  have hq : (2000 + 4 * b.block + b.year - 2000) / 4 = b.block := by omega
  have hj : (2000 + 4 * b.block + b.year - 2000) % 4 = b.year := by omega
  have hl := leapYear_of_block (b := b) hy
  unfold Machine.instantOfCivil daysBeforeYear number dayOfYear daysBeforeBlockYear
  simp only [hq, hj, hl, Nat.add_sub_cancel]
  simp only [Nat.add_assoc]

/-- The validity of a date and a time of day (R5). -/
theorem civilValid_iff (hy : b.year < 4) (hour minute second tick : Nat) :
    civilValid (2000 + 4 * b.block + b.year) (b.month + 1) (b.day + 1) hour minute second tick = true ↔
      b.ok ∧ hour ≤ 23 ∧ minute ≤ 59 ∧ second ≤ 59 ∧ tick ≤ 1023 := by
  have hl := leapYear_of_block (b := b) hy
  simp only [civilValid, monthLength, hl, Nat.add_sub_cancel, Bool.and_eq_true, decide_eq_true_eq, ok]
  omega

/-- Every valid calendar date is a date of a four-year block. -/
theorem exists_of_civilValid {y mo d hr mi se tick : Nat} (h : civilValid y mo d hr mi se tick = true) :
    ∃ b : BlockDate, b.year < 4 ∧ y = 2000 + 4 * b.block + b.year ∧ mo = b.month + 1 ∧ d = b.day + 1 := by
  simp only [civilValid, Bool.and_eq_true, decide_eq_true_eq] at h
  exact ⟨⟨(y - 2000) / 4, (y - 2000) % 4, mo - 1, d - 1⟩, by dsimp only; omega, by dsimp only; omega, by dsimp only; omega,
    by dsimp only; omega⟩

/-- Every day number of the range is that of a date. -/
theorem exists_number {n : Nat} (h : n < 36525) : ∃ b : BlockDate, b.ok ∧ b.number = n := by
  obtain ⟨j, r, hj, hr, hd⟩ := exists_blockYear (d := n % 1461) (by omega)
  obtain ⟨k, q, hk, hq, hrq⟩ := exists_month (monthLengths (j == 0)) r (by rw [monthLengths_sum]; simpa using hr)
  refine ⟨⟨n / 1461, j, k, q⟩, ⟨by dsimp only; omega, hj, hk, hq⟩, ?_⟩
  unfold number dayOfYear
  dsimp only
  omega

end BlockDate

/-- The instant of valid calendar fields lies in the range (R5). -/
theorem instantOfCivil_inRange {y mo d hr mi se tick : Nat} (h : civilValid y mo d hr mi se tick = true) :
    (instantOfCivil y mo d hr mi se tick).inRange = true := by
  obtain ⟨b, hy, rfl, rfl, rfl⟩ := BlockDate.exists_of_civilValid h
  obtain ⟨hok, hhr, hmi, hse, htick⟩ := (BlockDate.civilValid_iff hy ..).1 h
  have := hok.number_lt
  rw [BlockDate.instantOfCivil hy, Instant.inRange_iff]
  simp only [Config.topSecond]
  omega

/-- Settles O9: a date is a four-year block, a year of it, a month of the year and a day of the month, and both conversions are
read off that. -/
theorem calendarRoundTrip : Obligations.CalendarRoundTrip := by
  refine ⟨fun y mo d hr mi se tick h => ?_, fun sec hsec => ?_⟩
  · intro i
    have hin : i.inRange = true := instantOfCivil_inRange h
    obtain ⟨b, hy, rfl, rfl, rfl⟩ := BlockDate.exists_of_civilValid h
    obtain ⟨hok, hhr, hmi, hse, htick⟩ := (BlockDate.civilValid_iff hy ..).1 h
    have hi : i = ⟨b.number * 86400 + (hr * 3600 + mi * 60 + se), tick⟩ :=
      (BlockDate.instantOfCivil hy ..).trans (by simp only [Nat.add_assoc])
    have hnum : i.sec / 86400 = b.number := by rw [hi]; dsimp only; omega
    refine ⟨hin, by rw [hi], ?_⟩
    rw [hnum, hi, hok.civilOf (by omega)]
    simp only [Civil.mk.injEq, true_and, and_true]
    omega
  · obtain ⟨b, hok, hn⟩ := BlockDate.exists_number (n := sec / 86400) (by omega)
    have hs : sec = b.number * 86400 + sec % 86400 := by omega
    have hc := hok.civilOf (t := sec % 86400) (by omega)
    rw [← hs] at hc
    intro c
    rw [show c = _ from hc]
    refine ⟨(BlockDate.civilValid_iff hok.2.1 ..).2 ⟨hok, ?_⟩, ?_⟩
    · dsimp only; omega
    · rw [BlockDate.instantOfCivil hok.2.1]
      simp only [Instant.mk.injEq, and_true]
      omega

end Sys2Proof.Machine

namespace Sys2Proof

/-- The requests that set the time base, a hold reason or the lease themselves. -/
def Request.governs : Request → Bool
  | .timeSet _ | .timeAdjust .. | .timeClear | .trimSet _ | .schedHold | .schedRelease | .profLoad | .leaseConfig ..
  | .leaseResume => true
  | _ => false

end Sys2Proof

/-! ## Properties that look at the time base, the hold reasons, the running load, the lease and the filter runs alone -/

namespace Sys2Proof.Machine

/-- A property that does not look at the Capture Log, the Trigger Table, the Reference Discipline, the flash, the link, the draw
count, nor at more of the schedule than its hold reasons and of the lines than their filter runs; and that the claims of the
Reference Discipline on the validity, its steps and the stage of a load for the lease keep. -/
structure Steady (P : State → Prop) : Prop where
  cap      : ∀ {s} x, P s → P (s.setCap x)
  trg      : ∀ {s} x, P s → P (s.setTrg x)
  rds      : ∀ {s} x, P s → P (s.setRds x)
  flash    : ∀ {s} x, P s → P (s.setFlash x)
  lnk      : ∀ {s} x, P s → P (s.setLnk x)
  draws    : ∀ {s} x, P s → P (s.setDraws x)
  sch      : ∀ {s} c, c.hold = s.sch.hold → P s → P (s.setSch c)
  lines    : ∀ {s} (l : Vector Line 16), (∀ (n : LineNo) f r, l[n].input = some f → f.run = some r → (s.lin[n]).input = some f) →
               P s → P (s.setLin l)
  holdover : ∀ {s} c, P s → P (claimHoldover c s)
  tracking : ∀ {s} c, P s → P (claimTracking c s)
  stepBy   : ∀ {s} d k, P s → P (claimStep d k s)
  lease    : ∀ {s} p f, P s → P (installLease p f s)

/-- A property that also looks at no more of the Profile Store than whether a load runs, and that the end of a load keeps. -/
structure SteadyStore (P : State → Prop) : Prop extends Steady P where
  prs    : ∀ {s} x, x.job.isLoading = s.prs.job.isLoading → P s → P (s.setPrs x)
  finish : ∀ {s}, P s → P (removeReason .load (s.setJob .idle))

/-- Two configurations of the lines that differ in line `n` alone, which has no run. -/
theorem set_line_runs {s : State} {n : LineNo} {l : Line} (h : ∀ f, l.input = some f → f.run = none) (m : LineNo)
    (f : Filter) (r : Run) (hf : (s.lin.set n l)[m].input = some f) (hr : f.run = some r) : (s.lin[m]).input = some f := by
  by_cases e : n = m
  · subst e
    have := h f (by simpa using hf)
    rw [this] at hr; cases hr
  · have : (n : Nat) ≠ m := fun h => e (Fin.ext h)
    simpa [Vector.getElem_set, this] using hf

namespace Steady

variable {P : State → Prop} (hP : Steady P) {s : State}
include hP

theorem post (n : Notice) (hs : P s) : P (post n s) := hP.lnk _ hs

theorem postOwn (n : Option Notice) (hs : P s) : P (postOwn n s) := by
  cases n with
  | none => exact hs
  | some n => exact hP.post n hs

theorem drawn (hs : P s) : P s.drawn := hP.draws _ hs

/-- A line without a run in its new state. -/
theorem setLine (n : LineNo) {l : Line} (h : ∀ f, l.input = some f → f.run = none) (hs : P s) : P (s.setLine n l) :=
  hP.lines _ (set_line_runs h) hs

/-! ### The Scheduler -/

theorem claimLines (set : W16) (c : Claim) (hs : P s) : P (claimLines set c s) := by
  refine hP.lines _ (fun n f r hf _ => ?_) hs
  have := claimLines_line_input set c s n n.2
  simp only [Machine.claimLines, State.setLin_lin] at this
  exact this ▸ hf

theorem sendClaim (e : Entry) (hs : P s) : P (sendClaim e s) := by
  unfold Machine.sendClaim
  split
  · exact hs
  · exact hP.claimLines _ _ hs

theorem takeEntry (e : Entry) (hs : P s) : P (takeEntry e s) := by
  have hclaim : P (if (occurrenceOutcome (s.now - e.due.ticks) s.sch.tolerance e.late (guardHolds s e.guard)).runs
      then Machine.sendClaim e s else s) := by
    split
    · exact hP.sendClaim e hs
    · exact hs
  unfold Machine.takeEntry
  dsimp only
  split
  · refine hP.post _ (hP.sch _ ?_ hclaim)
    split <;> simp
  · refine hP.sch _ ?_ hclaim
    split <;> simp

theorem passLoop (k : Nat) (hs : P s) : P (passLoop k s) := by
  induction k generalizing s with
  | zero => exact hs
  | succ k ih =>
    obtain h | ⟨e, -, h⟩ := passLoop_cases k s <;> rw [h]
    · exact hs
    · exact ih (hP.takeEntry e hs)

theorem passSome (k : Nat) (hs : P s) : P (passSome k s) := by
  unfold Machine.passSome
  split
  · exact hP.passLoop _ hs
  · exact hs

theorem pass (hs : P s) : P (pass s) := hP.passSome _ hs

theorem passAround (k : Nat) (n : Option Notice) (hs : P s) : P (passAround k n s) :=
  hP.pass (hP.postOwn n (hP.passSome k hs))

theorem insertAndPass (e : Entry) (hs : P s) : P (insertAndPass e s) := by
  have hi : P (s.setSch (s.sch.insertNew e)) := hP.sch _ (by simp) hs
  unfold Machine.insertAndPass passIfDue
  split
  · exact hP.pass hi
  · exact hi

/-! ### The Capture Log and the Trigger Table -/

theorem pendingAfterStore (hs : P s) : P (pendingAfterStore s) := by
  unfold Machine.pendingAfterStore
  split
  · exact hP.post _ (hP.cap _ hs)
  · exact hs

theorem captureEdge (e : EdgeReport) (hs : P s) : P (captureEdge e s) := by
  unfold Machine.captureEdge
  dsimp only
  split
  · exact hP.pendingAfterStore (hP.cap _ hs)
  · split
    · exact hP.cap _ hs
    · exact hP.pendingAfterStore (hP.cap _ hs)

theorem edgeToLog (e : EdgeReport) (hs : P s) : P (edgeToLog e s) := by
  unfold Machine.edgeToLog
  split
  · exact hP.captureEdge e hs
  · exact hs

theorem installCaptureConfig (p : CapPolicy) (m : Nat) (hs : P s) : P (installCaptureConfig p m s) := by
  unfold Machine.installCaptureConfig
  dsimp only
  split
  · exact hP.cap _ (hP.cap _ hs)
  · split
    · exact hP.post _ (hP.cap _ (hP.cap _ hs))
    · exact hP.cap _ hs

theorem insertTriggerEntry {t : TrigNo} {due : Nat} {p : Template} {u : State}
    (h : insertTriggerEntry t due p s = some u) (hs : P s) : P u := by
  unfold Machine.insertTriggerEntry at h
  split at h
  · cases h
  · cases h; exact hP.insertAndPass _ hs

theorem fireTrigger (n : TrigNo) (t : Trigger) (e : EdgeReport) (hs : P s) : P (fireTrigger n t e s) := by
  unfold Machine.fireTrigger
  split
  · rename_i u hu
    have h1 : P (u.setTrigger n (some t.afterFiring)) := hP.trg _ (hP.insertTriggerEntry hu hs)
    dsimp only
    split
    · exact hP.post _ h1
    · exact h1
  · exact hP.post _ (hP.trg _ hs)

theorem offerEdge (e : EdgeReport) (n : TrigNo) (hs : P s) : P (offerEdge e n s) := by
  unfold Machine.offerEdge
  split
  · exact hs
  · split
    · exact hP.fireTrigger _ _ _ hs
    · exact hs

theorem handToTriggers (e : EdgeReport) (order : EdgeOrder) (hs : P s) : P (handToTriggers e order s) := by
  refine foldl_keeps (f := fun x n => Machine.offerEdge e n (logAt n e order x)) (fun n u hu => hP.offerEdge e n ?_) _ s hs
  unfold logAt
  split
  · exact hP.edgeToLog e hu
  · exact hu

/-! ### The Reference Discipline -/

/-- An edge of the reference line, where the slew claim of its offset is kept. -/
theorem referenceEdge {e : EdgeReport} (hslew : ∀ u, P u → P (claimSlew (correctionOf (offsetOf e.onset.tick)) u)) (k : Nat)
    (hs : P s) : P (referenceEdge e k s) := by
  unfold Machine.referenceEdge
  split
  · exact hs
  · have h1 : P (s.setRds { s.rds with count := 0, state := .active }) := hP.rds _ hs
    generalize s.setRds { s.rds with count := 0, state := .active } = u at h1
    refine hP.rds _ ?_
    unfold settleSample
    split
    · exact h1
    · split
      · split
        · exact hP.tracking _ (hslew _ (hP.rds _ h1))
        · unfold steerOutlier
          dsimp only
          split
          · exact hP.rds _ h1
          · exact hP.rds _ (hP.stepBy _ _ (hP.rds _ h1))
      · exact h1
      · exact h1

theorem declareLoss (hs : P s) : P (declareLoss s) := by
  unfold Machine.declareLoss
  dsimp only
  refine hP.post _ ?_
  split
  · exact hP.holdover _ (hP.rds _ hs)
  · exact hP.rds _ hs

theorem referenceTick (hs : P s) : P (referenceTick s) := by
  unfold Machine.referenceTick
  dsimp only
  split
  · exact hP.declareLoss (hP.rds _ hs)
  · exact hP.rds _ hs

theorem installRefConfig (c : RefConfig) (hs : P s) : P (installRefConfig c s) := by
  unfold Machine.installRefConfig
  dsimp only
  refine hP.rds _ ?_
  split
  · exact hP.holdover _ hs
  · exact hs

theorem refRemoved (hs : P s) : P (refRemoved s) := by
  unfold Machine.refRemoved
  dsimp only
  split
  · exact hP.holdover _ (hP.rds _ hs)
  · exact hP.rds _ hs

/-! ### The Line Unit -/

/-- An accepted edge handed on, where the slew claim of its offset is kept. -/
theorem handOn {e : EdgeReport} (hslew : ∀ u, P u → P (claimSlew (correctionOf (offsetOf e.onset.tick)) u))
    (order : EdgeOrder) (hs : P s) : P (handOn e order s) := by
  unfold Machine.handOn
  split
  · dsimp only
    split
    · exact hP.edgeToLog e (hP.handToTriggers e order hs)
    · exact hP.handToTriggers e order hs
  · split
    · exact hP.referenceEdge hslew _ (hP.edgeToLog e hs)
    · exact hP.edgeToLog e (hP.referenceEdge hslew _ hs)
  all_goals exact hP.edgeToLog e hs

/-- The acceptance of a run, where the slew claim of its offset is kept. -/
theorem acceptRun {n : LineNo} (hslew : ∀ f r, s.completed n = some (f, r) → ∀ u, P u →
    P (claimSlew (correctionOf (offsetOf r.onset.tick)) u)) (order : EdgeOrder) (hs : P s) : P (acceptRun n order s) := by
  cases hc : s.completed n with
  | none => rw [acceptRun_of_incomplete (by simp [State.complete, hc])]; exact hs
  | some fr =>
    obtain ⟨f, r⟩ := fr
    rw [acceptRun_of_complete hc]
    refine hP.handOn (hslew f r hc) order (hP.setLine n ?_ hs)
    rintro _ ⟨⟩; rfl

theorem restartFilter (n : LineNo) (hs : P s) : P (restartFilter n s) := by
  unfold Machine.restartFilter
  split
  · refine hP.drawn (hP.setLine n ?_ hs)
    rintro _ ⟨⟩; rfl
  · exact hs

theorem configureLine (n : LineNo) (c : LineConfig) (hs : P s) : P (configureLine n c s) := by
  unfold Machine.configureLine
  dsimp only
  have h1 : P (if (s.lin[n]).config.role = .reference ∧ c.role ≠ .reference then Machine.refRemoved s else s) := by
    split
    · exact hP.refRemoved hs
    · exact hs
  generalize (if (s.lin[n]).config.role = .reference ∧ c.role ≠ .reference then Machine.refRemoved s else s) = u at h1
  have h2 : P (Machine.restartFilter n (u.setLine n ((u.lin[n]).configured c))) :=
    hP.restartFilter n (hP.setLine n (by rintro _ ⟨⟩) h1)
  split
  · unfold refAssigned
    split <;> exact hP.rds _ h2
  · exact h2

theorem installLines (cs : Vector LineConfig 16) (hs : P s) : P (installLines cs s) :=
  foldl_keeps (f := fun x (n : LineNo) => Machine.configureLine n cs[n] x) (fun n _ h => hP.configureLine n _ h) _ s hs

theorem allLinesOff (hs : P s) : P (allLinesOff s) := by
  have h : P (s.setLin (s.lin.map fun l => l.configured LineConfig.off)) := by
    refine hP.lines _ (fun n f r hf _ => ?_) hs
    simp [Line.configured] at hf
  unfold Machine.allLinesOff
  dsimp only
  split
  · exact hP.refRemoved h
  · exact h

/-- A line's part of a tick, where the sample and the acceptance of the run it completes are kept. -/
theorem lineTick {n : LineNo} (hsample : ∀ f u, (u.lin[n]).input = some f → P u → P (sampleLine n f u))
    (haccept : ∀ order u, P u → P (Machine.acceptRun n order u)) (accept : Option EdgeOrder) (hs : P s) :
    P (lineTick n accept s) := by
  unfold Machine.lineTick
  split
  · rename_i f hf
    cases accept with
    | none => exact hsample f s hf hs
    | some order => exact haccept order _ (hsample f s hf hs)
  · rename_i hn
    exact hP.setLine n (fun f hf => nomatch hn.symm.trans hf) hs

theorem triggerTick (t : TrigNo) (hs : P s) : P (triggerTick t s) := hP.trg _ hs

/-! ### The flash -/

theorem setCells (m : List Host.Cell) (hs : P s) : P (s.setCells m) := hP.flash _ hs

theorem finishCommand (hs : P s) : P (finishCommand s) := by
  unfold Machine.finishCommand
  split
  · exact hs
  · exact hP.setCells _ hs

theorem cutCommand (hs : P s) : P (cutCommand s) := by
  unfold Machine.cutCommand
  split
  · exact hs
  · exact hP.drawn (hP.setCells _ hs)

theorem lossCommand (hs : P s) : P (lossCommand s) := by
  unfold Machine.lossCommand
  split
  · exact hs
  · exact hP.drawn (hP.setCells _ hs)

theorem abandonCommand (hs : P s) : P (abandonCommand s) := by
  unfold Machine.abandonCommand
  split
  · exact hs
  · split
    · exact hP.drawn (hP.setCells _ hs)
    · exact hP.drawn hs

/-- A stage of a load (R138). -/
theorem runStage (st : LoadStage) (hs : P s) : P (runStage st s) := by
  cases st with
  | dropTriggers => exact hP.trg _ hs
  | dropEntries => exact hP.sch _ rfl hs
  | linesOff => exact hP.allLinesOff hs
  | installLines cs => exact hP.installLines cs hs
  | installTolerance t => exact hP.sch _ rfl hs
  | installCapture p m => exact hP.installCaptureConfig p m hs
  | installDiscipline c => exact hP.installRefConfig c hs
  | installLease p f => exact hP.lease p f hs
  | insertEntry e =>
    unfold Machine.runStage
    dsimp only
    split
    · exact hs
    · exact hP.insertAndPass _ hs
  | installTriggers ts => exact hP.trg _ hs

end Steady

namespace SteadyStore

variable {P : State → Prop} (hP : SteadyStore P) {s : State}
include hP

/-! ### The Profile Store -/

theorem setJob {j : PrsJob} (hj : j.isLoading = s.prs.job.isLoading) (hs : P s) : P (s.setJob j) := hP.prs _ hj hs

theorem setDesc (slot : Slot) (d : Descriptor) (hs : P s) : P (s.setDesc slot d) := by
  cases slot <;> exact hP.prs _ rfl hs

theorem recordSlot (slot : Slot) (hs : P s) : P (recordSlot slot s) := hP.setDesc slot _ hs

/-- The end of a save or an erase, whose state before was no load. -/
theorem endOperation {body : ProfileDone} (hj : s.prs.job.isLoading = false) (hs : P s) : P (endOperation body s) :=
  hP.post _ (hP.prs _ hj.symm hs)

theorem endLoad (body : ProfileDone) (hs : P s) : P (endLoad body s) := hP.post _ (hP.finish hs)

end SteadyStore

@[simp] theorem setDesc_job (s : State) (slot : Slot) (d : Descriptor) : (s.setDesc slot d).prs.job = s.prs.job := by
  cases slot <;> rfl
@[simp] theorem recordSlot_job (slot : Slot) (s : State) : (recordSlot slot s).prs.job = s.prs.job := setDesc_job ..
@[simp] theorem finishCommand_prs (s : State) : (finishCommand s).prs = s.prs := by
  unfold finishCommand; split <;> rfl
@[simp] theorem cutCommand_prs (s : State) : (cutCommand s).prs = s.prs := by
  unfold cutCommand; split <;> rfl
@[simp] theorem lossCommand_prs (s : State) : (lossCommand s).prs = s.prs := by
  unfold lossCommand; split <;> rfl

/-- The Profile Store is one of the blocks that `Steady` lets stand. -/
theorem steady_prs (p : Prs) : Steady fun u => u.prs = p where
  cap _ h := h
  trg _ h := h
  rds _ h := h
  flash _ h := h
  lnk _ h := h
  draws _ h := h
  sch _ _ h := h
  lines _ _ h := h
  holdover c h := by unfold claimHoldover; split <;> simpa using h
  tracking c h := by unfold claimTracking; split <;> simpa using h
  stepBy d k h := by unfold claimStep; split <;> simpa using h
  lease p f h := by unfold installLease; split <;> exact h

/-- A stage of a load leaves the Profile Store (R138). -/
@[simp] theorem runStage_prs (st : LoadStage) (s : State) : (runStage st s).prs = s.prs :=
  (steady_prs s.prs).runStage st rfl

/-- With the checks of PROF-SAVE, PROF-LOAD and PROF-ERASE passed no operation is running (R136, R141, R145). -/
theorem job_of_no_refusal {p : Prs} (h : p.refusal = none) : p.job = .idle := by
  unfold Prs.refusal at h
  split at h
  · cases h
  · split at h
    · cases h
    · split at h
      · cases h
      · exact not_not.1 ‹_›

namespace SteadyStore

variable {P : State → Prop} (hP : SteadyStore P) {s : State}
include hP

theorem saveErased (hs : P s) : P (saveErased s) := by
  unfold Machine.saveErased
  split
  · rename_i hj
    split
    · exact hs
    · exact hP.setJob (by simp [hj, PrsJob.isLoading]) (hP.finishCommand hs)
  · exact hs

theorem pageProgrammed (flaws : List (Fin 256 × Byte)) (hs : P s) : P (pageProgrammed flaws s) := by
  unfold Machine.pageProgrammed
  split
  · rename_i page rest hj
    have hc := hP.setCells (applyFlaws (s.prs.targetBase + 256 * page) flaws (Machine.finishCommand s).flash.cells)
      (hP.finishCommand hs)
    dsimp only
    split <;> exact hP.setJob (by simp [hj, PrsJob.isLoading]) hc
  · exact hs

theorem saveVerified (hs : P s) : P (saveVerified s) := by
  unfold Machine.saveVerified
  split
  · rename_i hj
    split
    · unfold succeedSave
      split
      · exact hs
      · exact hP.endOperation (by simp [hj, PrsJob.isLoading]) (hP.setDesc _ _ hs)
    · exact hP.setJob (by simp [hj, PrsJob.isLoading]) hs
  · exact hs

theorem recoveryErased (hs : P s) : P (recoveryErased s) := by
  unfold Machine.recoveryErased
  split
  · rename_i hj
    exact hP.endOperation (by simp [hj, PrsJob.isLoading]) (hP.finishCommand hs)
  · exact hs

theorem slotErased (hs : P s) : P (slotErased s) := by
  unfold Machine.slotErased
  split
  · rename_i hj
    exact hP.prs _ (by simp [hj, PrsJob.isLoading]) (hP.finishCommand hs)
  · rename_i hj
    exact hP.endOperation (by simp [hj, PrsJob.isLoading]) (hP.finishCommand hs)
  · exact hs

theorem flashTimedOut (hs : P s) : P (flashTimedOut s) := by
  have hc := hP.cutCommand hs
  unfold Machine.flashTimedOut
  split
  · exact hP.endOperation (by simp [*, PrsJob.isLoading]) hc
  · split
    · exact hP.setJob (by simp [*, PrsJob.isLoading]) hc
    · exact hP.endOperation (by simp [*, PrsJob.isLoading]) hc
  · exact hP.endOperation (by simp [*, PrsJob.isLoading]) hc
  · exact hP.endOperation (by simp [*, PrsJob.isLoading]) (hP.setDesc _ _ hc)
  · exact hP.endOperation (by simp [*, PrsJob.isLoading]) hc
  all_goals exact hs

theorem scanned (hs : P s) : P (scanned s) := by
  unfold Machine.scanned
  split
  · rename_i hj
    exact hP.post _ (hP.setJob (by simp [hj, PrsJob.isLoading]) (hP.recordSlot _ (hP.recordSlot _ hs)))
  · exact hs

/-- One step of an application (R138). -/
theorem loadStep (hs : P s) : P (loadStep s) := by
  unfold Machine.loadStep
  split
  · rename_i hj
    split
    · exact hP.endLoad _ hs
    · exact hP.setJob (by rw [runStage_prs, hj]; rfl) (hP.runStage _ hs)
  · exact hs

theorem beginApply {su : Bool} (slot : Slot) (v : Nat × Profile) (fb : Bool) (hj : s.prs.job.isLoading = true) (hs : P s) :
    P (beginApply su slot v fb s) := hP.setJob (by rw [hj]; rfl) hs

theorem startUpValidated (hj : s.prs.job.isLoading = true) (hs : P s) : P (startUpValidated s) := by
  have hr := hP.recordSlot .b (hP.recordSlot .a hs)
  unfold Machine.startUpValidated
  dsimp only
  split
  · exact hP.endLoad _ hr
  · split
    · exact hr
    · exact hP.beginApply _ _ _ (by simpa using hj) hr

theorem requestedValidated (hj : s.prs.job.isLoading = true) (hs : P s) : P (requestedValidated s) := by
  have hr := hP.recordSlot (rankedFirst s.flash.cells) hs
  unfold Machine.requestedValidated
  dsimp only
  split
  · exact hP.beginApply _ _ _ (by simpa using hj) hr
  · split
    · exact hP.beginApply _ _ _ (by simpa using hj) (hP.recordSlot _ hr)
    · exact hP.endLoad _ (hP.recordSlot _ hr)

/-! ### The requests -/

theorem answerProfSave (hs : P s) : P (answerProfSave s).state := by
  unfold Machine.answerProfSave
  split
  · exact hs
  · rename_i h
    split
    · exact hs
    · exact hP.prs _ (by simp [job_of_no_refusal h, PrsJob.isLoading]) (hP.setDesc _ _ hs)

theorem answerProfErase (hs : P s) : P (answerProfErase s).state := by
  unfold Machine.answerProfErase
  split
  · exact hs
  · rename_i h
    exact hP.prs _ (by simp [job_of_no_refusal h, PrsJob.isLoading]) hs

/-- A request whose owner is not the time base, the hold reasons or the lease: its refusals change nothing, and what it does
otherwise is kept. -/
theorem answer {r : Request} (k : Nat) (hr : r.governs = false) (hs : P s) : P (answer r k s).state := by
  unfold Machine.answer
  cases r with
  | timeSet _ | timeAdjust _ _ | timeClear | trimSet _ | schedHold | schedRelease | profLoad | leaseConfig _ _ | leaseResume =>
    cases hr
  | ident | restart | timeRead | actList _ | schedStatus | capRead | trgStatus | refStatus | profStatus | leaseStatus => exact hs
  | profSave => exact hP.answerProfSave hs
  | profErase => exact hP.answerProfErase hs
  | profLock => exact hP.prs _ rfl hs
  | capAck serial => exact hP.cap _ hs
  | linkStatus clear => cases clear with
    | false => exact hs
    | true => exact hP.lnk _ hs
  | lineStatus clear => cases clear with
    | false => exact hP.drawn hs
    | true =>
      refine hP.drawn (hP.lines _ (fun n f r hf _ => ?_) hs)
      simpa using hf
  | actAdd p =>
    dsimp only [answerActAdd]
    repeat' split
    any_goals exact hs
    exact hP.insertAndPass _ hs
  | actCancel handle =>
    dsimp only [answerActCancel]
    repeat' split
    any_goals exact hs
    exact hP.sch _ rfl hs
  | actPurge lines origins =>
    dsimp only [answerActPurge]
    repeat' split
    any_goals exact hs
    exact hP.sch _ rfl hs
  | actGet handle =>
    dsimp only [answerActGet]
    split <;> exact hs
  | schedConfig tolerance =>
    dsimp only [answerSchedConfig]
    repeat' split
    any_goals exact hs
    exact hP.sch _ rfl hs
  | lineConfig line rec =>
    dsimp only [answerLineConfig]
    repeat' split
    any_goals exact hs
    exact hP.configureLine _ _ hs
  | lineDrive lines action width =>
    dsimp only [answerLineDrive]
    repeat' split
    any_goals exact hs
    exact hP.claimLines _ _ hs
  | capConfig policy mark =>
    dsimp only [answerCapConfig]
    repeat' split
    any_goals exact hs
    exact hP.installCaptureConfig _ _ hs
  | trgSet p =>
    dsimp only [answerTrgSet]
    repeat' split
    any_goals exact hs
    exact hP.trg _ hs
  | trgArm id count =>
    dsimp only [answerTrgArm]
    split
    · exact hs
    · exact hP.trg _ hs
  | trgDisarm id =>
    dsimp only [answerTrgDisarm]
    split
    · exact hs
    · exact hP.trg _ hs
  | trgClear id =>
    dsimp only [answerTrgClear]
    split
    · exact hs
    · exact hP.trg _ hs
  | refConfig p =>
    dsimp only [answerRefConfig]
    repeat' split
    any_goals exact hs
    exact hP.installRefConfig _ hs

/-- Such a property is kept by every operation, where the time base, the hold reasons, the lease, the resets and the pins keep it. -/
theorem kept (renew : ∀ s, P s → P (renewLease s))
    (governed : ∀ r k s, Request.governs r = true → P s → P (Machine.answer r k s).state)
    (reset : ∀ cause s, P s → P (mainReset cause s)) (pins : ∀ pins s, P s → P (setPins pins s))
    (pin : ∀ pin drive s, P s → P (changePin pin drive s)) (owed : ∀ us s, P s → P (s.setOwed us))
    (elapsed : ∀ x s, P s → P (s.setTmb { s.tmb with elapsed := x })) (part : ∀ p s, P s → P (doPart p s))
    (accept : ∀ n order s, P s → P (Machine.acceptRun n order s)) : Kept P where
  link _ _ := hP.lnk _
  renew := renew
  answer r k s hs := by
    cases hr : r.governs with
    | true => exact governed r k s hr hs
    | false => exact hP.answer k hr hs
  reset := reset
  pins := pins
  pin := pin
  owed := owed
  draw _ := hP.drawn
  elapsed := elapsed
  part := part
  accept := accept
  scanned _ := hP.scanned
  startUp _ := hP.startUpValidated
  requested _ := hP.requestedValidated
  stage _ := hP.loadStep
  erased _ := hP.saveErased
  page flaws _ := hP.pageProgrammed flaws
  verified _ := hP.saveVerified
  timeout _ := hP.flashTimedOut
  recovered _ := hP.recoveryErased
  slot _ := hP.slotErased

end SteadyStore

end Sys2Proof.Machine

/-! ## The time base stays in its ranges -/

namespace Sys2Proof.Machine

/-- The change of validity alone keeps the ranges, where no slew is left at UNSET (R14). -/
theorem Tmb.inRange.withValidity {t : Tmb} (h : t.inRange) {v : Validity} (hv : v = .unset → t.slew = 0) :
    ({ t with validity := v } : Tmb).inRange := by
  obtain ⟨hi, htlo, hthi, halo, hahi, hslew, hphase, -⟩ := h
  exact ⟨hi, htlo, hthi, halo, hahi, hslew, hphase, hv⟩

/-- A step to an instant of the range keeps the ranges (R15). -/
theorem Tmb.inRange.stepped {t : Tmb} (h : t.inRange) {new : Instant} (hn : new.inRange = true)
    (change : Option ValidityChange) : (t.stepped new change).inRange := by
  obtain ⟨-, htlo, hthi, halo, hahi, -, hphase, -⟩ := h
  exact ⟨hn, htlo, hthi, halo, hahi, by simp [Tmb.stepped], hphase, fun _ => rfl⟩

/-- A slew remainder within its limit keeps the ranges outside UNSET (R21). -/
theorem Tmb.inRange.withSlew {t : Tmb} (h : t.inRange) {v : Int} (hv : v.natAbs ≤ Config.slewMax)
    (hu : t.validity = .unset → v = 0) : ({ t with slew := v } : Tmb).inRange := by
  obtain ⟨hi, htlo, hthi, halo, hahi, -, hphase, -⟩ := h
  exact ⟨hi, htlo, hthi, halo, hahi, hv, hphase, hu⟩

/-- The correction of an onset's offset fits the slew remainder (R16, R116). -/
theorem correctionOf_offsetOf {tick : Nat} (h : tick ≤ 1023) : (correctionOf (offsetOf tick)).natAbs ≤ Config.slewMax := by
  unfold correctionOf offsetOf
  simp only [Config.slewMax]
  split_ifs <;> omega

namespace State.timeOk

/-- The time base in its ranges and no run that was not there. -/
theorem of_runs {s t : State} (hs : s.timeOk) (ht : t.tmb.inRange)
    (hl : ∀ (n : LineNo) f r, (t.lin[n]).input = some f → f.run = some r → (s.lin[n]).input = some f) : t.timeOk :=
  ⟨ht, fun n f r hf hr => hs.2 n f r (hl n f r hf hr) hr⟩

/-- The time base in its ranges and the filters as they were. -/
theorem of_inputs {s t : State} (hs : s.timeOk) (ht : t.tmb.inRange) (hl : ∀ n : LineNo, (t.lin[n]).input = (s.lin[n]).input) :
    t.timeOk :=
  hs.of_runs ht fun n _ _ hf _ => hl n ▸ hf

theorem setTmb {s : State} (hs : s.timeOk) {b : Tmb} (hb : b.inRange) : (s.setTmb b).timeOk := ⟨hb, hs.2⟩

/-- A change of validity that leaves no slew at UNSET. -/
theorem setValidity {s : State} (hs : s.timeOk) {v : Validity} (hv : v = .unset → s.tmb.slew = 0) (c : ValidityCause) (k : Nat) :
    (setValidity v c k s).timeOk :=
  hs.of_inputs (by rw [setValidity_tmb]; exact hs.1.withValidity hv) fun n => by simp

/-- A step to an instant of the range. -/
theorem stepWith {s : State} (hs : s.timeOk) {new : Instant} (hn : new.inRange = true) (c : StepCause)
    (d : Option ValidityChange) (k : Nat) : (stepWith new c d k s).timeOk :=
  hs.of_inputs (by rw [stepWith_tmb]; exact hs.1.stepped hn d) fun n => by simp

theorem claimSlew {s : State} (hs : s.timeOk) {v : Int} (hv : v.natAbs ≤ Config.slewMax) : (claimSlew v s).timeOk := by
  unfold Machine.claimSlew
  split
  · exact hs
  · exact hs.setTmb (hs.1.withSlew hv fun hu => absurd hu ‹_›)

theorem removeReason {s : State} (hs : s.timeOk) (r : HoldReason) : (removeReason r s).timeOk :=
  hs.of_inputs (by simpa using hs.1) fun n => by simp

end State.timeOk

/-- The ranges of the time base do not hang on the blocks that `Steady` lets change. -/
theorem steady_timeOk : SteadyStore State.timeOk where
  cap _ h := h
  trg _ h := h
  rds _ h := h
  flash _ h := h
  lnk _ h := h
  draws _ h := h
  sch _ _ h := h
  lines _ hl h := h.of_runs h.1 hl
  holdover c h := by
    unfold claimHoldover
    split
    · exact h.setValidity (by simp) _ _
    · exact h
  tracking c h := by
    unfold claimTracking
    split
    · exact h
    · exact h.setValidity (by simp) _ _
  stepBy d k h := by
    unfold claimStep
    split
    · exact h
    · exact h.stepWith (Instant.inRange_ofTicks (Nat.min_le_right _ _)) _ _ _
  lease p f h := by unfold installLease; split <;> exact h
  prs _ _ h := h
  finish {s} h := State.timeOk.removeReason (s := s.setJob .idle) h .load

namespace State.timeOk

variable {s : State}

/-- A sample of a filter: a run that starts takes the present instant as its onset (R81). -/
theorem sampleLine {n : LineNo} {f : Filter} (hf : (s.lin[n]).input = some f) (hs : s.timeOk) : (sampleLine n f s).timeOk := by
  refine ⟨hs.1, fun m f' r hf' hr => ?_⟩
  by_cases e : n = m
  · subst e
    obtain rfl : (f.sample (s.raw n) s.tmb.instant s.tmb.generation).filter = f' := by
      simpa [Machine.sampleLine] using hf'
    unfold Filter.sample at hr
    split at hr
    · cases hr
    · cases hrun : f.run with
      | none => simp only [hrun, Option.some.injEq] at hr; rw [← hr]; exact hs.1.1
      | some r0 => simp only [hrun, Option.some.injEq] at hr; rw [← hr]; exact hs.2 n f r0 hf hrun
  · have : (n : Nat) ≠ m := fun h => e (Fin.ext h)
    exact hs.2 m f' r (by simpa [Machine.sampleLine, Vector.getElem_set, this] using hf') hr

/-- The acceptance of a run: its onset lies in the range, so the slew claim fits (R16, R116). -/
theorem acceptRun (n : LineNo) (order : EdgeOrder) (hs : s.timeOk) : (acceptRun n order s).timeOk := by
  refine steady_timeOk.acceptRun (fun f r hc u hu => hu.claimSlew (correctionOf_offsetOf ?_)) order hs
  have hrun : (s.lin[n]).input = some f ∧ f.run = some r := by
    unfold State.completed at hc
    split at hc
    · cases hc
    · rename_i f0 hf0
      simp only [Option.map_eq_some_iff, Filter.completed, Option.filter_eq_some_iff, Prod.mk.injEq] at hc
      obtain ⟨r0, ⟨hr0, -⟩, rfl, rfl⟩ := hc
      exact ⟨hf0, hr0⟩
  exact (Instant.inRange_iff.1 (hs.2 n f r hrun.1 hrun.2)).2

theorem advanceInstant (k : Nat) (hs : s.timeOk) : (advanceInstant k s).timeOk := by
  have h1 : (s.setTmb s.tmb.advance.settled).timeOk := hs.setTmb hs.1.settled
  have h2 : (if s.tmb.advance.moved then passAround k s.tmb.advance.own (s.setTmb s.tmb.advance.settled)
      else postOwn s.tmb.advance.own (s.setTmb s.tmb.advance.settled)).timeOk := by
    split
    · exact steady_timeOk.passAround _ _ h1
    · exact steady_timeOk.postOwn _ h1
  unfold Machine.advanceInstant
  dsimp only
  split <;> exact h2

theorem mainReset (c : StartCause) (hs : s.timeOk) : (mainReset c s).timeOk := by
  obtain ⟨-, -, htmb, -, -, -, -, -, -, -, -, -, hlin⟩ := mainReset_blocks c s
  refine hs.of_runs ?_ fun n f r hf _ => ?_
  · obtain ⟨hi, htlo, hthi, halo, hahi, hslew, hphase, hunset⟩ := hs.1
    rw [htmb]
    refine ⟨?_, ?_, ?_, ?_, ?_, ?_, ?_, fun hv => ?_⟩ <;> simp only [resetBlocks, abandonCommand_tmb] at *
    any_goals assumption
    refine hunset ?_
    revert hv
    cases s.tmb.validity <;> simp [Validity.afterReset]
  · rw [hlin] at hf
    simp [resetBlocks, Line.fresh] at hf

theorem leaseTick (hs : s.timeOk) : (leaseTick s).timeOk := by
  have hexp : (expireLease s).timeOk := by
    unfold expireLease applyFallback claimSafe
    refine steady_timeOk.post _ ?_
    split
    · exact hs
    · exact hs
    · exact hs
    · exact steady_timeOk.claimLines _ _ hs
    · exact steady_timeOk.claimLines _ _ hs
  unfold Machine.leaseTick
  split
  · split
    · dsimp only
      split
      · exact hexp.mainReset _
      · exact hexp
    · exact hs
  all_goals exact hs

theorem doPart (p : TickPart) (hs : s.timeOk) : (doPart p s).timeOk := by
  cases p with
  | advance k => exact hs.advanceInstant k
  | line n accept =>
    exact steady_timeOk.lineTick (fun f u hf hu => hu.sampleLine hf) (fun order u hu => hu.acceptRun n order) accept hs
  | trigger t => exact steady_timeOk.triggerTick t hs
  | reference => exact steady_timeOk.referenceTick hs
  | lease => exact hs.leaseTick

theorem changePin (pin : Pin) (drive : PinDrive) (hs : s.timeOk) : (changePin pin drive s).timeOk := by
  have hext : ∀ (n : LineNo) x, (s.setLine n { s.lin[n] with ext := x }).timeOk := fun n x =>
    hs.of_inputs hs.1 fun m => by
      by_cases e : n = m
      · subst e; simp
      · have : (n : Nat) ≠ m := fun h => e (Fin.ext h)
        simp [this]
  unfold Machine.changePin
  split
  · exact hext _ _
  · exact hext _ _
  all_goals exact hs

/-- The requests of the time base check what they install; the others leave the time base (R5, R19 to R23). -/
theorem answer (r : Request) (k : Nat) (hr : r.governs = true) (hs : s.timeOk) : (answer r k s).state.timeOk := by
  cases r with
  | timeSet form =>
    change (answerTimeSet form k s).state.timeOk
    unfold answerTimeSet
    split
    · exact hs
    · rename_i i hi
      refine hs.stepWith ?_ _ _ _
      cases form with
      | instant sec tick =>
        simp only [readTimeSet, Option.ite_none_right_eq_some, Option.some.injEq] at hi
        obtain ⟨hr, rfl⟩ := hi
        exact Instant.inRange_iff.2 hr
      | calendar y mo d hr mi se tick =>
        simp only [readTimeSet, Option.ite_none_right_eq_some, Option.some.injEq] at hi
        obtain ⟨hv, rfl⟩ := hi
        exact instantOfCivil_inRange hv
      | other form rest => cases hi
  | timeAdjust mode v =>
    change (answerTimeAdjust mode v s).state.timeOk
    unfold answerTimeAdjust
    split
    · dsimp only [answerAdjustStep]
      split
      · exact hs
      · split
        · exact hs
        · split
          · exact hs
          · exact hs.stepWith (Instant.inRange_ofTicks (by omega)) _ _ _
    · unfold answerAdjustSlew
      split
      · exact hs
      · split
        · exact hs
        · exact hs.setTmb (hs.1.withSlew (by omega) fun hu => absurd hu ‹_›)
    · exact hs
  | timeClear =>
    change (answerTimeClear s).state.timeOk
    unfold answerTimeClear
    dsimp only [Answer.ok]
    split
    · exact hs
    · exact (hs.setTmb (hs.1.withSlew (by simp) fun _ => rfl)).setValidity (fun _ => rfl) _ _
  | trimSet v =>
    change (answerTrimSet v s).state.timeOk
    unfold answerTrimSet
    split
    · exact hs
    · obtain ⟨hi, -, -, -, -, hslew, hphase, hunset⟩ := hs.1
      exact hs.setTmb ⟨hi, by dsimp only; omega, by dsimp only; omega, by simp, by simp, hslew, hphase, hunset⟩
  | schedHold => exact hs
  | schedRelease => exact hs.removeReason .host
  | profLoad =>
    change (answerProfLoad s).state.timeOk
    unfold answerProfLoad
    split
    · exact hs
    · split <;> exact hs
  | leaseConfig p f =>
    change (answerLeaseConfig p f s).state.timeOk
    unfold answerLeaseConfig
    repeat' split
    all_goals exact hs
  | leaseResume =>
    change (answerLeaseResume s).state.timeOk
    unfold answerLeaseResume
    split
    · have hl : ∀ x, (s.setLsm x).timeOk := fun _ => hs
      exact (hl _).removeReason .lease
    · exact hs
  | _ => cases hr

/-- The loss of supply makes the advance still owed (R6). -/
theorem losePower (hs : s.timeOk) : (losePower s).timeOk := by
  have h1 := steady_timeOk.lossCommand hs
  unfold Machine.losePower
  dsimp only
  split
  · exact h1.setTmb h1.1.settled
  · exact h1

theorem gainPower (held : Bool) (pins : StartPins) (hs : s.timeOk) : (gainPower held pins s).timeOk := by
  have hcold : Tmb.cold.inRange := ⟨by decide, by decide, by decide, by decide, by decide, by decide, by decide, by decide⟩
  unfold Machine.gainPower
  dsimp only
  split
  · exact mainReset _ hs
  · exact mainReset _ (setTmb (s := setPins pins (s.setPower true)) hs hcold)

theorem backupAdvance (hs : s.timeOk) : (backupAdvance s).timeOk := by
  unfold Machine.backupAdvance
  split
  · exact hs.setTmb hs.1.settled
  · exact hs

end State.timeOk

/-- Every operation keeps the time base in its ranges. -/
theorem kept_timeOk : Kept State.timeOk :=
  steady_timeOk.kept (renew := fun _ h => h) (governed := fun r k _ hr h => h.answer r k hr) (reset := fun c _ h => h.mainReset c)
    (pins := fun _ _ h => h) (pin := fun pin drive _ h => h.changePin pin drive) (owed := fun _ _ h => h)
    (elapsed := fun _ _ h => h) (part := fun p _ h => h.doPart p) (accept := fun n order _ h => h.acceptRun n order)

/-- Settles O54: every operation keeps the ranges, on a powered part and without supply. -/
theorem timeStaysInRange : Obligations.TimeStaysInRange := fun _ _ =>
  step_keeps kept_timeOk (fun _ _ h => h) (fun _ h => h) (fun _ h => h.losePower) (fun held pins _ h => h.gainPower held pins)
    (fun _ _ h => h.backupAdvance) (fun _ h => h) (fun pin drive _ h => h.changePin pin drive) (fun _ _ h => h)

end Sys2Proof.Machine

/-! ## The hold reasons follow their causes, and the lease its period -/

namespace Sys2Proof.Machine

/-! ### The hold reasons after each operation -/

/-- The removal of a reason takes it out of the set (R40). -/
@[simp] theorem removeReason_sch_hold (r : HoldReason) (s : State) :
    (removeReason r s).sch.hold = s.sch.hold.put r false := by
  unfold removeReason
  dsimp only
  split
  · split <;> simp
  · rename_i h
    rw [HoldSet.put_false_of_absent (Bool.eq_false_iff.2 h)]

/-- The same with a notice beside it (R40). -/
@[simp] theorem removeReasonAround_sch_hold (r : HoldReason) (k : Nat) (n : Option Notice) (s : State) :
    (removeReasonAround r k n s).sch.hold = s.sch.hold.put r false := by
  unfold removeReasonAround
  dsimp only
  split
  · split <;> simp
  · rename_i h
    rw [postOwn_sch, HoldSet.put_false_of_absent (Bool.eq_false_iff.2 h)]

/-- A change of validity moves NOTIME with UNSET (R14, R41). -/
theorem setValidity_sch_hold (v : Validity) (c : ValidityCause) (k : Nat) (s : State) :
    (setValidity v c k s).sch.hold =
      if v = s.tmb.validity then s.sch.hold else if v = .unset then s.sch.hold.put .notime true
      else if s.tmb.validity = .unset then s.sch.hold.put .notime false else s.sch.hold := by
  unfold setValidity addReason
  dsimp only
  split
  · rfl
  · split
    · simp
    · split <;> simp

@[simp] theorem HoldSet.put_notime_notime (h : HoldSet) (x : Bool) : (h.put .notime x).notime = x := rfl
@[simp] theorem HoldSet.put_notime_load (h : HoldSet) (x : Bool) : (h.put .notime x).load = h.load := rfl
@[simp] theorem HoldSet.put_load_notime (h : HoldSet) (x : Bool) : (h.put .load x).notime = h.notime := rfl
@[simp] theorem HoldSet.put_load_load (h : HoldSet) (x : Bool) : (h.put .load x).load = x := rfl
@[simp] theorem HoldSet.put_host_notime (h : HoldSet) (x : Bool) : (h.put .host x).notime = h.notime := rfl
@[simp] theorem HoldSet.put_host_load (h : HoldSet) (x : Bool) : (h.put .host x).load = h.load := rfl
@[simp] theorem HoldSet.put_lease_notime (h : HoldSet) (x : Bool) : (h.put .lease x).notime = h.notime := rfl
@[simp] theorem HoldSet.put_lease_load (h : HoldSet) (x : Bool) : (h.put .lease x).load = h.load := rfl

/-! ### The lease -/

/-- A configuration just installed (R157). -/
theorem Lsm.install_ok (p : Nat) (f : Fallback) : (Lsm.install p f).ok := by
  unfold Lsm.install Lsm.ok Lsm.limit
  by_cases hp : p = 0
  · simp [hp]
  · simp only [hp, if_false, Config.ticksPerSecond]
    omega

/-- A renewal keeps the lease in step with its period (R152). -/
theorem Lsm.ok.renew {l : Lsm} (h : l.ok) : l.renew.ok := by
  unfold Lsm.renew
  cases hl : l.state with
  | running =>
    simp only [Lsm.ok, hl, Lsm.limit, Config.ticksPerSecond] at h ⊢
    omega
  | disabled => simpa [hl] using h
  | expired => simpa [hl] using h

/-! ### The invariant of a powered part -/

/-- The part is powered, NOTIME stands exactly while UNSET, LOAD exactly while a load runs, and the lease is in step with its period
(R41, R151). -/
def State.causesOk (s : State) : Prop :=
  s.power = true ∧ (s.sch.hold.notime = true ↔ s.tmb.validity = .unset) ∧ (s.sch.hold.load = true ↔ s.loading = true) ∧ s.lsm.ok

namespace State.causesOk

variable {s : State}

/-- Another set of hold reasons with the same NOTIME and LOAD. -/
theorem setSch (hs : s.causesOk) {c : Sch} (hn : c.hold.notime = s.sch.hold.notime) (hl : c.hold.load = s.sch.hold.load) :
    (s.setSch c).causesOk := by
  obtain ⟨hp, hnotime, hload, hlsm⟩ := hs
  exact ⟨hp, by rw [← hn] at hnotime; exact hnotime, by rw [← hl] at hload; exact hload, hlsm⟩

theorem setLsm (hs : s.causesOk) {l : Lsm} (hl : l.ok) : (s.setLsm l).causesOk := ⟨hs.1, hs.2.1, hs.2.2.1, hl⟩

/-- Another Time Base of the same validity. -/
theorem setTmb (hs : s.causesOk) {b : Tmb} (hb : b.validity = s.tmb.validity) : (s.setTmb b).causesOk := by
  obtain ⟨hp, hnotime, hload, hlsm⟩ := hs
  exact ⟨hp, by rw [← hb] at hnotime; exact hnotime, hload, hlsm⟩

/-- A change of validity moves NOTIME with it (R14, R41). -/
theorem setValidity (hs : s.causesOk) (v : Validity) (c : ValidityCause) (k : Nat) : (setValidity v c k s).causesOk := by
  obtain ⟨hp, hnotime, hload, hlsm⟩ := hs
  refine ⟨by simpa using hp, ?_, ?_, by simpa using hlsm⟩
  · rw [setValidity_tmb, setValidity_sch_hold]
    split
    · rename_i h; rw [h]; exact hnotime
    · split
      · simp [*]
      · split
        · simp [*]
        · simp [*]
  · rw [setValidity_sch_hold, State.loading, setValidity_prs]
    split
    · exact hload
    · split
      · exact hload
      · split <;> exact hload

/-- A step takes NOTIME out with UNSET, where its operation does not lead there (R15, R41). -/
theorem stepWith (hs : s.causesOk) (new : Instant) (c : StepCause) {d : Option ValidityChange}
    (hd : ∀ x, d = some x → x.target ≠ .unset) (k : Nat) : (stepWith new c d k s).causesOk := by
  obtain ⟨hp, hnotime, hload, hlsm⟩ := hs
  refine ⟨by simpa using hp, ?_, ?_, by simpa using hlsm⟩
  · rw [stepWith_tmb, stepWith_sch_hold]
    cases d with
    | none =>
      have hv : (s.tmb.stepped new none).validity = s.tmb.validity := rfl
      rw [hv, if_neg (by tauto)]
      exact hnotime
    | some x =>
      have hv : (s.tmb.stepped new (some x)).validity = x.target := rfl
      have hx := hd x rfl
      rw [hv]
      split
      · simp [hx]
      · simp only [hx, iff_false]
        tauto
  · rw [stepWith_sch_hold, State.loading, stepWith_prs]
    split <;> exact hload

theorem removeReason (hs : s.causesOk) {r : HoldReason} (hn : r ≠ .notime) (hl : r ≠ .load) :
    (removeReason r s).causesOk := by
  obtain ⟨hp, hnotime, hload, hlsm⟩ := hs
  refine ⟨by simpa using hp, ?_, ?_, by simpa using hlsm⟩
  · rw [removeReason_tmb, removeReason_sch_hold]
    cases r with
    | notime => exact absurd rfl hn
    | _ => exact hnotime
  · rw [State.loading, removeReason_prs, removeReason_sch_hold]
    cases r with
    | load => exact absurd rfl hl
    | _ => exact hload

end State.causesOk

/-- The causes do not hang on the blocks that `Steady` lets change, and the end of a load takes LOAD out with it. -/
theorem steady_causesOk : SteadyStore State.causesOk where
  cap _ h := h
  trg _ h := h
  rds _ h := h
  flash _ h := h
  lnk _ h := h
  draws _ h := h
  sch _ hc h := h.setSch (by rw [hc]) (by rw [hc])
  lines _ _ h := h
  holdover c h := by
    unfold claimHoldover
    split
    · exact h.setValidity _ _ _
    · exact h
  tracking c h := by
    unfold claimTracking
    split
    · exact h
    · exact h.setValidity _ _ _
  stepBy d k h := by
    unfold claimStep
    split
    · exact h
    · exact h.stepWith _ _ (by simp) _
  lease p f h := by
    unfold installLease
    split
    · rename_i he
      exact h.setLsm (by simp [Lsm.ok, he])
    · exact h.setLsm (Lsm.install_ok p f)
    · exact h.setLsm (Lsm.install_ok p f)
  prs x hx h := ⟨h.1, h.2.1, by rw [State.loading, State.setPrs_prs, hx]; exact h.2.2.1, h.2.2.2⟩
  finish h := by
    obtain ⟨hp, hnotime, -, hlsm⟩ := h
    refine ⟨by simpa using hp, by simpa using hnotime, ?_, by simpa using hlsm⟩
    simp [State.loading, PrsJob.isLoading]

namespace State.causesOk

variable {s : State}

/-- A main reset sets NOTIME by the validity it leaves and LOAD by the load it begins, and disables the lease (R48, R135, R160). -/
theorem mainReset (c : StartCause) (hp : s.power = true) : (mainReset c s).causesOk := by
  obtain ⟨hpow, -, htmb, -, -, -, hlsm, -⟩ := mainReset_blocks c s
  refine ⟨by rw [hpow]; simpa [resetBlocks] using hp, ?_, ?_, by rw [hlsm]; exact ⟨rfl, rfl⟩⟩
  · rw [mainReset_sch, htmb]
    cases h : s.tmb.validity <;> simp [Sch.fresh, resetBlocks, Validity.afterReset, h]
  · rw [mainReset_sch, State.loading, mainReset_prs]
    cases s.flash.answers <;> cases s.straps.autoload <;> simp [Sch.fresh, Prs.fresh, PrsJob.isLoading]

/-- The advance: a range end leaves UNSET with NOTIME (R12, R14). -/
theorem advanceInstant (k : Nat) (hs : s.causesOk) : (advanceInstant k s).causesOk := by
  set u := if s.tmb.advance.moved then passAround k s.tmb.advance.own (s.setTmb s.tmb.advance.settled)
    else postOwn s.tmb.advance.own (s.setTmb s.tmb.advance.settled) with hu
  have hval : s.tmb.advance.tmb.validity = s.tmb.validity := by
    obtain h | h := s.tmb.advance_cases
    · rw [Tmb.advance_within h]
    · rw [Tmb.advance_past h]
  have hadv : Machine.advanceInstant k s =
      if s.tmb.advance.rangeEnd && decide (s.tmb.validity ≠ .unset) then addReason .notime u else u := rfl
  have htmb : u.tmb = s.tmb.advance.settled := by rw [hu]; split <;> simp
  have hsch : u.sch.hold = s.sch.hold := by rw [hu]; split <;> simp
  have hprs : u.prs = s.prs := by rw [hu]; split <;> simp
  have hpow : u.power = s.power := by rw [hu]; split <;> simp
  have hlsm : u.lsm = s.lsm := by rw [hu]; split <;> simp
  obtain ⟨hp, hnotime, hload, hl⟩ := hs
  rw [hadv]
  cases he : s.tmb.advance.rangeEnd with
  | false =>
    refine ⟨hpow.trans hp, ?_, ?_, by simpa [hlsm] using hl⟩
    · simpa [hsch, htmb, Advance.settled, he, hval] using hnotime
    · simpa [hsch, State.loading, hprs] using hload
  | true =>
    by_cases hv : s.tmb.validity = .unset
    · refine ⟨by simpa [hv, hpow] using hp, ?_, ?_, by simpa [hv, hlsm] using hl⟩
      · simpa [hv, hsch, htmb, Advance.settled, he] using hnotime.2 hv
      · simpa [hv, hsch, State.loading, hprs] using hload
    · refine ⟨by simpa [hv, hpow, addReason] using hp, ?_, ?_, by simpa [hv, hlsm, addReason] using hl⟩
      · simp [hv, addReason, htmb, Advance.settled, he]
      · simpa [hv, hsch, State.loading, hprs, addReason] using hload

theorem acceptRun (n : LineNo) (order : EdgeOrder) (hs : s.causesOk) : (acceptRun n order s).causesOk := by
  refine steady_causesOk.acceptRun (fun f r _ u hu => ?_) order hs
  unfold claimSlew
  split
  · exact hu
  · exact hu.setTmb rfl

/-- What the fallback does to the schedule and the lines (R154). -/
theorem applyFallback (f : Fallback) (hs : s.causesOk) : (applyFallback f s).causesOk := by
  have hadd : (addReason .lease s).causesOk := hs.setSch rfl rfl
  cases f with
  | notify | restart => exact hs
  | hold => exact hadd
  | safe => exact steady_causesOk.claimLines _ _ hs
  | safeHold => exact steady_causesOk.claimLines _ _ hadd

/-- The lease deals with a tick: it counts, or it expires (R153, R155). -/
theorem leaseTick (hs : s.causesOk) : (leaseTick s).causesOk := by
  have hexp : (expireLease s).causesOk :=
    steady_causesOk.post _ ((hs.setLsm (by simp [Lsm.ok])).applyFallback _)
  unfold Machine.leaseTick
  split
  · rename_i hrun
    split
    · dsimp only
      split
      · exact mainReset _ hexp.1
      · exact hexp
    · rename_i hne
      have hl := hs.2.2.2
      simp only [Lsm.expiring, hrun, beq_self_eq_true, Bool.true_and, decide_eq_true_eq, Nat.not_le] at hne
      simp only [Lsm.ok, hrun] at hl
      exact hs.setLsm (by simp only [Lsm.ok, hrun]; exact ⟨hl.1, hne⟩)
  all_goals exact hs

theorem doPart (p : TickPart) (hs : s.causesOk) : (doPart p s).causesOk := by
  cases p with
  | advance k => exact hs.advanceInstant k
  | line n accept =>
    exact steady_causesOk.lineTick (fun f u _ hu => hu) (fun order u hu => hu.acceptRun n order) accept hs
  | trigger t => exact steady_causesOk.triggerTick t hs
  | reference => exact steady_causesOk.referenceTick hs
  | lease => exact hs.leaseTick

theorem changePin (pin : Pin) (drive : PinDrive) (hs : s.causesOk) : (changePin pin drive s).causesOk := by
  unfold Machine.changePin
  split <;> exact hs

/-- The requests that set the validity, a hold reason or the lease (R15, R23, R42, R43, R136, R156, R157). -/
theorem answer (r : Request) (k : Nat) (hr : r.governs = true) (hs : s.causesOk) : (answer r k s).state.causesOk := by
  cases r with
  | timeSet form =>
    change (answerTimeSet form k s).state.causesOk
    unfold answerTimeSet
    split
    · exact hs
    · exact hs.stepWith _ _ (by simp) _
  | timeAdjust mode v =>
    change (answerTimeAdjust mode v s).state.causesOk
    unfold answerTimeAdjust
    split
    · dsimp only [answerAdjustStep]
      repeat' split
      any_goals exact hs
      exact hs.stepWith _ _ (by simp) _
    · dsimp only [answerAdjustSlew]
      repeat' split
      all_goals exact hs
    · exact hs
  | timeClear =>
    change (answerTimeClear s).state.causesOk
    unfold answerTimeClear
    dsimp only [Answer.ok]
    split
    · exact hs
    · have h1 : (s.setTmb { s.tmb with slew := 0 }).causesOk := hs.setTmb rfl
      exact h1.setValidity _ _ _
  | trimSet v =>
    change (answerTrimSet v s).state.causesOk
    unfold answerTrimSet
    split
    · exact hs
    · exact hs.setTmb rfl
  | schedHold => exact hs.setSch rfl rfl
  | schedRelease => exact hs.removeReason (by simp) (by simp)
  | profLoad =>
    change (answerProfLoad s).state.causesOk
    unfold answerProfLoad
    split
    · exact hs
    · split
      · exact ⟨hs.1, hs.2.1, by simp [Answer.accepted, addReason, State.loading, PrsJob.isLoading], hs.2.2.2⟩
      · exact hs
  | leaseConfig p f =>
    change (answerLeaseConfig p f s).state.causesOk
    unfold answerLeaseConfig
    repeat' split
    any_goals exact hs
    exact hs.setLsm (Lsm.install_ok _ _)
  | leaseResume =>
    change (answerLeaseResume s).state.causesOk
    unfold answerLeaseResume
    split
    · have hl : ({ s.lsm with state := if 0 < s.lsm.period then .running else .disabled, count := 0 } : Lsm).ok := by
        by_cases hp : 0 < s.lsm.period
        · simp [Lsm.ok, Lsm.limit, hp]
        · simp [Lsm.ok, Nat.eq_zero_of_not_pos hp]
      exact (hs.setLsm hl).removeReason (by simp) (by simp)
    · exact hs
  | _ => cases hr

end State.causesOk

/-- Every operation keeps the causes. -/
theorem kept_causesOk : Kept State.causesOk :=
  steady_causesOk.kept (renew := fun _ h => h.setLsm h.2.2.2.renew) (governed := fun r k _ hr h => h.answer r k hr)
    (reset := fun c _ h => .mainReset c h.1) (pins := fun _ _ h => h) (pin := fun pin drive _ h => h.changePin pin drive)
    (owed := fun _ _ h => h) (elapsed := fun _ _ h => h.setTmb rfl) (part := fun p _ h => h.doPart p)
    (accept := fun n order _ h => h.acceptRun n order)

/-- A part without supply has no hold reasons to keep. -/
theorem State.holdsOk.of_unpowered {s : State} (h : s.power = false) : s.holdsOk := fun hp => by simp [h] at hp

theorem gainPower_causesOk (held : Bool) (pins : StartPins) (s : State) : (gainPower held pins s).causesOk := by
  unfold gainPower
  dsimp only
  split <;> exact .mainReset _ rfl

/-- What a part without supply does leaves the hold reasons, the load and the lease (R6, R7). -/
theorem losePower_lsm (s : State) : (losePower s).lsm = s.lsm := by
  have h : (lossCommand s).lsm = s.lsm := by unfold lossCommand; split <;> rfl
  unfold losePower
  dsimp only
  split <;> exact h

/-- Settles O58: on a powered part the two properties are `State.causesOk`, which every operation keeps; without supply the hold
reasons are not spoken of, and nothing reaches the lease. -/
theorem holdsFollowTheirCause : Obligations.HoldsFollowTheirCause := by
  intro s t hholds hlsm
  refine step_keeps (Q := fun s => s.holdsOk ∧ s.lsm.ok) kept_causesOk (fun u hp h => ⟨hp, (h.1 hp).1, (h.1 hp).2, h.2⟩)
    (fun u h => ⟨fun _ => ⟨h.2.1, h.2.2.1⟩, h.2.2.2⟩)
    (fun u h => ⟨.of_unpowered rfl, by rw [losePower_lsm]; exact h.2⟩)
    (fun held pins u _ => ?_) (fun u hp h => ?_) (fun _ h => h) (fun pin drive u h => ?_) (fun _ _ h => h) ⟨hholds, hlsm⟩
  · have h := gainPower_causesOk held pins u
    exact ⟨fun _ => ⟨h.2.1, h.2.2.1⟩, h.2.2.2⟩
  · unfold backupAdvance
    split
    · exact ⟨.of_unpowered hp, h.2⟩
    · exact h
  · unfold changePin
    split <;> exact h

end Sys2Proof.Machine

/-! ## Requests of the time base, from their frames to their owner -/

namespace Sys2Proof.Machine

/-! ### Fields of a payload -/

/-- A two-byte field reads back (10.3). -/
theorem w16At_u16 (p q : List Byte) (x : W16) : w16At (p ++ (u16 x.toNat ++ q)) p.length = x := by
  have h0 : byteAt (p ++ (u16 x.toNat ++ q)) p.length = BitVec.ofNat 8 x.toNat := by simp [byteAt, u16]
  have h1 : byteAt (p ++ (u16 x.toNat ++ q)) (p.length + 1) = BitVec.ofNat 8 (x.toNat / 256) := by
    simp [byteAt, u16]
  apply BitVec.eq_of_toNat_eq
  have := x.isLt
  simp only [w16At, u16At, h0, h1, BitVec.toNat_ofNat]
  omega

/-- A four-byte field reads back (10.3). -/
theorem w32At_u32 (p q : List Byte) (x : W32) : w32At (p ++ (u32 x.toNat ++ q)) p.length = x := by
  have h0 : byteAt (p ++ (u32 x.toNat ++ q)) p.length = BitVec.ofNat 8 x.toNat := by simp [byteAt, u32]
  have h1 : byteAt (p ++ (u32 x.toNat ++ q)) (p.length + 1) = BitVec.ofNat 8 (x.toNat / 256) := by simp [byteAt, u32]
  have h2 : byteAt (p ++ (u32 x.toNat ++ q)) (p.length + 2) = BitVec.ofNat 8 (x.toNat / 65536) := by simp [byteAt, u32]
  have h3 : byteAt (p ++ (u32 x.toNat ++ q)) (p.length + 2 + 1) = BitVec.ofNat 8 (x.toNat / 16777216) := by
    rw [Nat.add_assoc]; simp [byteAt, u32]
  apply BitVec.eq_of_toNat_eq
  have := x.isLt
  simp only [w32At, u32At, u16At, h0, h1, h2, h3, BitVec.toNat_ofNat]
  omega

/-- The parameters of TIME-SET read back in each of its forms (R19, R181). -/
theorem decodeTimeSet_encodeTimeSet {form : TimeSetForm} (h : form.wf = true) :
    decodeTimeSet (encodeTimeSet form) = some form := by
  cases form with
  | instant seconds tick =>
    have hs : w32At (encodeTimeSet (.instant seconds tick)) 1 = seconds := w32At_u32 [0] (u16 tick.toNat) seconds
    have ht : w16At (encodeTimeSet (.instant seconds tick)) 5 = tick := w16At_u16 (0 :: u32 seconds.toNat) [] tick
    exact congrArg some (congrArg₂ TimeSetForm.instant hs ht)
  | calendar y mo d hr mi se tick =>
    have hy : w16At (encodeTimeSet (.calendar y mo d hr mi se tick)) 1 = y :=
      w16At_u16 [1] ([mo, d, hr, mi, se] ++ u16 tick.toNat) y
    have ht : w16At (encodeTimeSet (.calendar y mo d hr mi se tick)) 8 = tick :=
      w16At_u16 ([1] ++ u16 y.toNat ++ [mo, d, hr, mi, se]) [] tick
    exact congrArg some (congrArg₂ (fun y tick => TimeSetForm.calendar y mo d hr mi se tick) hy ht)
  | other form rest =>
    simp only [TimeSetForm.wf, Bool.and_eq_true, bne_iff_ne, ne_eq] at h
    obtain ⟨⟨h0, h1⟩, -⟩ := h
    rw [encodeTimeSet, decodeTimeSet, if_neg h0, if_neg h1]

/-- The parameters of TIME-SET fit a frame. -/
theorem encodeTimeSet_length {form : TimeSetForm} (h : form.wf = true) :
    (encodeTimeSet form).length + 1 ≤ Config.payloadMax := by
  cases form with
  | instant _ _ => exact (by decide : 8 ≤ Config.payloadMax)
  | calendar _ _ _ _ _ _ _ => exact (by decide : 11 ≤ Config.payloadMax)
  | other form rest =>
    simp only [TimeSetForm.wf, Bool.and_eq_true, decide_eq_true_eq] at h
    exact h.2

/-! ### A request served -/

/-- A payload with a known code, allowed for its kind, decodes by its parameters (R170). -/
theorem decodePayload_encodeRequest {r : Request} {k : ReqKind}
    (hcode : requestCodes.contains (BitVec.ofNat 8 (requestCode r) : Byte).toNat = true)
    (hkind : k = .posted → r.isRead = false)
    (hparams : decodeParams (requestCode r) (encodeParams r) = some r) :
    decodePayload k (encodeRequest r) = .ok r := by
  have hn : (BitVec.ofNat 8 (requestCode r) : Byte).toNat = requestCode r := by cases r <;> rfl
  unfold decodePayload encodeRequest
  dsimp only
  have hposted : ¬(k = .posted ∧ readTypeCodes.contains (requestCode r) = true) := fun ⟨hk, hc⟩ =>
    Bool.false_ne_true ((hkind hk).symm.trans hc)
  rw [hcode, hn, hparams, if_neg hposted]
  rfl

/-- The execution of a frame whose payload decodes to a request other than RESTART serves it (R167, R170). -/
theorem executeFrame_of_decoded {h : FrameHead} {r : Request} {after : Nat} {s : State} (hr : r ≠ .restart)
    (hd : decodePayload h.kind (encodeRequest r) = .ok r) :
    executeFrame ⟨h, encodeRequest r⟩ after (renewLease s) = served h r after s := by
  obtain ⟨kind, seq⟩ := h
  have hcode : HostFrame.code ⟨⟨kind, seq⟩, encodeRequest r⟩ = BitVec.ofNat 8 (requestCode r) := rfl
  unfold executeFrame served
  cases kind with
  | request =>
    simp only [runRequest, hd, hcode, begun, ended]
    rw [beq_false_of_ne hr]
  | posted =>
    simp only [runPosted, hd, hr, if_false, begun, ended, settlePosted, hcode]
    rfl

/-- A row that is a request other than RESTART, sent to a quiet link in a payload that decodes, is served (R163 to R170). -/
theorem exec_served {i : Instr} {h : FrameHead} {r : Request} {s : State} (hi : i.asRequest = some (h, r)) (hq : Quiet h s)
    (hr : r ≠ .restart) (hlen : (encodeRequest r).length ≤ Config.payloadMax)
    (hd : decodePayload h.kind (encodeRequest r) = .ok r) : exec i s = .next (served h r i.stateAfter s) := by
  rw [exec_of_asRequest hi, whenPowered, if_pos hq.listening.power, sendRequest_of_quiet hq hlen, executeFrame_of_decoded hr hd]

/-! ### What the owner finds -/

@[simp] theorem begun_tmb (h : FrameHead) (s : State) : (begun h s).tmb = s.tmb := by
  unfold begun holdForReply
  cases h.kind with
  | request => dsimp only; split <;> rfl
  | posted => rfl
@[simp] theorem begun_prs (h : FrameHead) (s : State) : (begun h s).prs = s.prs := by
  unfold begun holdForReply
  cases h.kind with
  | request => dsimp only; split <;> rfl
  | posted => rfl
@[simp] theorem begun_now (h : FrameHead) (s : State) : (begun h s).now = s.now := by simp [State.now]
@[simp] theorem begun_lnk_arate (h : FrameHead) (s : State) : (begun h s).lnk.arate = s.lnk.arate := by
  unfold begun holdForReply
  cases h.kind with
  | request => dsimp only; split <;> rfl
  | posted => rfl
@[simp] theorem begun_lnk_autoload (h : FrameHead) (s : State) : (begun h s).lnk.autoload = s.lnk.autoload := by
  unfold begun holdForReply
  cases h.kind with
  | request => dsimp only; split <;> rfl
  | posted => rfl
@[simp] theorem begun_lnk_startCause (h : FrameHead) (s : State) : (begun h s).lnk.startCause = s.lnk.startCause := by
  unfold begun holdForReply
  cases h.kind with
  | request => dsimp only; split <;> rfl
  | posted => rfl

/-! ### The requests -/

/-- Settles O6: both are reads, served with the values of the state found. -/
theorem timeReadAndIdentReply : Obligations.TimeReadAndIdentReply := by
  intro q s hq
  refine ⟨?_, ?_⟩
  · rw [exec_served (r := .timeRead) rfl hq (by simp) (by decide) (by rfl)]
    simp [served, answer, answerTimeRead, timeReadData, Answer.ok, requestCode, instantBytes]
  · rw [exec_served (r := .ident) rfl hq (by simp) (by decide) (by rfl)]
    simp [served, answer, answerIdent, Answer.ok, requestCode]
    rfl

/-- TIME-SET on a quiet link is served, posted or not (R19, R170). -/
theorem exec_timeSet {h : FrameHead} {form : TimeSetForm} {after : Nat} {s : State} (hq : Quiet h s) (hf : form.wf = true) :
    exec (.timeSet h ⟨form, after⟩) s = .next (served h (.timeSet form) after s) :=
  exec_served rfl hq (by simp) (by simpa [encodeRequest, encodeParams] using encodeTimeSet_length hf)
    (decodePayload_encodeRequest rfl (fun _ => rfl) (congrArg (Option.map Request.timeSet) (decodeTimeSet_encodeTimeSet hf)))

/-- TIME-SET is answered by the instant that its form gives, if it gives one (R19). -/
theorem served_timeSet (h : FrameHead) (form : TimeSetForm) (after : Nat) (s : State) :
    served h (.timeSet form) after s = match readTimeSet form with
      | none => ended h 0x11 .badValue [] (begun h s)
      | some i => ended h 0x11 .ok (u16 (s.tmb.generation + 1).toNat)
          (stepWith i .hostSet (some ⟨.set, .hostSet⟩) after (begun h s)) := by
  unfold served
  simp only [answer, answerTimeSet, requestCode]
  cases readTimeSet form with
  | none => rfl
  | some i => simp [Answer.ok, setTime]

/-- Settles O8: each form gives its instant, or none, and TIME-SET steps to it. -/
theorem timeSetSteps : Obligations.TimeSetSteps := by
  intro h after s hq set
  refine ⟨fun seconds tick => ?_, fun y mo d hr mi se tick => ?_, fun form rest hf => ?_⟩
  · rw [exec_timeSet hq rfl, served_timeSet]
    by_cases hv : seconds.toNat ≤ 3155759999 ∧ tick.toNat ≤ 1023
    · rw [readTimeSet, if_pos hv, if_pos hv]
    · rw [readTimeSet, if_neg hv, if_neg hv]
  · rw [exec_timeSet hq rfl, served_timeSet]
    by_cases hv : civilValid y.toNat mo.toNat d.toNat hr.toNat mi.toNat se.toNat tick.toNat = true
    · rw [readTimeSet, if_pos hv, if_pos hv]
    · rw [readTimeSet, if_neg hv, if_neg hv]
  · rw [exec_timeSet hq hf, served_timeSet]
    rfl

/-- TIME-ADJUST on a quiet link is served, posted or not (R20, R21, R170). -/
theorem exec_timeAdjust {i : Instr} {h : FrameHead} {mode : Byte} {v : W32} {s : State} (hq : Quiet h s)
    (hi : i.asRequest = some (h, .timeAdjust mode v)) (hk : i.stateAfter = 0) :
    exec i s = .next (served h (.timeAdjust mode v) 0 s) := by
  have hp : decodeParams 0x12 (encodeParams (.timeAdjust mode v)) = some (.timeAdjust mode v) := by
    have hv : w32At (encodeParams (.timeAdjust mode v)) 1 = v := w32At_u32 [mode] [] v
    exact congrArg (fun v => some (Request.timeAdjust mode v)) hv
  rw [exec_served hi hq (by simp) (by decide : 6 ≤ Config.payloadMax)
    (decodePayload_encodeRequest rfl (fun _ => rfl) hp), hk]

/-- Settles O12: the checks of each request in their order. -/
theorem timeAdjustsAndClears : Obligations.TimeAdjustsAndClears := by
  intro h v s hq
  refine ⟨?_, ?_, ?_⟩
  · intro target
    rw [exec_timeAdjust (mode := 0) hq rfl rfl, served]
    have hans : answer (.timeAdjust 0 v) 0 (begun h s) = answerAdjustStep v.toInt (begun h s) := rfl
    rw [hans, answerAdjustStep]
    simp only [begun_now, begun_tmb]
    have htarget : (s.now : Int) + v.toInt = target := rfl
    rw [htarget]
    repeat' split
    all_goals rfl
  · rw [exec_timeAdjust (mode := 1) hq rfl rfl, served]
    have hans : answer (.timeAdjust 1 v) 0 (begun h s) = answerAdjustSlew v.toInt (begun h s) := rfl
    rw [hans, answerAdjustSlew]
    simp only [begun_tmb]
    repeat' split
    all_goals rfl
  · rw [exec_served (r := .timeClear) rfl hq (by simp) (by decide) (by cases h.kind <;> rfl), served]
    have hans : answer .timeClear 0 (begun h s) = answerTimeClear (begun h s) := rfl
    have hk : Instr.stateAfter (.timeClear h) = 0 := rfl
    rw [hk, hans, answerTimeClear]
    simp only [begun_tmb]
    rfl

/-- Settles O13: the check of the range, and what TRIM-SET installs. -/
theorem trimSets : Obligations.TrimSets := by
  intro h v s hq
  have hp : decodeParams 0x14 (encodeParams (.trimSet v)) = some (.trimSet v) :=
    congrArg (fun v => some (Request.trimSet v)) (w16At_u16 [] [] v)
  rw [exec_served (r := .trimSet v) rfl hq (by simp) (by decide : 3 ≤ Config.payloadMax)
    (decodePayload_encodeRequest rfl (fun _ => rfl) hp), served]
  have hk : Instr.stateAfter (.trimSet h v) = 0 := rfl
  have hans : answer (.trimSet v) 0 (begun h s) = answerTrimSet v (begun h s) := rfl
  rw [hk, hans, answerTrimSet]
  simp only [begun_tmb]
  by_cases hv : -2048 ≤ v.toInt ∧ v.toInt ≤ 2047
  · rw [if_neg (by omega), if_pos hv]; rfl
  · rw [if_pos (by omega), if_neg hv]; rfl

end Sys2Proof.Machine

/-! ## The reset state -/

namespace Sys2Proof.Machine

/-- Every line of the reset state is as a main reset leaves it, undriven. -/
theorem State.reset_line (n : LineNo) : State.reset.lin[n] = Line.fresh none := by simp [State.reset]

/-- No entry and no trigger of the reset state names a line. -/
theorem State.reset_names (n : LineNo) : State.reset.namedOutput n = false ∧ State.reset.namedInput n = false := by
  simp [State.namedOutput, State.namedInput, State.reset, Sch.fresh]

/-- The reset state without supply and with its backup domain lost (R7). -/
def State.resetLost : State :=
  { State.reset with power := false, tmb := { State.reset.tmb with marker := false } }

/-- POWER_UP makes the reset state of a part whose backup domain was lost (R7). -/
theorem gainPower_resetLost : gainPower false ⟨false, false, 0xEF⟩ State.resetLost = State.reset := by decide +kernel

/-- Settles O53: every block of the reset state is at plain values, and POWER_UP computes it. -/
theorem resetMeetsTheInvariants : Obligations.ResetMeetsTheInvariants := by
  refine ⟨⟨?_, ?_⟩, ?_, ?_, ⟨List.Pairwise.nil, List.nodup_nil, fun e he => absurd he List.not_mem_nil,
      ⟨fun e he => absurd he List.not_mem_nil, fun su slot gen fb st i d h => PrsJob.noConfusion h⟩,
      fun _ _ e he => absurd he List.not_mem_nil⟩,
    fun _ => by decide, ⟨rfl, rfl⟩, ?_, ⟨fun n h => ?_, fun n h => ?_⟩, fun n => ?_,
    fun su slot gen fb st i d h => PrsJob.noConfusion h, fun n => ?_, by decide, ?_⟩
  · exact ⟨by decide, by decide, by decide, by decide, by decide, by decide, by decide, fun _ => rfl⟩
  · intro n f r hf
    rw [State.reset_line] at hf; cases hf
  · exact ⟨by decide, by decide, by decide, by decide, by decide, by unfold Counters.inRange; decide, by decide,
      nofun, trivial, nofun, rfl⟩
  · exact ⟨by decide, by decide, fun _ => rfl, by decide, fun _ => .inr rfl⟩
  · exact ⟨by decide, fun _ => rfl, by decide, by decide⟩
  · rw [(State.reset_names n).1] at h; cases h
  · rw [(State.reset_names n).2] at h; cases h
  · rw [State.reset_line]; exact ⟨nofun, nofun⟩
  · rw [State.reset_line]; exact ⟨rfl, rfl, nofun, nofun, by decide⟩
  · exact congrArg Host.Outcome.next gainPower_resetLost

end Sys2Proof.Machine

/-! ## Without supply -/

namespace Sys2Proof.Machine

/-- What an erase leaves: the slot erased, and every other byte as it was (R129). -/
theorem Memory.read_erase (slot : Slot) {m : List Host.Cell} (h : Memory.wf m = true) (x : Nat) :
    Memory.read (Memory.erase m slot) x = if slot.holds x then erased else Memory.read m x := by
  have hr := Memory.read_filter (fun a => !slot.holds a) h x
  unfold Memory.erase Memory.eraseSector
  refine hr.trans ?_
  cases slot.holds x <;> simp

/-- What a program leaves: a byte of its reach programmed, and every other byte as it was (R129). -/
theorem Memory.read_writeAll (bs : List Byte) {m : List Host.Cell} (a : Nat) (h : Memory.wf m = true) (x : Nat) :
    Memory.read (Memory.writeAll m a bs) x = if a ≤ x then bs.getD (x - a) (Memory.read m x) else Memory.read m x := by
  induction bs generalizing m a with
  | nil => simp [Memory.writeAll]
  | cons b bs ih =>
    rw [Memory.writeAll, ih (a + 1) (Memory.write_wf a b h), Memory.read_write _ _ _ h]
    obtain hlt | rfl | hgt := Nat.lt_trichotomy x a
    · rw [if_neg (by omega), if_neg (by omega), if_neg (by omega)]
    · simp
    · obtain ⟨k, rfl⟩ : ∃ k, x = a + 1 + k := ⟨x - (a + 1), by omega⟩
      rw [if_pos (by omega), if_neg (by omega), if_pos (by omega), show a + 1 + k - a = k + 1 by omega]
      simp

/-- What a loss of supply in the midst of an erase leaves of a byte: as it was, or erased within the slot (R149). -/
theorem Prs.read_lossCells_erase (p : Prs) (draw : Nat) (slot : Slot) {m : List Host.Cell} (h : Memory.wf m = true) (x : Nat) :
    Memory.read (p.lossCells draw m (.erase slot)) x = Memory.read m x ∨
      (slot.holds x = true ∧ Memory.read (p.lossCells draw m (.erase slot)) x = 0xFF) := by
  obtain ⟨-, e⟩ | e := p.lossCells_cases draw m (.erase slot) <;> rw [e]
  · exact Memory.read_eraseCut draw slot h x
  · rw [FlashCommand.run_erase, Memory.read_erase slot h]
    by_cases hx : slot.holds x = true
    · exact .inr ⟨hx, if_pos hx⟩
    · exact .inl (if_neg hx)

/-- What a loss of supply in the midst of a program leaves of a byte: as it was, or programmed (R149). -/
theorem Prs.read_lossCells_program (p : Prs) (draw : Nat) (a : Nat) (bs : List Byte) {m : List Host.Cell}
    (h : Memory.wf m = true) (x : Nat) :
    Memory.read (p.lossCells draw m (.program a bs)) x = Memory.read m x ∨
      (a ≤ x ∧ ∃ b, bs[x - a]? = some b ∧ Memory.read (p.lossCells draw m (.program a bs)) x = b) := by
  obtain ⟨-, e⟩ | e := p.lossCells_cases draw m (.program a bs) <;> rw [e]
  · exact Memory.read_writeCut draw bs a h x
  · rw [FlashCommand.run_program, Memory.read_writeAll bs a h]
    by_cases hx : a ≤ x
    · cases hb : bs[x - a]? with
      | none => left; simp [hx, hb]
      | some b => exact .inr ⟨hx, b, rfl, by simp [hx, hb]⟩
    · exact .inl (if_neg hx)

/-! ### The loss of supply, block by block -/

@[simp] theorem lossCommand_tmb (s : State) : (lossCommand s).tmb = s.tmb := by unfold lossCommand; split <;> rfl
@[simp] theorem lossCommand_owed (s : State) : (lossCommand s).owed = s.owed := by unfold lossCommand; split <;> rfl
@[simp] theorem lossCommand_straps (s : State) : (lossCommand s).straps = s.straps := by unfold lossCommand; split <;> rfl
@[simp] theorem lossCommand_lin (s : State) : (lossCommand s).lin = s.lin := by unfold lossCommand; split <;> rfl
@[simp] theorem lossCommand_pending (s : State) : (lossCommand s).pending = s.pending := by
  unfold lossCommand; split <;> rfl
@[simp] theorem lossCommand_maker (s : State) : (lossCommand s).flash.maker = s.flash.maker := by
  unfold lossCommand; split <;> rfl
/-- With no flash command in hand the loss of supply leaves the flash. -/
theorem lossCommand_of_none {s : State} (h : s.prs.command = none) : lossCommand s = s := by simp [lossCommand, h]
/-- A flash command in hand is cut short (R149). -/
theorem lossCommand_cells {c : FlashCommand} {s : State} (h : s.prs.command = some c) :
    (lossCommand s).flash.cells = s.prs.lossCells s.draws s.flash.cells c := by simp [lossCommand, h]

@[simp] theorem losePower_power (s : State) : (losePower s).power = false := rfl
@[simp] theorem losePower_owed (s : State) : (losePower s).owed = [] := rfl
@[simp] theorem losePower_straps (s : State) : (losePower s).straps = s.straps := by
  unfold losePower; dsimp only; split <;> simp [advanceBackup]
@[simp] theorem losePower_lin (s : State) : (losePower s).lin = s.lin := by
  unfold losePower; dsimp only; split <;> simp [advanceBackup]
@[simp] theorem losePower_pending (s : State) : (losePower s).pending = s.pending := by
  unfold losePower; dsimp only; split <;> simp [advanceBackup]
@[simp] theorem losePower_flash (s : State) : (losePower s).flash = (lossCommand s).flash := by
  unfold losePower; dsimp only; split <;> simp [advanceBackup]
/-- The loss of supply makes the advance still owed, and no other (R6). -/
theorem losePower_tmb (s : State) :
    (losePower s).tmb = if TickUnit.advance ∈ s.owed then s.tmb.advance.settled else s.tmb := by
  unfold losePower
  simp only [lossCommand_owed, List.contains_iff_mem]
  split <;> simp [advanceBackup]

/-- What the loss of supply leaves of the slot that an erase was working on (R149). -/
theorem losePower_erase {s : State} {slot : Slot}
    (hj : s.prs.job = .saveErase ∧ s.prs.target = some slot ∨ (∃ d, s.prs.job = .eraseA d) ∧ slot = .a ∨
      s.prs.job = .eraseB ∧ slot = .b) :
    validateSlot (losePower s).flash.cells slot = none ∨
      validateSlot (losePower s).flash.cells slot = validateSlot s.flash.cells slot := by
  have hc : s.prs.command = some (.erase slot) := by
    obtain ⟨hj, ht⟩ | ⟨⟨d, hj⟩, rfl⟩ | ⟨hj, rfl⟩ := hj <;> simp [Prs.command, *]
  rw [losePower_flash, lossCommand_cells hc]
  exact s.prs.lossCells_erase _ _ slot hj

/-- What the loss of supply leaves of a save target from the programs on: invalid, the full image, or the command in hand carried
out (R149). -/
theorem losePower_save {s : State} {slot : Slot} {img : SlotImage} {c : FlashCommand}
    (hj : (∃ page rest, s.prs.job = .saveProgram page rest) ∨ ∃ cause, s.prs.job = .saveRecover cause)
    (ht : s.prs.target = some slot) (hi : s.prs.image = some img) (hc : s.prs.command = some c) :
    validateSlot (losePower s).flash.cells slot = none ∨
      Memory.readAll (losePower s).flash.cells slot.base img.bytes.length = img.bytes ∨
      (losePower s).flash.cells = c.run s.flash.cells := by
  rw [losePower_flash, lossCommand_cells hc]
  have hv : ∀ m, s.prs.verified m = true ↔ Memory.readAll m slot.base img.bytes.length = img.bytes := fun m => by
    simp [Prs.verified, Prs.targetBase, Prs.imageBytes, ht, hi, SpiCommand.cells]
  rw [← hv]
  exact s.prs.lossCells_save _ _ slot c hj ht

/-- The pins of a part without supply: the part neither drives nor pulls, and the outside's level shows (R69). -/
theorem raw_of_unpowered {s : State} (hp : s.power = false) (n : LineNo) :
    s.driven n = none ∧ s.pulled n = none ∧ ∀ l, (s.lin[n]).ext = some l → s.raw n = l := by
  have hd : s.driven n = none := by simp [State.driven, hp]
  refine ⟨hd, by simp [State.pulled, hp], fun l hl => ?_⟩
  rw [State.raw, hd, hl]; rfl

/-- What the outside does to a pin reaches a level from outside, a strap, or the flash's answer, and nothing else (R69, R130, R161). -/
theorem changePin_frame (pin : Pin) (drive : PinDrive) (s : State) :
    let t := changePin pin drive s
    t.power = s.power ∧ t.sch = s.sch ∧ t.cap = s.cap ∧ t.trg = s.trg ∧ t.rds = s.rds ∧ t.prs = s.prs ∧ t.lsm = s.lsm ∧
    t.lnk = s.lnk ∧ t.flash.cells = s.flash.cells ∧
    ∀ n : LineNo, (t.lin[n]).config = (s.lin[n]).config ∧ (t.lin[n]).output = (s.lin[n]).output ∧
      (t.lin[n]).input = (s.lin[n]).input := by
  have hline : ∀ (m : LineNo) x (n : LineNo), let u := s.setLine m { s.lin[m] with ext := x }
      (u.lin[n]).config = (s.lin[n]).config ∧ (u.lin[n]).output = (s.lin[n]).output ∧
      (u.lin[n]).input = (s.lin[n]).input := by
    intro m x n
    by_cases e : m = n
    · subst e; simp
    · have : (m : Nat) ≠ n := fun h => e (Fin.ext h)
      simp [this]
  unfold changePin
  dsimp only
  split
  · exact ⟨rfl, rfl, rfl, rfl, rfl, rfl, rfl, rfl, rfl, hline _ _⟩
  · exact ⟨rfl, rfl, rfl, rfl, rfl, rfl, rfl, rfl, rfl, hline _ _⟩
  all_goals exact ⟨rfl, rfl, rfl, rfl, rfl, rfl, rfl, rfl, rfl, fun _ => ⟨rfl, rfl, rfl⟩⟩

/-- Without supply a command other than POWER_UP reaches the Time Base alone, or is a pin that the outside drives (R6, R69). -/
theorem exec_unpowered_tmb {c : Instr} {s t : State} (hp : s.power = false) (hc : ∀ b p, c ≠ .powerUp b p)
    (h : exec c s = .next t) :
    (∃ b, t = s.setTmb b) ∨ ∃ pin drive, c = .rawLevelChange pin drive ∧ t = changePin pin drive s := by
  have hb : ∃ b, backupAdvance s = s.setTmb b := by
    unfold backupAdvance
    split
    · exact ⟨_, rfl⟩
    · exact ⟨s.tmb, rfl⟩
  obtain e | e | e | ⟨pin, drive, hi, e⟩ | ⟨held, pins, hi, -⟩ := exec_unpowered c hp
  · rw [e] at h; cases h; exact .inl ⟨s.tmb, rfl⟩
  · rw [e] at h; cases h; exact .inl hb
  · rw [e] at h; cases h; exact .inl ⟨_, rfl⟩
  · rw [e] at h; cases h; exact .inr ⟨pin, drive, hi, rfl⟩
  · exact absurd hi (hc held pins)

/-- Settles O37: the commands of a part without supply by `exec_unpowered`, the loss of supply field by field. -/
theorem backupDomainGoesOn : Obligations.BackupDomainGoesOn := by
  intro s
  refine ⟨fun hp hm => ?_, fun hp => ?_, fun hp => ?_, fun hp => ?_, fun n => ⟨rfl, fun l => rfl⟩, fun l => ?_,
    fun b => rfl, fun hp n => raw_of_unpowered hp n, fun c t hp hc h => ?_⟩
  · have hb : backupAdvance s = s.setTmb s.tmb.advance.settled := by simp [backupAdvance, hm, advanceBackup]
    exact ⟨by simp [exec, execBackupTick, hp, hb, Advance.settled],
      fun now => by simp [exec, execNominalTick, hp, hb, Advance.settled]⟩
  · simp [exec, execBackupDomainLoss, hp, loseBackup]
  · simp [exec, execBackupTick, execBackupDomainLoss, hp]
  · refine ⟨losePower s, by simp [exec, execPowerLoss, whenPowered, hp], rfl, rfl, losePower_tmb s, by simp, by simp, by simp,
      by simp, fun hc => by rw [losePower_flash, lossCommand_of_none hc], fun slot hj => losePower_erase hj,
      fun slot img ht hi => ⟨fun cause hj => ?_, fun page rest hj => ?_⟩, fun hwf x => ⟨fun slot hc => ?_, fun a bs hc => ?_⟩⟩
    · have hc : s.prs.command = some (.erase slot) := by simp [Prs.command, hj, ht]
      obtain h | h | h := losePower_save (.inr ⟨cause, hj⟩) ht hi hc
      · exact .inl h
      · exact .inr h
      · exact .inl (by rw [h, FlashCommand.run_erase, validateSlot_erase])
    · have hc : s.prs.command = some (.program (slot.base + 256 * page) ((img.bytes.drop (256 * page)).take 256)) := by
        simp [Prs.command, hj, ht, hi, Prs.targetBase, Prs.imageBytes, imagePage]
      exact losePower_save (.inl ⟨page, rest, hj⟩) ht hi hc
    · rw [losePower_flash, lossCommand_cells hc]
      exact s.prs.read_lossCells_erase _ slot hwf x
    · rw [losePower_flash, lossCommand_cells hc]
      exact s.prs.read_lossCells_program _ a bs hwf x
  · cases l <;> exact ⟨rfl, rfl⟩
  · obtain ⟨b, rfl⟩ | ⟨pin, drive, rfl, rfl⟩ := exec_unpowered_tmb hp hc h
    · exact ⟨hp, fun _ => ⟨rfl, rfl⟩, rfl, rfl, rfl, rfl, rfl, rfl, rfl, rfl, fun _ => ⟨rfl, rfl, rfl⟩⟩
    · obtain ⟨hpow, hrest⟩ := changePin_frame pin drive s
      exact ⟨hpow.trans hp, fun hne => absurd rfl (hne pin drive), hrest⟩

end Sys2Proof.Machine

/-! ## The Time Base's part of a tick -/

namespace Sys2Proof.Machine

/-- Beside a pass of a HELD scheduler stands the notice alone (R40). -/
theorem passAround_of_held {k : Nat} {n : Option Notice} {s : State} (h : s.sch.hold.isEmpty = false) :
    passAround k n s = postOwn n s := by
  have hs : passSome k s = s := by simp [passSome, h]
  rw [passAround, hs, pass_of_held (by simpa using h)]

/-- The part before the NOTIME of a range end: the Time Base, its report to the Scheduler, and its own notice (R8 to R12). -/
def reportAdvance (k : Nat) (s : State) : State :=
  if s.tmb.advance.moved then passAround k s.tmb.advance.own (s.setTmb s.tmb.advance.settled)
  else postOwn s.tmb.advance.own (s.setTmb s.tmb.advance.settled)

/-- The Time Base's part of a tick: the report, and NOTIME at a range end from another validity than UNSET (R12, R14). -/
theorem advanceInstant_eq (k : Nat) (s : State) :
    advanceInstant k s = if s.tmb.advance.rangeEnd && decide (s.tmb.validity ≠ .unset) then addReason .notime (reportAdvance k s)
      else reportAdvance k s := rfl

/-- What the Time Base's part of a tick leaves as it was. -/
theorem advanceInstant_frame (k : Nat) (s : State) :
    let t := advanceInstant k s
    t.tmb = s.tmb.advance.settled ∧ t.owed = s.owed ∧ t.cap = s.cap ∧ t.trg = s.trg ∧ t.rds = s.rds ∧ t.prs = s.prs ∧
      t.lsm = s.lsm ∧ t.flash = s.flash := by
  dsimp only
  rw [advanceInstant_eq]
  unfold addReason reportAdvance
  split <;> split <;> simp

/-- The same in a HELD scheduler: no entry is taken, and the Time Base's own notice is the only one (R40). -/
theorem reportAdvance_of_held {k : Nat} {s : State} (h : s.sch.hold.isEmpty = false) :
    reportAdvance k s = postOwn s.tmb.advance.own (s.setTmb s.tmb.advance.settled) := by
  unfold reportAdvance
  split
  · exact passAround_of_held h
  · rfl

/-- An advance within the range, in a HELD scheduler (R9). -/
theorem advanceInstant_of_held {k : Nat} {s : State} (he : s.tmb.advance.rangeEnd = false) (h : s.sch.hold.isEmpty = false) :
    let t := advanceInstant k s
    t.sch = s.sch ∧ t.lin = s.lin ∧ t.lnk = if s.tmb.advance.slewDone then
      (s.lnk.enqueue (.slewDone s.tmb.advance.tmb.instant s.tmb.advance.tmb.generation)).choose else s.lnk := by
  dsimp only
  rw [advanceInstant_eq, he, Bool.false_and, if_neg (by simp), reportAdvance_of_held h]
  refine ⟨by simp, by simp, ?_⟩
  unfold Advance.own
  rw [he]
  split <;> simp [postOwn]

/-- A range end: UNSET, with NOTIME in the set where the validity was another; in a HELD scheduler its TIME-STATE is the only
notice (R12, R14). -/
theorem advanceInstant_of_rangeEnd {k : Nat} {s : State} (he : s.tmb.advance.rangeEnd = true) :
    let t := advanceInstant k s
    t.tmb = { s.tmb.advance.tmb with validity := .unset } ∧ (s.tmb.validity ≠ .unset → t.sch.hold.notime = true) ∧
    (s.sch.hold.isEmpty = false → t.lin = s.lin ∧ t.lnk = if s.tmb.validity = .unset then s.lnk else
      (s.lnk.enqueue (.timeState s.tmb.validity .unset .rangeEnd Instant.top s.tmb.generation)).choose) := by
  have hpast : (Instant.top.ticks : Int) < s.tmb.target := by
    obtain h | h := s.tmb.advance_cases
    · rw [Tmb.advance_within h] at he; cases he
    · exact h
  have hadv := Tmb.advance_past hpast
  have hown : s.tmb.advance.own = stateNotice s.tmb.validity .unset .rangeEnd s.tmb.advance.tmb := by
    simp [Advance.own, hadv]
  have htmb : (advanceInstant k s).tmb = s.tmb.advance.settled := (advanceInstant_frame k s).1
  refine ⟨?_, fun hv => ?_, fun hheld => ?_⟩
  · rw [htmb, Advance.settled, he, if_pos rfl]
  · rw [advanceInstant_eq, he]
    simp [hv, addReason]
  · rw [advanceInstant_eq, reportAdvance_of_held hheld, hown]
    by_cases hv : s.tmb.validity = .unset
    · simp [stateNotice, hv, postOwn]
    · have hv' : ¬Validity.unset = s.tmb.validity := fun h => hv h.symm
      simp [stateNotice, hv, hv', postOwn, addReason, hadv]

/-! ### The rows -/

/-- The event of TRIM_CARRY (R8). -/
theorem Tmb.carrying_iff (t : Tmb) :
    t.carrying = true ↔ t.acc + t.trim ≥ 1048576 ∨ t.acc + t.trim ≤ -1048576 := by
  have h : t.carrying = (t.carry != 0) := rfl
  rw [h, t.carry_eq, bne_iff_ne]
  split_ifs <;> omega

/-- The event of SLEW_CORRECTION (R9). -/
theorem Tmb.correcting_iff (t : Tmb) : t.correcting = true ↔ t.phase = 63 ∧ t.slew ≠ 0 := by
  simp [Tmb.correcting]

/-- A row of a tick's part whose event is due deals the owed part; one whose event is not due does nothing (log entry 6). -/
theorem dealIf_eq {due : Bool} {p : TickPart} {s : State} (h : p.unit ∈ s.owed) :
    dealIf due p s = if due then doPart p (s.setOwed (s.owed.erase p.unit)) else s := by
  rw [dealIf, deal_of_owed h]

/-- A range end that is due and owed is dealt with (R12). -/
theorem dealRangeEnd_of_ending {s : State} (he : s.tmb.advance.rangeEnd = true) (h : TickUnit.advance ∈ s.owed) :
    dealRangeEnd s =
      (advanceInstant (Config.rangeEndAfter s.draws) (s.setOwed (s.owed.erase .advance))).drawn := by
  have hc : (s.tmb.ending && s.owed.contains .advance) = true := by simp [Tmb.ending, he, h]
  rw [dealRangeEnd, if_pos hc, deal_of_owed h]
  rfl

/-- Settles O40: each row deals the owed advance, whose effects are those of `advanceInstant`. -/
theorem advanceRowsDealTheAdvance : Obligations.AdvanceRowsDealTheAdvance := by
  intro k s hp ho u a
  have hpow : ∀ x : State, (.next (if s.power then x else s) : Outcome) = .next x := fun x => by rw [if_pos hp]
  have htrim : exec (.trimCarry k) s = .next (if s.tmb.carrying then advanceInstant k u else s) := by
    rw [← hpow]; exact congrArg (fun x => Host.Outcome.next (if s.power then x else s)) (dealIf_eq ho)
  have hslew : exec (.slewCorrection k) s = .next (if s.tmb.correcting then advanceInstant k u else s) := by
    rw [← hpow]; exact congrArg (fun x => Host.Outcome.next (if s.power then x else s)) (dealIf_eq ho)
  have hend : a.rangeEnd = true → exec .rangeEnd s = .next (advanceInstant (Config.rangeEndAfter s.draws) u).drawn := fun he => by
    rw [← dealRangeEnd_of_ending he ho, ← hpow]; rfl
  have hgen : a.tmb.generation = s.tmb.generation := by
    obtain h | h := s.tmb.advance_cases
    · rw [show a = _ from Tmb.advance_within h]
    · rw [show a = _ from Tmb.advance_past h]
  have hsettled : a.rangeEnd = false → a.settled = a.tmb := fun he => by simp [Advance.settled, he]
  refine ⟨fun he hc => ?_, fun he hph hsl => ?_, fun he c hc => ?_, fun he => ?_, fun h1 h2 => ?_, fun h => ?_⟩
  · obtain ⟨ft, fo, fc, fg, fr, fp, fl, ff⟩ := advanceInstant_frame k u
    rw [htrim, if_pos (s.tmb.carrying_iff.2 hc)]
    refine ⟨_, rfl, ft.trans (hsettled he), fo, fc, fg, fr, fp, fl, ff, fun hh => ?_⟩
    obtain ⟨hsch, hlin, -⟩ := advanceInstant_of_held (k := k) (s := u) he hh
    exact ⟨hsch, hlin⟩
  · obtain ⟨ft, fo, fc, fg, fr, fp, fl, ff⟩ := advanceInstant_frame k u
    rw [hslew, if_pos (s.tmb.correcting_iff.2 ⟨hph, hsl⟩)]
    refine ⟨_, rfl, ft.trans (hsettled he), fo, fc, fg, fr, fp, fl, ff, fun hh => ?_⟩
    have h := advanceInstant_of_held (k := k) (s := u) he hh
    rwa [show u.tmb.advance.tmb.generation = s.tmb.generation from hgen] at h
  · have hrow : ∃ k' x, exec c s = .next x ∧ (x = advanceInstant k' u ∨ x = (advanceInstant k' u).drawn) := by
      obtain rfl | ⟨rfl, hc⟩ | ⟨rfl, hc⟩ := hc
      · exact ⟨_, _, hend he, .inr rfl⟩
      · exact ⟨_, _, htrim.trans (by rw [if_pos (s.tmb.carrying_iff.2 hc)]), .inl rfl⟩
      · exact ⟨_, _, hslew.trans (by rw [if_pos (s.tmb.correcting_iff.2 hc)]), .inl rfl⟩
    obtain ⟨k', x, hx, hform⟩ := hrow
    obtain ⟨ft, fo, fc, fg, fr, fp, fl, ff⟩ := advanceInstant_frame k' u
    obtain ⟨ht, hn, hh⟩ := advanceInstant_of_rangeEnd (k := k') (s := u) he
    refine ⟨x, hx, ?_⟩
    obtain rfl | rfl := hform <;> exact ⟨ht, fo, fc, fg, fr, fp, fl, ff, hn, hh⟩
  · have : dealRangeEnd s = s := by
      have : s.tmb.ending = false := he
      simp [dealRangeEnd, this]
    exact (congrArg (fun x => (.next (if s.power then x else s) : Outcome)) this).trans (hpow s)
  · rw [htrim, if_neg]
    rw [s.tmb.carrying_iff]; omega
  · rw [hslew, if_neg]
    rw [s.tmb.correcting_iff]; tauto

end Sys2Proof.Machine

/-! ## Passes: what a taking leaves in the schedule, and when a pass is over -/

namespace Sys2Proof.Machine

/-! ### One taking -/

/-- The Scheduler once the head entry is out of the schedule. -/
def Sch.popped (c : Sch) : Sch := { c with entries := c.entries.tail }

/-- The entry that a taking `late` ticks after the due puts back (R55 to R57). -/
def Entry.requeued (e : Entry) (late : Nat) (out : TakeOutcome) (due : Nat) : Entry :=
  { e with due := Instant.ofTicks due, remaining := (e.consume late).remaining,
           suppressed := if out = .suppressed then min Config.countMax (e.suppressed + 1) else e.suppressed }

/-- The Scheduler after a taking: the head is out, or back at its next due (R55 to R57). -/
theorem takeEntry_sch (e : Entry) (s : State) :
    ∃ out, (takeEntry e s).sch = match (e.consume (s.now - e.due.ticks)).nextDue with
      | none => s.sch.popped
      | some due => s.sch.popped.enter (e.requeued (s.now - e.due.ticks) out due) := by
  refine ⟨occurrenceOutcome (s.now - e.due.ticks) s.sch.tolerance e.late (guardHolds s e.guard), ?_⟩
  have hclaim : (if (occurrenceOutcome (s.now - e.due.ticks) s.sch.tolerance e.late (guardHolds s e.guard)).runs
      then sendClaim e s else s).sch = s.sch := by split <;> simp
  unfold takeEntry
  dsimp only
  cases (e.consume (s.now - e.due.ticks)).nextDue <;> split <;>
    simp only [post_sch, State.setSch_sch, hclaim] <;> rfl

/-- The next due of an entry with a period above 0 lies after the instant (R57). -/
theorem nextDue_later {e : Entry} {now due : Nat} (hp : ∀ r, e.rep = some r → 0 < r.period)
    (hd : (e.consume (now - e.due.ticks)).nextDue = some due) : now < due := by
  cases hr : e.rep with
  | none => simp [Entry.consume, hr] at hd
  | some r =>
    have := consume_nextDue_later hr (hp r hr) hd
    omega

/-- Renumbering changes stamps alone (R28). -/
theorem mem_restamp {k : Nat} {es : List Entry} {x : Entry} (h : x ∈ restamp k es) :
    ∃ y ∈ es, x = { y with stamp := x.stamp } := by
  induction es generalizing k with
  | nil => simp [restamp] at h
  | cons e es ih =>
    obtain rfl | h := List.mem_cons.1 h
    · exact ⟨e, by simp, rfl⟩
    · obtain ⟨y, hy, hx⟩ := ih h
      exact ⟨y, by simp [hy], hx⟩

/-- Renumbering keeps every entry but for its stamp (R28). -/
theorem restamp_mem {k : Nat} {es : List Entry} {y : Entry} (h : y ∈ es) : ∃ q, { y with stamp := q } ∈ restamp k es := by
  induction es generalizing k with
  | nil => cases h
  | cons e es ih =>
    obtain rfl | h := List.mem_cons.1 h
    · exact ⟨k, by simp [restamp]⟩
    · obtain ⟨q, hq⟩ := ih h (k := k + 1)
      exact ⟨q, by simp [restamp, hq]⟩

/-- The entries that are ready for a new stamp: the same but for their stamps (R28). -/
theorem Sch.readyStamp_entries (c : Sch) : c.readyStamp.entries = c.entries ∨ c.readyStamp.entries = restamp 1 c.entries := by
  unfold Sch.readyStamp
  split
  · exact .inr rfl
  · exact .inl rfl

/-- Their dues are the same in the same order. -/
theorem Sch.readyStamp_dues (c : Sch) : c.readyStamp.entries.map (·.due) = c.entries.map (·.due) := by
  obtain h | h := c.readyStamp_entries <;> rw [h]
  exact restamp_dues 1 c.entries

theorem Sch.enter_entries (c : Sch) (e : Entry) :
    (c.enter e).entries = placeEntry { e with stamp := c.readyStamp.stamps + 1 } c.readyStamp.entries := rfl

/-- An entry put in its place stands with the others, whose stamps may have changed (R28, R30). -/
theorem Sch.mem_enter {c : Sch} {e x : Entry} (h : x ∈ (c.enter e).entries) :
    x = { e with stamp := x.stamp } ∨ ∃ y ∈ c.entries, x = { y with stamp := x.stamp } := by
  rw [Sch.enter_entries, mem_placeEntry] at h
  obtain rfl | h := h
  · exact .inl rfl
  · obtain hr | hr := c.readyStamp_entries
    · exact .inr ⟨x, hr ▸ h, rfl⟩
    · exact .inr (mem_restamp (hr ▸ h))

theorem Sch.enter_mem {c : Sch} (e : Entry) {y : Entry} (h : y ∈ c.entries) :
    ∃ q, { y with stamp := q } ∈ (c.enter e).entries := by
  simp only [Sch.enter_entries, mem_placeEntry]
  obtain hr | hr := c.readyStamp_entries
  · exact ⟨y.stamp, .inr (hr ▸ h)⟩
  · obtain ⟨q, hq⟩ := restamp_mem (k := 1) h
    exact ⟨q, .inr (hr ▸ hq)⟩

/-- What a taking leaves of the schedule: the entries behind the head, but for their stamps, and the head at a later due or not at
all (R55 to R57). -/
theorem takeEntry_mem {e x : Entry} {rest : List Entry} {s : State} (hs : s.sch.entries = e :: rest)
    (hp : ∀ r, e.rep = some r → 0 < r.period) (hx : x ∈ (takeEntry e s).sch.entries) :
    (∃ y ∈ rest, x = { y with stamp := x.stamp }) ∨ (s.now < x.due.ticks ∧ x.rep = e.rep) := by
  have hpop : s.sch.popped.entries = rest := by simp [Sch.popped, hs]
  obtain ⟨out, hsch⟩ := takeEntry_sch e s
  rw [hsch] at hx
  cases hd : (e.consume (s.now - e.due.ticks)).nextDue with
  | none =>
    rw [hd] at hx
    exact .inl ⟨x, hpop ▸ hx, rfl⟩
  | some due =>
    rw [hd] at hx
    obtain h | ⟨y, hy, hxy⟩ := Sch.mem_enter hx
    · refine .inr ?_
      rw [h]
      exact ⟨by simpa [Entry.requeued] using nextDue_later hp hd, rfl⟩
    · exact .inl ⟨y, hpop ▸ hy, hxy⟩

/-- A taking keeps the entries behind the head, but for their stamps. -/
theorem takeEntry_keeps {e y : Entry} {rest : List Entry} {s : State} (hs : s.sch.entries = e :: rest) (hy : y ∈ rest) :
    ∃ q, { y with stamp := q } ∈ (takeEntry e s).sch.entries := by
  have hpop : s.sch.popped.entries = rest := by simp [Sch.popped, hs]
  obtain ⟨out, hsch⟩ := takeEntry_sch e s
  rw [hsch]
  cases (e.consume (s.now - e.due.ticks)).nextDue with
  | none => exact ⟨y.stamp, hpop.symm ▸ hy⟩
  | some due => exact Sch.enter_mem _ (hpop.symm ▸ hy)

/-! ### The entries that are due -/

/-- Every repeat of the schedule has a period above 0 (R25). -/
def State.periodsPositive (s : State) : Prop := ∀ e ∈ s.sch.entries, ∀ r, e.rep = some r → 0 < r.period

/-- How many entries are due. -/
def State.dueCount (s : State) : Nat := (s.sch.entries.map (·.due)).countP fun d => decide (d.ticks ≤ s.now)

theorem State.dueCount_le (s : State) : s.dueCount ≤ s.sch.entries.length := by
  unfold State.dueCount
  refine List.countP_le_length.trans ?_
  simp

@[simp] theorem takeEntry_now (e : Entry) (s : State) : (takeEntry e s).now = s.now := by simp [State.now]
@[simp] theorem passLoop_now (k : Nat) (s : State) : (passLoop k s).now = s.now := by simp [State.now]

theorem takeEntry_periods {e : Entry} {rest : List Entry} {s : State} (hs : s.sch.entries = e :: rest)
    (hp : s.periodsPositive) : (takeEntry e s).periodsPositive := by
  intro x hx r hr
  obtain ⟨y, hy, hxy⟩ | ⟨-, hxe⟩ := takeEntry_mem hs (hp e (by simp [hs])) hx
  · exact hp y (by simp [hs, hy]) r (by rw [hxy] at hr; exact hr)
  · exact hp e (by simp [hs]) r (hxe ▸ hr)

/-- A place in the schedule is a place among the dues. -/
theorem placeEntry_dues_perm (e : Entry) (es : List Entry) :
    ((placeEntry e es).map (·.due)).Perm (e.due :: es.map (·.due)) := by
  obtain ⟨b, a, h1, h2, -, -⟩ := placeEntry_split e es
  rw [h2, h1]
  simp

/-- A taking makes one entry fewer due (R57). -/
theorem takeEntry_dueCount {e : Entry} {rest : List Entry} {s : State} (hs : s.sch.entries = e :: rest)
    (hd : e.due.ticks ≤ s.now) (hp : ∀ r, e.rep = some r → 0 < r.period) :
    (takeEntry e s).dueCount + 1 = s.dueCount := by
  have hpop : s.sch.popped.entries = rest := by simp [Sch.popped, hs]
  have hall : s.dueCount = (rest.map (·.due)).countP (fun d => decide (d.ticks ≤ s.now)) + 1 := by
    simp [State.dueCount, hs, hd]
  obtain ⟨out, hsch⟩ := takeEntry_sch e s
  rw [hall, State.dueCount, takeEntry_now, hsch]
  cases hn : (e.consume (s.now - e.due.ticks)).nextDue with
  | none => simp only [hpop]
  | some due =>
    have hlate := nextDue_later hp hn
    simp only [Sch.enter_entries]
    rw [(placeEntry_dues_perm _ _).countP_eq, Sch.readyStamp_dues, hpop, List.countP_cons_of_neg]
    simpa [Entry.requeued] using hlate

/-! ### The loop -/

/-- A loop whose head is not due takes nothing. -/
theorem passLoop_of_head {k : Nat} {s : State} (h : ∀ e ∈ s.sch.entries.head?, s.now < e.due.ticks) : passLoop k s = s := by
  cases k with
  | zero => rfl
  | succ k =>
    cases hs : s.sch.entries with
    | nil => simp [passLoop, hs]
    | cons e rest =>
      have : ¬e.due.ticks ≤ s.now := Nat.not_le.2 (h e (by simp [hs]))
      simp [passLoop, hs, this]

theorem passLoop_of_due {k : Nat} {e : Entry} {rest : List Entry} {s : State} (hs : s.sch.entries = e :: rest)
    (hd : e.due.ticks ≤ s.now) : passLoop (k + 1) s = passLoop k (takeEntry e s) := by
  simp [passLoop, hs, hd]

/-- The head is due, or no entry or none before the instant stands there. -/
theorem head_cases (s : State) : (∃ e rest, s.sch.entries = e :: rest ∧ e.due.ticks ≤ s.now) ∨
    ∀ e ∈ s.sch.entries.head?, s.now < e.due.ticks := by
  cases hs : s.sch.entries with
  | nil => right; simp
  | cons e rest =>
    by_cases h : e.due.ticks ≤ s.now
    · exact .inl ⟨e, rest, rfl, h⟩
    · right; simpa using h

theorem passLoop_periods {k : Nat} {s : State} (hp : s.periodsPositive) : (passLoop k s).periodsPositive := by
  induction k generalizing s with
  | zero => exact hp
  | succ k ih =>
    obtain ⟨e, rest, hs, hd⟩ | h := head_cases s
    · rw [passLoop_of_due hs hd]; exact ih (takeEntry_periods hs hp)
    · rwa [passLoop_of_head h]

/-- As many takings as there are due entries are a whole pass (R50). -/
theorem passLoop_enough {k : Nat} {s : State} (hp : s.periodsPositive) (hk : s.dueCount ≤ k) :
    passLoop k s = passLoop s.dueCount s := by
  induction k generalizing s with
  | zero => rw [Nat.le_zero.1 hk]
  | succ k ih =>
    obtain ⟨e, rest, hs, hd⟩ | h := head_cases s
    · have hc := takeEntry_dueCount hs hd (hp e (by simp [hs]))
      rw [passLoop_of_due hs hd, ih (takeEntry_periods hs hp) (by omega), ← hc, passLoop_of_due hs hd]
    · rw [passLoop_of_head h, passLoop_of_head h]

/-- Each taking of a loop deals with one due entry at most. -/
theorem dueCount_le_passLoop {k : Nat} {s : State} (hp : s.periodsPositive) : s.dueCount ≤ k + (passLoop k s).dueCount := by
  induction k generalizing s with
  | zero => simp [passLoop]
  | succ k ih =>
    obtain ⟨e, rest, hs, hd⟩ | h := head_cases s
    · have hc := takeEntry_dueCount hs hd (hp e (by simp [hs]))
      have := ih (takeEntry_periods hs hp)
      rw [passLoop_of_due hs hd]; omega
    · rw [passLoop_of_head h]; omega

/-- A pass beside which no notice is posted is a pass (R50). -/
theorem passAround_none {k : Nat} {s : State} (hp : s.periodsPositive) : passAround k none s = pass s := by
  cases hh : s.sch.hold.isEmpty with
  | false => rw [passAround_of_held hh, pass_of_held hh]; rfl
  | true =>
    have hsome : passSome k s = passLoop k s := by simp [passSome, hh]
    have hown : ∀ x, postOwn none x = x := fun _ => rfl
    have hrest : s.dueCount ≤ k + (passLoop k s).sch.entries.length :=
      (dueCount_le_passLoop hp).trans (Nat.add_le_add_left (State.dueCount_le _) k)
    rw [passAround, hsome, hown]
    simp only [pass, passLoop_sch_hold, hh, if_true]
    rw [← passLoop_add, passLoop_enough hp hrest, passLoop_enough hp s.dueCount_le]

end Sys2Proof.Machine

/-! ## What a tick gives out -/

namespace Sys2Proof.Machine

/-! ### The parts still owed -/

/-- The owed parts are one of the fields that `Steady` lets stand. -/
theorem steady_owed (us : List TickUnit) : Steady fun u => u.owed = us where
  cap _ h := h
  trg _ h := h
  rds _ h := h
  flash _ h := h
  lnk _ h := h
  draws _ h := h
  sch _ _ h := h
  lines _ _ h := h
  holdover c h := by unfold claimHoldover; split <;> simpa using h
  tracking c h := by unfold claimTracking; split <;> simpa using h
  stepBy d k h := by unfold claimStep; split <;> simpa using h
  lease p f h := by unfold installLease; split <;> exact h

@[simp] theorem claimSlew_owed (v : Int) (s : State) : (claimSlew v s).owed = s.owed := by
  unfold claimSlew; split <;> rfl

@[simp] theorem acceptRun_owed (n : LineNo) (order : EdgeOrder) (s : State) : (acceptRun n order s).owed = s.owed :=
  (steady_owed s.owed).acceptRun (fun _ _ _ u hu => by simpa using hu) order rfl

@[simp] theorem acceptRuns_owed (s : State) : (acceptRuns s).owed = s.owed :=
  foldl_keeps (P := fun u => u.owed = s.owed) (f := fun x n => acceptRun n ⟨0, 0⟩ x)
    (fun n u hu => by simpa using hu) _ s rfl

@[simp] theorem expireLease_owed (s : State) : (expireLease s).owed = s.owed := by
  unfold expireLease applyFallback postExpired claimSafe addReason
  split <;> simp

/-- A main reset keeps the advance alone of what is owed (R24). -/
theorem mainReset_owed (cause : StartCause) (s : State) : (mainReset cause s).owed = s.owed.filter (· == .advance) := by
  obtain ⟨-, -, -, -, -, -, -, -, howed, -⟩ := mainReset_blocks cause s
  rw [howed]
  simp [resetBlocks]

/-- The lease's part of a tick by its two events (R153, R155). -/
theorem leaseTick_eq (s : State) : leaseTick s =
    if s.lsm.expiring then (if s.lsm.fallback = .restart then mainReset .lease (expireLease s) else expireLease s)
    else if s.lsm.state = .running then s.setLsm { s.lsm with count := s.lsm.count + 1 } else s := by
  unfold leaseTick Lsm.expiring
  cases s.lsm.state <;> rfl

/-- A part owes nothing new. -/
theorem doPart_owed (p : TickPart) (s : State) : (doPart p s).owed.Sublist s.owed := by
  have hs := steady_owed s.owed
  cases p with
  | advance k => exact ((advanceInstant_frame k s).2.1 ▸ List.Sublist.refl _ : (advanceInstant k s).owed.Sublist s.owed)
  | line n accept =>
    have : (lineTick n accept s).owed = s.owed :=
      hs.lineTick (fun _ _ _ hu => hu) (fun _ _ hu => by simpa using hu) accept rfl
    exact this ▸ List.Sublist.refl _
  | trigger t => exact List.Sublist.refl _
  | reference => exact (hs.referenceTick rfl : (referenceTick s).owed = s.owed) ▸ List.Sublist.refl _
  | lease =>
    change (leaseTick s).owed.Sublist s.owed
    rw [leaseTick_eq]
    split
    · split
      · rw [mainReset_owed, expireLease_owed]; exact List.filter_sublist
      · rw [expireLease_owed]
    · split <;> exact List.Sublist.refl _

/-- After a part is dealt with it is owed once less, and nothing else more. -/
theorem deal_owed (p : TickPart) (s : State) : (deal p s).owed.Subperm (s.owed.erase p.unit) := by
  by_cases h : p.unit ∈ s.owed
  · rw [deal_of_owed h]
    exact (doPart_owed p _).subperm
  · rw [deal_of_not_owed h, List.erase_of_not_mem h]

/-- A list of parts that covers what is owed leaves nothing owed. -/
theorem dealAll_owed {ps : List TickPart} {s : State} (h : s.owed.Subperm (ps.map TickPart.unit)) : (dealAll ps s).owed = [] := by
  induction ps generalizing s with
  | nil => exact List.subperm_nil.1 h
  | cons p ps ih =>
    rw [dealAll_cons]
    refine ih ((deal_owed p s).trans ?_)
    simpa using h.erase p.unit

@[simp] theorem TickUnit.part_unit (u : TickUnit) : u.part.unit = u := by cases u <;> rfl

/-- After `settle` nothing is owed. -/
theorem settle_owed (s : State) : (settle s).owed = [] := by
  refine dealAll_owed ?_
  have hunits : ((acceptRuns s).owed.map TickUnit.part).map TickPart.unit = s.owed := by
    simp [List.map_map, Function.comp_def]
  rw [hunits, acceptRuns_owed]

/-! ### What a part does where no event is due -/

/-- A trigger's part of a tick (R104). -/
theorem triggerTick_idle {t : TrigNo} {s : State} (h : ∀ x, s.trg[t] = some x → x.state ≠ .holdoff) : triggerTick t s = s := by
  have : s.trg[t].map Trigger.tick = s.trg[t] := by
    cases hx : s.trg[t] with
    | none => rfl
    | some x =>
      have := h x hx
      cases hst : x.state <;> simp_all [Trigger.tick]
  unfold triggerTick State.setTrigger
  rw [this]
  simp

theorem triggerTick_counting {t : TrigNo} {x : Trigger} {s : State} (hx : s.trg[t] = some x) (hst : x.state = .holdoff)
    (hr : 1 < x.remainder) :
    triggerTick t s = s.setTrg (s.trg.set t (some { x with remainder := x.remainder - 1 })) := by
  have : x.tick = { x with remainder := x.remainder - 1 } := by simp [Trigger.tick, hst, Nat.not_le.2 hr]
  simp [triggerTick, State.setTrigger, hx, this]

/-- The Reference Discipline's part of a tick with no loss to declare (R122). -/
theorem referenceTick_of_not_losing {n : Nat} {s : State} (h : s.rds.losing = false) (hn : s.rds.counted = n) :
    referenceTick s = s.setRds { s.rds with count := n } := by
  simp [referenceTick, h, hn]

/-- The edge count of a reference that is lost, or active within its timeout, rises by 1 (R122). -/
theorem referenceTick_counting {s : State} (h : s.rds.state = .lost ∨
    (s.rds.state = .active ∧ min 65535 (s.rds.count + 1) ≤ s.rds.config.timeout * 1024)) :
    referenceTick s = s.setRds { s.rds with count := min 65535 (s.rds.count + 1) } := by
  obtain h | ⟨h, hl⟩ := h
  · exact referenceTick_of_not_losing (by simp [Rds.losing, h]) (by simp [Rds.counted, h, Config.countMax])
  · have hc : s.rds.counted = min 65535 (s.rds.count + 1) := by simp [Rds.counted, h, Config.countMax]
    refine referenceTick_of_not_losing ?_ hc
    have : ¬s.rds.config.timeout * Config.ticksPerSecond < s.rds.counted := hc ▸ Nat.not_lt.2 hl
    simp [Rds.losing, this]

/-- Without a reference under watch the edge count is 0 (R122). -/
theorem referenceTick_unwatched {s : State} (h : s.rds.state = .idle ∨ s.rds.state = .waiting) :
    referenceTick s = s.setRds { s.rds with count := 0 } := by
  obtain h | h := h <;> exact referenceTick_of_not_losing (by simp [Rds.losing, h]) (by simp [Rds.counted, h])

/-- A RUNNING lease short of its limit counts (R153). -/
theorem leaseTick_counting {s : State} (h : s.lsm.state = .running) (hl : s.lsm.count + 1 < s.lsm.period * 1024) :
    leaseTick s = s.setLsm { s.lsm with count := s.lsm.count + 1 } := by
  have hl' : ¬s.lsm.limit ≤ s.lsm.count + 1 := Nat.not_le.2 hl
  have hexp : s.lsm.expiring = false := by simp [Lsm.expiring, hl']
  rw [leaseTick_eq, hexp, if_neg (by simp), if_pos h]

theorem leaseTick_stopped {s : State} (h : s.lsm.state ≠ .running) : leaseTick s = s := by
  have hexp : s.lsm.expiring = false := by simp [Lsm.expiring, h]
  rw [leaseTick_eq, hexp, if_neg (by simp), if_neg h]

/-- Writing a line back changes nothing. -/
theorem setLine_self (n : LineNo) (s : State) : s.setLine n s.lin[n] = s := by
  have : s.lin.set n s.lin[n] = s.lin := by simp
  unfold State.setLine
  rw [this]; rfl

/-- The part of a line without a filter is its output's (R77). -/
theorem lineTick_of_output {n : LineNo} {accept : Option EdgeOrder} {out : Option Output} {s : State}
    (hin : (s.lin[n]).input = none) (ho : (s.lin[n]).output.map Output.tick = out) :
    lineTick n accept s = s.setLine n { s.lin[n] with output := out } := by
  unfold lineTick
  split
  · rename_i hf; rw [hin] at hf; cases hf
  · rw [ho]

/-- An output without a pulse, or a line without an output, has nothing to do in a tick (R77). -/
theorem lineTick_idle {n : LineNo} {accept : Option EdgeOrder} {s : State} (hin : (s.lin[n]).input = none)
    (ho : (s.lin[n]).output = none ∨ ∃ o, (s.lin[n]).output = some o ∧ o.pulse = none) : lineTick n accept s = s := by
  have : (s.lin[n]).output.map Output.tick = (s.lin[n]).output := by
    obtain ho | ⟨o, ho, hp⟩ := ho
    · rw [ho]; rfl
    · rw [ho, Option.map_some, Output.tick, hp]
  exact (lineTick_of_output hin this).trans (setLine_self n s)

/-- A pulse counts down (R77). -/
theorem lineTick_pulse {n : LineNo} {accept : Option EdgeOrder} {o : Output} {p : Pulse} {s : State}
    (hin : (s.lin[n]).input = none) (ho : (s.lin[n]).output = some o) (hp : o.pulse = some p) (hr : 1 < p.remainder) :
    lineTick n accept s = s.setLin (s.lin.set n
      { s.lin[n] with output := some ⟨o.commanded, some ⟨p.rest, p.remainder - 1⟩⟩ }) := by
  refine lineTick_of_output hin ?_
  rw [ho, Option.map_some]
  simp [Output.tick, hp, Nat.not_le.2 hr]

/-- A line's sample completes no run: the part is the sample alone (R81, R126). -/
theorem lineTick_sample {n : LineNo} {accept : Option EdgeOrder} {f : Filter} {s : State} (hf : (s.lin[n]).input = some f)
    (h : accept = none ∨ (sampleLine n f s).complete n = false) : lineTick n accept s = sampleLine n f s := by
  simp only [lineTick, hf]
  cases accept with
  | none => rfl
  | some order =>
    obtain ⟨⟨⟩⟩ | h := h
    exact acceptRun_of_incomplete h

/-- The run that a sample leaves on line `n` is not complete where it is shorter than the acceptance length (R81). -/
theorem sampleLine_incomplete {n : LineNo} {f : Filter} {s : State}
    (h : ∀ r, (f.sample (s.raw n) s.tmb.instant s.tmb.generation).filter.run = some r → r.count < (s.lin[n]).config.acceptance) :
    (sampleLine n f s).complete n = false := by
  have : (f.sample (s.raw n) s.tmb.instant s.tmb.generation).filter.completed (s.lin[n]).config.acceptance = none := by
    unfold Filter.completed
    cases hr : (f.sample (s.raw n) s.tmb.instant s.tmb.generation).filter.run with
    | none => rfl
    | some r => simpa using h r hr
  simp only [State.complete, State.completed, sampleLine, State.drawn_lin, State.setLine]
  simpa using this

theorem Filter.sample_same {f : Filter} {level : Level} {now : Instant} {gen : W16} (h : level = f.accepted) :
    f.sample level now gen = { filter := ⟨f.accepted, none⟩, glitch := f.run.isSome } := by simp [Filter.sample, h]

theorem Filter.sample_starts {f : Filter} {level : Level} {now : Instant} {gen : W16} (h : level ≠ f.accepted)
    (hr : f.run = none) : f.sample level now gen = { filter := ⟨f.accepted, some ⟨1, now, gen⟩⟩, glitch := false } := by
  simp [Filter.sample, h, hr]

theorem Filter.sample_grows {f : Filter} {level : Level} {now : Instant} {gen : W16} {r : Run} (h : level ≠ f.accepted)
    (hr : f.run = some r) :
    f.sample level now gen = { filter := ⟨f.accepted, some ⟨r.count + 1, r.onset, r.generation⟩⟩, glitch := false } := by
  simp [Filter.sample, h, hr]

/-- A line's part of a tick by the filter and the glitch that its sample leaves, where it completes no run (R81, R83). -/
theorem lineTick_of_sample {n : LineNo} {accept : Option EdgeOrder} {f : Filter} {x : SampleResult} {s : State}
    (hf : (s.lin[n]).input = some f) (hx : f.sample (s.raw n) s.tmb.instant s.tmb.generation = x)
    (h : accept = none ∨ ∀ r, x.filter.run = some r → r.count < (s.lin[n]).config.acceptance) :
    lineTick n accept s = (s.setLin (s.lin.set n { s.lin[n] with
      input := some x.filter
      glitches := if x.glitch then min Config.countMax ((s.lin[n]).glitches + 1) else (s.lin[n]).glitches })).setDraws
        (s.draws + 1) := by
  subst hx
  rw [lineTick_sample hf (h.imp_right sampleLine_incomplete)]
  rfl

/-- The Time Base's part of a tick with no notice of its own: the advance, with its pass where the instant moved (R8 to R10). -/
theorem advanceInstant_quiet {k : Nat} {s : State} (he : s.tmb.advance.rangeEnd = false) (hs : s.tmb.advance.slewDone = false)
    (hp : s.periodsPositive) : advanceInstant k s =
      if s.tmb.advance.tmb.instant = s.tmb.instant then s.setTmb s.tmb.advance.tmb else pass (s.setTmb s.tmb.advance.tmb) := by
  have hown : s.tmb.advance.own = none := by simp [Advance.own, he, hs]
  have hset : s.tmb.advance.settled = s.tmb.advance.tmb := by simp [Advance.settled, he]
  have hmoved : s.tmb.advance.moved = (s.tmb.instant != s.tmb.advance.tmb.instant) := by
    obtain h | h := s.tmb.advance_cases
    · rw [Tmb.advance_within h]
    · rw [Tmb.advance_past h]
  have hpass : passAround k none (s.setTmb s.tmb.advance.tmb) = pass (s.setTmb s.tmb.advance.tmb) :=
    passAround_none (fun e hm r hr => hp e hm r hr)
  rw [advanceInstant_eq, he, Bool.false_and, if_neg (by simp), reportAdvance, hown, hset, hmoved, hpass]
  by_cases hi : s.tmb.instant = s.tmb.advance.tmb.instant
  · rw [if_neg (by simpa using hi), if_pos hi.symm]; rfl
  · rw [if_pos (by simpa using hi), if_neg (Ne.symm hi)]

/-- An advance does not look at the elapsed counter (R17). -/
theorem Tmb.advance_elapsed (t : Tmb) (x : W32) : ({ t with elapsed := x } : Tmb).advance =
    { t.advance with tmb := { t.advance.tmb with elapsed := x } } := by
  obtain h | h := t.advance_cases
  · rw [Tmb.advance_within h, Tmb.advance_within (t := { t with elapsed := x }) h]; rfl
  · rw [Tmb.advance_past h, Tmb.advance_past (t := { t with elapsed := x }) h]; rfl

/-! ### The tick -/

theorem exec_nominalTick {now : List TickPart} {s : State} (hp : s.power = true) :
    exec (.nominalTick now) s = .next (nominalTick now s) := by
  have h : exec (.nominalTick now) s = .next (if s.power then nominalTick now s else backupAdvance s) := rfl
  rw [h, if_pos hp]

/-- A tick that finds nothing unfinished and deals with one part (R2). -/
theorem exec_nominalTick_one {s v : State} (hp : s.power = true) (ho : s.owed = []) (hc : ∀ n, s.complete n = false) (p : TickPart)
    (hv : doPart p ((s.setTmb { s.tmb with elapsed := s.tmb.elapsed + 1 }).setOwed (tickUnits.erase p.unit)) = v) :
    exec (.nominalTick [p]) s = .next v := by
  have hmem : p.unit ∈ tickUnits := by cases p <;> simp [tickUnits, TickPart.unit]
  rw [exec_nominalTick hp, nominalTick, settle_of_none ho hc, dealAll_cons, dealAll_nil, deal_of_owed hmem, ← hv]
  rfl

/-- Settles O38: each part by the lemma of its block. -/
theorem ticksAreGivenOut : Obligations.TicksAreGivenOut := by
  intro s hp
  refine ⟨fun now => by rw [exec_nominalTick hp]; rfl, by decide, by decide, fun u => by cases u <;> simp [tickUnits],
    settle_owed s, fun ho hc => ?_⟩
  intro u rest
  have hone : ∀ {v : State} (p : TickPart), doPart p (rest p.unit) = v → exec (.nominalTick [p]) s = .next v :=
    fun p hv => exec_nominalTick_one hp ho hc p hv
  refine ⟨?_, fun k he hs hper => ?_, fun n accept hin => ⟨fun h => ?_, fun o p h1 h2 h3 => ?_⟩, fun n accept f hf => ?_,
    fun t => ⟨fun h => ?_, fun x hx hst hr => ?_⟩, fun h => ?_, fun h => ?_, fun hst hl => ?_, fun hst => ?_⟩
  · rw [exec_nominalTick hp, nominalTick, settle_of_none ho hc]; rfl
  · intro v
    have hadv := s.tmb.advance_elapsed (s.tmb.elapsed + 1)
    have htmb : (rest .advance).tmb.advance.tmb = { s.tmb.advance.tmb with elapsed := s.tmb.elapsed + 1 } :=
      congrArg Advance.tmb hadv
    refine hone (.advance k) ((advanceInstant_quiet (s := rest .advance) ?_ ?_ hper).trans ?_)
    · exact (congrArg Advance.rangeEnd hadv).trans he
    · exact (congrArg Advance.slewDone hadv).trans hs
    · rw [htmb]; rfl
  · exact hone (.line n accept) (lineTick_idle (s := rest (.line n)) hin h)
  · exact hone (.line n accept) (lineTick_pulse (s := rest (.line n)) hin h1 h2 h3)
  · intro sampled
    have hsample : ∀ x, f.sample (s.raw n) s.tmb.instant s.tmb.generation = x →
        (accept = none ∨ ∀ r, x.filter.run = some r → r.count < (s.lin[n]).config.acceptance) →
        exec (.nominalTick [.line n accept]) s = .next (((rest (.line n)).setLin (s.lin.set n { s.lin[n] with
          input := some x.filter
          glitches := if x.glitch then min 65535 ((s.lin[n]).glitches + 1) else (s.lin[n]).glitches })).setDraws
            (s.draws + 1)) :=
      fun x hx h => hone (.line n accept) (lineTick_of_sample (s := rest (.line n)) hf hx h)
    refine ⟨fun hr => ?_, fun hr hrun h => ?_, fun r hr hrun h => ?_⟩
    · rw [hsample _ (Filter.sample_same hr) (.inr fun r h => nomatch h)]
      cases f.run <;> rfl
    · exact hsample _ (Filter.sample_starts hr hrun) (h.imp_right fun h r => by rintro ⟨⟩; exact h)
    · exact hsample _ (Filter.sample_grows hr hrun) (h.imp_right fun h r => by rintro ⟨⟩; exact h)
  · exact hone (.trigger t) (triggerTick_idle (s := rest (.trigger t)) h)
  · exact hone (.trigger t) (triggerTick_counting (s := rest (.trigger t)) hx hst hr)
  · exact hone .reference (referenceTick_counting (s := rest .reference) h)
  · exact hone .reference (referenceTick_unwatched (s := rest .reference) h)
  · exact hone .lease (leaseTick_counting (s := rest .lease) hst hl)
  · exact hone .lease (leaseTick_stopped (s := rest .lease) hst)

end Sys2Proof.Machine

/-! ## Notices behind a transmitter that is not idle -/

namespace Sys2Proof.Machine

/-- From `s` to `t` the transmitter stays as it is and the queued notices keep their places. -/
structure Queues (s t : State) : Prop where
  tx      : t.lnk.tx = s.lnk.tx
  notices : s.lnk.notices <+: t.lnk.notices

/-- From `s` to `t` the transmitter stays as it is, and the notices of `l` come behind those queued. -/
structure Queued (l : List Notice) (s t : State) : Prop extends Queues s t where
  told : t.lnk.notices.map Prod.snd = s.lnk.notices.map Prod.snd ++ l

theorem Queues.refl (s : State) : Queues s s := ⟨rfl, List.prefix_refl _⟩

theorem Queues.trans {s t u : State} (h : Queues s t) (h' : Queues t u) : Queues s u :=
  ⟨h'.tx.trans h.tx, h.notices.trans h'.notices⟩

theorem Queues.busy {s t : State} (h : Queues s t) (hs : s.lnk.tx ≠ .idle) : t.lnk.tx ≠ .idle := h.tx ▸ hs

/-- The link decides. -/
theorem Queues.of_lnk {s t : State} (h : t.lnk = s.lnk) : Queues s t := ⟨by rw [h], by rw [h]⟩

theorem Queues.mem {s t : State} {n : Notice} (h : Queues s t) (hn : n ∈ s.lnk.notices.map Prod.snd) :
    n ∈ t.lnk.notices.map Prod.snd := (h.notices.map Prod.snd).subset hn

theorem Queued.of_lnk {s t : State} (h : t.lnk = s.lnk) : Queued [] s t := ⟨.of_lnk h, by rw [h]; simp⟩

theorem Queued.trans {l m : List Notice} {s t u : State} (h : Queued l s t) (h' : Queued m t u) : Queued (l ++ m) s u :=
  ⟨h.toQueues.trans h'.toQueues, by rw [h'.told, h.told, List.append_assoc]⟩

theorem Queued.length {l : List Notice} {s t : State} (h : Queued l s t) :
    t.lnk.notices.length = s.lnk.notices.length + l.length := by
  simpa using congrArg List.length h.told

/-- The link after a taking: one notice posted, or none (R51). -/
theorem takeEntry_lnk (e : Entry) (s : State) : (takeEntry e s).lnk = s.lnk ∨ ∃ n, (takeEntry e s).lnk = (post n s).lnk := by
  have hclaim : (if (occurrenceOutcome (s.now - e.due.ticks) s.sch.tolerance e.late (guardHolds s e.guard)).runs
      then sendClaim e s else s).lnk = s.lnk := by split <;> simp
  unfold takeEntry
  dsimp only
  split
  · exact .inr ⟨_, congrArg (fun k : Lnk => (k.enqueue _).choose) hclaim⟩
  · exact .inl hclaim

section
variable {s : State} (hs : s.lnk.tx ≠ .idle)
include hs

/-- A post behind a busy transmitter takes the next place or is lost. -/
theorem post_queues (n : Notice) : Queues s (post n s) := by
  have hbusy : (s.lnk.enqueue n).tx ≠ .idle := by simpa using hs
  refine ⟨by rw [post_lnk, Lnk.choose_of_busy hbusy]; simp, ?_⟩
  rw [post_lnk, Lnk.choose_of_busy hbusy]
  unfold Lnk.enqueue
  split_ifs
  · exact List.prefix_refl _
  · exact List.prefix_refl _
  · exact List.prefix_append _ _

/-- A post to a queue with room (R173). -/
theorem post_queued {n : Notice} (hn : n.isCapturePending = false) (hr : s.lnk.notices.length < Config.noticeMax) :
    Queued [n] s (post n s) := by
  have h := post_lnk_of_busy hn hs hr
  exact ⟨post_queues hs n, by rw [h]; simp⟩

/-- A post adds one notice at most. -/
theorem post_notices_length (n : Notice) : (post n s).lnk.notices.length ≤ s.lnk.notices.length + 1 := by
  have hbusy : (s.lnk.enqueue n).tx ≠ .idle := by simpa using hs
  rw [post_lnk, Lnk.choose_of_busy hbusy]
  unfold Lnk.enqueue
  split_ifs <;> simp

theorem postOwn_queues (n : Option Notice) : Queues s (postOwn n s) := by
  cases n with
  | none => exact .refl s
  | some n => exact post_queues hs n

theorem postOwn_queued {n : Option Notice} (hn : ∀ m ∈ n, m.isCapturePending = false)
    (hr : s.lnk.notices.length + n.toList.length ≤ Config.noticeMax) : Queued n.toList s (postOwn n s) := by
  cases n with
  | none => exact .of_lnk rfl
  | some n => exact post_queued hs (hn n rfl) hr

theorem takeEntry_queues (e : Entry) : Queues s (takeEntry e s) := by
  obtain h | ⟨n, h⟩ := takeEntry_lnk e s
  · exact .of_lnk h
  · exact (post_queues hs n).trans (.of_lnk h)

theorem takeEntry_notices_length (e : Entry) : (takeEntry e s).lnk.notices.length ≤ s.lnk.notices.length + 1 := by
  obtain h | ⟨n, h⟩ := takeEntry_lnk e s <;> rw [h]
  · exact Nat.le_succ _
  · exact post_notices_length hs n

end

theorem passLoop_queues (k : Nat) {s : State} (hs : s.lnk.tx ≠ .idle) : Queues s (passLoop k s) := by
  induction k generalizing s with
  | zero => exact .refl s
  | succ k ih =>
    obtain ⟨e, rest, he, hd⟩ | h := head_cases s
    · rw [passLoop_of_due he hd]
      have h1 := takeEntry_queues hs e
      exact h1.trans (ih (h1.busy hs))
    · rw [passLoop_of_head h]; exact .refl s

/-- So many takings post so many notices at most. -/
theorem passLoop_notices_length (k : Nat) {s : State} (hs : s.lnk.tx ≠ .idle) :
    (passLoop k s).lnk.notices.length ≤ s.lnk.notices.length + k := by
  induction k generalizing s with
  | zero => exact Nat.le_refl _
  | succ k ih =>
    obtain ⟨e, rest, he, hd⟩ | h := head_cases s
    · rw [passLoop_of_due he hd]
      have h1 := takeEntry_notices_length hs e
      have h2 := ih ((takeEntry_queues hs e).busy hs)
      omega
    · rw [passLoop_of_head h]; exact Nat.le_add_right _ _

theorem passSome_queues (k : Nat) {s : State} (hs : s.lnk.tx ≠ .idle) : Queues s (passSome k s) := by
  unfold passSome
  split
  · exact passLoop_queues k hs
  · exact .refl s

theorem passSome_notices_length (k : Nat) {s : State} (hs : s.lnk.tx ≠ .idle) :
    (passSome k s).lnk.notices.length ≤ s.lnk.notices.length + k := by
  unfold passSome
  split
  · exact passLoop_notices_length k hs
  · exact Nat.le_add_right _ _

theorem pass_queues {s : State} (hs : s.lnk.tx ≠ .idle) : Queues s (pass s) := passSome_queues _ hs

theorem passAround_queues (k : Nat) (n : Option Notice) {s : State} (hs : s.lnk.tx ≠ .idle) :
    Queues s (passAround k n s) := by
  have h1 := passSome_queues k hs
  have h2 := h1.trans (postOwn_queues (h1.busy hs) n)
  exact h2.trans (pass_queues (h2.busy hs))

/-- The notice beside a pass is queued where the queue has room for the takings before it. -/
theorem mem_passAround {k : Nat} {n : Notice} {s : State} (hn : n.isCapturePending = false) (hs : s.lnk.tx ≠ .idle)
    (hr : s.lnk.notices.length + k < Config.noticeMax) :
    n ∈ (passAround k (some n) s).lnk.notices.map Prod.snd := by
  have hbusy := (passSome_queues k hs).busy hs
  have hpost := post_queued (n := n) hbusy hn ((passSome_notices_length k hs).trans_lt hr)
  refine (pass_queues (hpost.busy hbusy)).mem ?_
  rw [hpost.told]
  simp

/-! ### A change of validity -/

/-- The change of validity by its three cases (R14). -/
theorem setValidity_of_ne {v : Validity} {c : ValidityCause} {k : Nat} {s : State} (h : v ≠ s.tmb.validity) :
    setValidity v c k s =
      let u := s.setTmb { s.tmb with validity := v }
      let own := Notice.timeState s.tmb.validity v c s.tmb.instant s.tmb.generation
      if v = .unset then addReason .notime (post own u)
      else if s.tmb.validity = .unset then removeReasonAround .notime k (some own) u
      else post own u := by
  simp [setValidity, h, stateNotice, postOwn]

/-- The removal of a reason with the notice of the block that removes it: a pass beside it, or the notice alone (R40, R64). -/
theorem removeReasonAround_cases (r : HoldReason) (k : Nat) (n : Option Notice) (s : State) :
    ∃ u, u.lnk = s.lnk ∧ (removeReasonAround r k n s = passAround k n u ∨ removeReasonAround r k n s = postOwn n u) := by
  unfold removeReasonAround
  dsimp only
  split
  · split
    · exact ⟨s.setSch { s.sch with hold := s.sch.hold.put r false }, rfl, .inl rfl⟩
    · exact ⟨s.setSch { s.sch with hold := s.sch.hold.put r false }, rfl, .inr rfl⟩
  · exact ⟨s, rfl, .inr rfl⟩

/-- The TIME-STATE of a change of validity is queued first where no taking comes before it (R14, R173). -/
theorem setValidity_queued {v : Validity} {c : ValidityCause} {k : Nat} {s : State} (h : v ≠ s.tmb.validity)
    (hs : s.lnk.tx ≠ .idle) (hr : s.lnk.notices.length < Config.noticeMax) (hk : k = 0 ∨ s.tmb.validity ≠ .unset) :
    s.lnk.notices ++ [(s.lnk.nextNotice, .timeState s.tmb.validity v c s.tmb.instant s.tmb.generation)] <+:
      (setValidity v c k s).lnk.notices := by
  rw [setValidity_of_ne h]
  dsimp only
  generalize hown : Notice.timeState s.tmb.validity v c s.tmb.instant s.tmb.generation = own
  have hpost : ∀ u : State, u.lnk = s.lnk → (post own u).lnk.notices = s.lnk.notices ++ [(s.lnk.nextNotice, own)] :=
    fun u hu => by rw [post_lnk_of_busy (hown ▸ rfl) (by rwa [hu]) (by rwa [hu]), hu]
  split
  · exact (hpost _ rfl) ▸ List.prefix_refl _
  · split
    · rename_i hv
      obtain rfl : k = 0 := hk.resolve_right (not_not.2 hv)
      obtain ⟨u, hu, he | he⟩ := removeReasonAround_cases .notime 0 (some own)
        (s.setTmb { s.tmb with validity := v })
      · have h0 : passSome 0 u = u := by unfold passSome; split <;> rfl
        rw [he, passAround, h0, ← hpost u hu]
        exact (pass_queues ((post_queues (hu ▸ hs) _).busy (hu ▸ hs))).notices
      · rw [he, ← hpost u hu]; exact List.prefix_refl _
    · exact (hpost _ rfl) ▸ List.prefix_refl _

/-- With room for the takings before it, it is queued (R173). -/
theorem setValidity_mem {v : Validity} {c : ValidityCause} {k : Nat} {s : State} (h : v ≠ s.tmb.validity)
    (hs : s.lnk.tx ≠ .idle) (hr : s.lnk.notices.length + k < Config.noticeMax) :
    .timeState s.tmb.validity v c s.tmb.instant s.tmb.generation ∈ (setValidity v c k s).lnk.notices.map Prod.snd := by
  by_cases hv : s.tmb.validity = .unset
  · rw [setValidity_of_ne h]
    dsimp only
    rw [if_neg (fun hu => h (hu.trans hv.symm)), if_pos hv]
    obtain ⟨u, hu, he | he⟩ := removeReasonAround_cases .notime k
      (some (.timeState s.tmb.validity v c s.tmb.instant s.tmb.generation)) (s.setTmb { s.tmb with validity := v })
    all_goals rw [he]
    · exact mem_passAround rfl (hu ▸ hs) (by rw [hu]; exact hr)
    · rw [postOwn, (post_queued (hu ▸ hs) rfl (by rw [hu]; exact Nat.lt_of_le_of_lt (Nat.le_add_right _ _) hr)).told]
      simp
  · have := setValidity_queued (c := c) (k := k) h hs (Nat.lt_of_le_of_lt (Nat.le_add_right _ _) hr) (.inr hv)
    exact (this.map Prod.snd).subset (by simp)

/-- Settles O11: the cases of the change, and the notice by the two lemmas above. -/
theorem validityChangesAreReported : Obligations.ValidityChangesAreReported := by
  intro v cause after s t own
  refine ⟨fun h => ?_, by simp [t], fun h => ⟨fun hv => ?_, fun hv => ?_, fun hv hv' => ?_, fun hs hr hk => ?_, fun hs hr => ?_⟩,
    by simp [t]⟩
  · simp only [t, setValidity, h, if_true]
  · simp only [t, setValidity_of_ne h, hv, if_true]; rfl
  · have hne : v ≠ .unset := hv ▸ h
    simp only [t, setValidity_sch_hold, if_neg h, if_neg hne, if_pos hv]
  · simp only [t, setValidity_of_ne h, if_neg hv, if_neg hv']; rfl
  · exact setValidity_queued h hs hr hk
  · exact setValidity_mem h hs hr

end Sys2Proof.Machine

/-! ## Schedule order, and the schedule at a step -/

namespace Sys2Proof.Machine

/-! ### The re-sort -/

theorem Entry.before_iff {a b : Entry} :
    a.before b = true ↔ a.due.ticks < b.due.ticks ∨ a.due.ticks = b.due.ticks ∧ a.stamp ≤ b.stamp := by
  simp [Entry.before]

theorem Entry.before_total (a b : Entry) : a.before b = true ∨ b.before a = true := by
  simp only [Entry.before_iff]; omega

theorem Entry.before_trans {a b c : Entry} (h : a.before b = true) (h' : b.before c = true) : a.before c = true := by
  simp only [Entry.before_iff] at *; omega

/-- The re-sort is the insertion sort by schedule order (R61). -/
theorem sortEntries_eq (es : List Entry) : sortEntries es = es.insertionSort fun a b => a.before b = true := by
  have hins : ∀ (e : Entry) (es : List Entry), sortedInsert e es = es.orderedInsert (fun a b => a.before b = true) e := by
    intro e es
    induction es with
    | nil => rfl
    | cons x xs ih => rw [sortedInsert, ih]; rfl
  induction es with
  | nil => rfl
  | cons e es ih => rw [sortEntries, ih, hins]; rfl

/-- The re-sorted schedule is in schedule order (R61). -/
theorem sortEntries_sorted (es : List Entry) : (sortEntries es).Pairwise fun a b => a.before b = true := by
  rw [sortEntries_eq]
  have : Std.Total fun a b : Entry => a.before b = true := ⟨Entry.before_total⟩
  have : IsTrans Entry fun a b => a.before b = true := ⟨fun _ _ _ => Entry.before_trans⟩
  exact List.pairwise_insertionSort _ es

/-! ### Dues in their order -/

/-- The dues of the schedule rise (R29). -/
def State.duesRise (s : State) : Prop := (s.sch.entries.map (·.due)).Pairwise fun a b => a.ticks ≤ b.ticks

/-- A place after the dues up to its own keeps the dues rising (R30). -/
theorem placeEntry_duesRise {e : Entry} {es : List Entry} (h : (es.map (·.due)).Pairwise fun a b => a.ticks ≤ b.ticks) :
    ((placeEntry e es).map (·.due)).Pairwise fun a b => a.ticks ≤ b.ticks := by
  induction es with
  | nil => simp [placeEntry]
  | cons x xs ih =>
    obtain ⟨hx, hxs⟩ := List.pairwise_cons.1 h
    unfold placeEntry
    split
    · rename_i hle
      refine List.pairwise_cons.2 ⟨fun d hd => ?_, ih hxs⟩
      obtain ⟨y, hy, rfl⟩ := List.mem_map.1 hd
      obtain rfl | hy := mem_placeEntry.1 hy
      · exact hle
      · exact hx _ (List.mem_map_of_mem hy)
    · rename_i hlt
      refine List.pairwise_cons.2 ⟨fun d hd => ?_, h⟩
      obtain rfl | hd := List.mem_cons.1 hd
      · exact (Nat.lt_of_not_le hlt).le
      · exact (Nat.lt_of_not_le hlt).le.trans (hx d hd)

theorem takeEntry_duesRise {e : Entry} {rest : List Entry} {s : State} (hs : s.sch.entries = e :: rest) (h : s.duesRise) :
    (takeEntry e s).duesRise := by
  have hpop : s.sch.popped.entries = rest := by simp [Sch.popped, hs]
  have hrest : (rest.map (·.due)).Pairwise fun a b => a.ticks ≤ b.ticks := by
    unfold State.duesRise at h
    rw [hs] at h
    exact h.tail
  obtain ⟨out, hsch⟩ := takeEntry_sch e s
  unfold State.duesRise
  rw [hsch]
  cases (e.consume (s.now - e.due.ticks)).nextDue with
  | none => simpa only [hpop] using hrest
  | some due =>
    simp only [Sch.enter_entries]
    exact placeEntry_duesRise (by rw [Sch.readyStamp_dues, hpop]; exact hrest)

theorem passLoop_duesRise {k : Nat} {s : State} (h : s.duesRise) : (passLoop k s).duesRise := by
  induction k generalizing s with
  | zero => exact h
  | succ k ih =>
    obtain ⟨e, rest, hs, hd⟩ | hh := head_cases s
    · rw [passLoop_of_due hs hd]; exact ih (takeEntry_duesRise hs h)
    · rwa [passLoop_of_head hh]

/-- With rising dues and a head that is not due, no entry is due. -/
theorem none_due_of_head {s : State} (h : s.duesRise) (hh : ∀ e ∈ s.sch.entries.head?, s.now < e.due.ticks) :
    ∀ e ∈ s.sch.entries, s.now < e.due.ticks := by
  unfold State.duesRise at h
  cases hs : s.sch.entries with
  | nil => simp
  | cons x xs =>
    rw [hs, List.map_cons, List.pairwise_cons] at h
    have hx : s.now < x.due.ticks := hh x (by simp [hs])
    intro e he
    obtain rfl | he := List.mem_cons.1 he
    · exact hx
    · exact hx.trans_le (h.1 _ (List.mem_map_of_mem he))

/-- A loop with as many takings as there are due entries leaves no entry due (R50). -/
theorem passLoop_none_due {k : Nat} {s : State} (hp : s.periodsPositive) (h : s.duesRise) (hk : s.dueCount ≤ k) :
    ∀ e ∈ (passLoop k s).sch.entries, s.now < e.due.ticks := by
  induction k generalizing s with
  | zero =>
    have h0 : s.dueCount = 0 := by omega
    intro e he
    have := List.countP_eq_zero.1 h0 _ (List.mem_map_of_mem he)
    simpa using this
  | succ k ih =>
    obtain ⟨e, rest, hs, hd⟩ | hh := head_cases s
    · have hc := takeEntry_dueCount hs hd (hp e (by simp [hs]))
      rw [passLoop_of_due hs hd, ← takeEntry_now e s]
      exact ih (takeEntry_periods hs hp) (takeEntry_duesRise hs h) (by omega)
    · rw [passLoop_of_head hh]; exact none_due_of_head h hh

/-- An entry not yet due outlasts a loop, but for its stamp (R50). -/
theorem passLoop_keeps {k : Nat} {y : Entry} {s : State} (hy : y ∈ s.sch.entries) (hd : s.now < y.due.ticks) :
    ∃ q, { y with stamp := q } ∈ (passLoop k s).sch.entries := by
  induction k generalizing s y with
  | zero => exact ⟨y.stamp, hy⟩
  | succ k ih =>
    obtain ⟨e, rest, hs, hde⟩ | hh := head_cases s
    · have hrest : y ∈ rest := by
        rw [hs] at hy
        obtain rfl | hy := List.mem_cons.1 hy
        · omega
        · exact hy
      obtain ⟨q, hq⟩ := takeEntry_keeps hs hrest
      rw [passLoop_of_due hs hde]
      exact ih (y := { y with stamp := q }) hq (by simpa using hd)
    · rw [passLoop_of_head hh]; exact ⟨y.stamp, hy⟩

/-! ### Whole passes -/

/-- What the own notice of another block leaves of a pass: its schedule and its instant. -/
theorem passAround_entries {k : Nat} {n : Option Notice} {s : State} (hh : s.sch.hold.isEmpty = true) :
    ∃ j u, (passAround k n s).sch.entries = (passLoop j u).sch.entries ∧ j = u.sch.entries.length ∧
      u.sch.entries = (passLoop k s).sch.entries ∧ u.now = s.now := by
  have hsome : passSome k s = passLoop k s := by simp [passSome, hh]
  refine ⟨_, postOwn n (passLoop k s), ?_, rfl, by simp, by simp [State.now]⟩
  rw [passAround, hsome, pass, if_pos (by simpa using hh)]

/-- A pass of a RUNNING scheduler leaves no entry due, wherever another notice stands beside it (R50). -/
theorem passAround_none_due {k : Nat} {n : Option Notice} {s : State} (hh : s.sch.hold.isEmpty = true)
    (hp : s.periodsPositive) (h : s.duesRise) : ∀ e ∈ (passAround k n s).sch.entries, s.now < e.due.ticks := by
  obtain ⟨j, u, he, hj, hu, hnow⟩ := passAround_entries (k := k) (n := n) hh
  have hpu : u.periodsPositive := by
    have := passLoop_periods (k := k) hp
    unfold State.periodsPositive at *; rwa [hu]
  have hru : u.duesRise := by
    have := passLoop_duesRise (k := k) h
    unfold State.duesRise at *; rwa [hu]
  rw [he, ← hnow]
  exact passLoop_none_due hpu hru (hj ▸ u.dueCount_le)

/-- Nor does it lose an entry not yet due. -/
theorem passAround_keeps {k : Nat} {n : Option Notice} {y : Entry} {s : State} (hh : s.sch.hold.isEmpty = true)
    (hy : y ∈ s.sch.entries) (hd : s.now < y.due.ticks) :
    ∃ q, { y with stamp := q } ∈ (passAround k n s).sch.entries := by
  obtain ⟨j, u, he, -, hu, hnow⟩ := passAround_entries (k := k) (n := n) hh
  obtain ⟨q, hq⟩ := passLoop_keeps (k := k) hy hd
  obtain ⟨q', hq'⟩ := passLoop_keeps (k := j) (s := u) (hu ▸ hq) (by rw [hnow]; exact hd)
  exact ⟨q', he ▸ hq'⟩

/-! ### The shift of a step -/

/-- A step from `old` to `new` carries the entry past the range (R60). -/
def Entry.lostAt (old new : Nat) (e : Entry) : Bool :=
  decide (e.anchor = .interval) && decide (Instant.top.ticks + old < e.due.ticks + new)

/-- Where such a step leaves the due of the entry (R60). -/
def Entry.dueAt (old new : Nat) (e : Entry) : Nat := if e.anchor = .calendar then e.due.ticks else e.due.ticks + new - old

/-- The entry as such a step leaves it (R60). -/
def Entry.shiftedAt (old new : Nat) (e : Entry) : Entry :=
  if e.anchor = .calendar then e else { e with due := Instant.ofTicks (e.dueAt old new) }

theorem shiftDue_eq (old new due : Nat) :
    shiftDue old new due = if Instant.top.ticks + old < due + new then none else some (due + new - old) := by
  unfold shiftDue
  dsimp only
  by_cases h : Instant.top.ticks + old < due + new
  · rw [if_pos h, if_neg (by omega)]
  · rw [if_neg h, if_pos (by omega)]

theorem discardedEntries_eq (old new : Nat) (es : List Entry) : discardedEntries old new es = es.filter (·.lostAt old new) := by
  unfold discardedEntries
  congr 1
  funext e
  rw [shiftDue_eq, Entry.lostAt]
  split <;> cases e.anchor <;> simp [*]

/-- The shift of the schedule keeps every entry that is not carried past the range (R60). -/
theorem shiftEntries_eq (old new : Nat) (es : List Entry) :
    shiftEntries old new es = (es.filter fun e => !e.lostAt old new).map (·.shiftedAt old new) := by
  induction es with
  | nil => rfl
  | cons e es ih =>
    unfold shiftEntries
    rw [ih, shiftDue_eq]
    cases ha : e.anchor with
    | calendar => simp [Entry.lostAt, Entry.shiftedAt, ha]
    | interval =>
      by_cases hl : Instant.top.ticks + old < e.due.ticks + new
      · simp [Entry.lostAt, ha, hl]
      · simp [Entry.lostAt, Entry.shiftedAt, Entry.dueAt, ha, hl]

@[simp] theorem Entry.shiftedAt_ticks (old new : Nat) (e : Entry) : (e.shiftedAt old new).due.ticks = e.dueAt old new := by
  unfold Entry.shiftedAt
  split
  · simp [Entry.dueAt, *]
  · simp

/-- A shift changes the due alone. -/
theorem Entry.shiftedAt_eq (old new : Nat) (e : Entry) : e.shiftedAt old new = { e with due := (e.shiftedAt old new).due } := by
  unfold Entry.shiftedAt; split <;> rfl

end Sys2Proof.Machine

/-! ## A step -/

namespace Sys2Proof.Machine

theorem pass_eq_passAround (s : State) : pass s = passAround 0 none s := by
  have h0 : passSome 0 s = s := by unfold passSome; split <;> rfl
  rw [passAround, h0]; rfl

/-! ### The notices of discarded entries -/

/-- The notice of a discarded entry with the time generation of the step (R62). -/
def Entry.discardNotice (g : W16) (e : Entry) : Notice :=
  .actionDone { handle := e.handle, label := e.label, outcome := .discarded, final := true, due := e.due, lateness := 0,
                consumed := 0, remaining := e.remaining, generation := g }

/-- The notices that discarded entries give (R62). -/
def discardNotices (g : W16) (es : List Entry) : List Notice := (es.filter (·.notify)).map (·.discardNotice g)

theorem postDiscard_queued (e : Entry) {s : State} (hs : s.lnk.tx ≠ .idle) (hr : s.lnk.notices.length < Config.noticeMax) :
    Queued (discardNotices s.tmb.generation [e]) s (postDiscard e s) := by
  unfold postDiscard
  cases hn : e.notify with
  | false => simpa [discardNotices, hn] using Queued.of_lnk (s := s) rfl
  | true =>
    have hone : discardNotices s.tmb.generation [e] = [e.discardNotice s.tmb.generation] := by simp [discardNotices, hn]
    rw [if_pos rfl, hone]
    exact post_queued hs rfl hr

theorem postDiscards_queued (es : List Entry) {s : State} (hs : s.lnk.tx ≠ .idle)
    (hr : s.lnk.notices.length + es.length ≤ Config.noticeMax) :
    Queued (discardNotices s.tmb.generation es) s (postDiscards es s) := by
  induction es generalizing s with
  | nil => exact .of_lnk rfl
  | cons e es ih =>
    rw [List.length_cons] at hr
    have h1 := postDiscard_queued e hs (by omega)
    have hlen : (discardNotices s.tmb.generation [e]).length ≤ 1 := by simpa [discardNotices] using List.length_filter_le _ [e]
    have h2 := ih (h1.busy hs) (by have := h1.length; omega)
    have hsplit : discardNotices s.tmb.generation (e :: es) =
        discardNotices s.tmb.generation [e] ++ discardNotices (postDiscard e s).tmb.generation es := by
      rw [postDiscard_tmb]
      simp only [discardNotices, ← List.map_append, ← List.filter_append, List.singleton_append]
    rw [hsplit]
    exact h1.trans h2

theorem discardNotices_length (g : W16) (es : List Entry) : (discardNotices g es).length ≤ es.length := by
  simpa [discardNotices] using List.length_filter_le _ es

/-! ### The stages of a step -/

/-- The notices of the discarded entries, with the block's own after `after` of them where there are so many (R62, R173). -/
def postGone (gone : List Entry) (after : Nat) (own : Option Notice) (s : State) : State :=
  postDiscards (gone.drop after)
    (if after < gone.length then postOwn own (postDiscards (gone.take after) s) else postDiscards (gone.take after) s)

/-- The Scheduler with the schedule re-sorted, and NOTIME out of the set where the step sets the validity (R41, R61). -/
def Sch.resorted (c : Sch) (freed : Bool) : Sch :=
  { c with entries := sortEntries c.entries, hold := if freed then c.hold.put .notime false else c.hold }

/-- The state before the pass of a step: shifted, discarded, re-sorted (R60 to R62). -/
def beforePass (old new after : Nat) (own : Option Notice) (freed : Bool) (s : State) : State :=
  let u := postGone (s.sch.entries.filter (·.lostAt old new)) after own
    (s.setSch { s.sch with entries := shiftEntries old new s.sch.entries })
  u.setSch (u.sch.resorted freed)

/-- The Scheduler's part of a step is its shift and a pass, with the own notice in one or the other (R60 to R62, R173). -/
theorem schedStep_eq (old new after : Nat) (own : Option Notice) (freed : Bool) (s : State) :
    let gone := s.sch.entries.filter (·.lostAt old new)
    schedStep old new after own freed s =
      passAround (after - gone.length) (if after < gone.length then none else own) (beforePass old new after own freed s) := by
  dsimp only
  unfold schedStep beforePass postGone
  rw [discardedEntries_eq]
  by_cases h : after < (s.sch.entries.filter (·.lostAt old new)).length
  · simp only [h, decide_true, if_true, Nat.sub_eq_zero_of_le h.le, ← pass_eq_passAround]; rfl
  · simp only [h, decide_false, if_false]; rfl

@[simp] theorem postGone_sch (gone : List Entry) (k : Nat) (n : Option Notice) (s : State) : (postGone gone k n s).sch = s.sch := by
  unfold postGone; split <;> simp
@[simp] theorem postGone_lin (gone : List Entry) (k : Nat) (n : Option Notice) (s : State) : (postGone gone k n s).lin = s.lin := by
  unfold postGone; split <;> simp
@[simp] theorem postGone_tmb (gone : List Entry) (k : Nat) (n : Option Notice) (s : State) : (postGone gone k n s).tmb = s.tmb := by
  unfold postGone; split <;> simp

theorem postGone_queued {gone : List Entry} {k : Nat} {n : Option Notice} {s : State} (hn : ∀ m ∈ n, m.isCapturePending = false)
    (hs : s.lnk.tx ≠ .idle) (hr : s.lnk.notices.length + gone.length + 1 ≤ Config.noticeMax) :
    Queued (discardNotices s.tmb.generation (gone.take k) ++ (if k < gone.length then n.toList else []) ++
      discardNotices s.tmb.generation (gone.drop k)) s (postGone gone k n s) := by
  have htake : (gone.take k).length + (gone.drop k).length = gone.length := by
    rw [← List.length_append, List.take_append_drop]
  have hown : n.toList.length ≤ 1 := by cases n <;> simp
  have h1 := postDiscards_queued (gone.take k) hs (by omega)
  have hl1 := h1.length
  have hd1 := discardNotices_length s.tmb.generation (gone.take k)
  have h2 : Queued (discardNotices s.tmb.generation (gone.take k) ++ (if k < gone.length then n.toList else [])) s
      (if k < gone.length then postOwn n (postDiscards (gone.take k) s) else postDiscards (gone.take k) s) := by
    split
    · exact h1.trans (postOwn_queued (h1.busy hs) hn (by omega))
    · simpa using h1
  have hl2 := h2.length
  have hd2 : (if k < gone.length then n.toList else []).length ≤ 1 := by split <;> simp [hown]
  rw [List.length_append] at hl2
  have hgen : (if k < gone.length then postOwn n (postDiscards (gone.take k) s) else postDiscards (gone.take k) s).tmb = s.tmb := by
    split <;> simp
  have h3 := postDiscards_queued (gone.drop k) (h2.busy hs) (by omega)
  rw [hgen] at h3
  exact h2.trans h3

section
variable (old new k : Nat) (n : Option Notice) (freed : Bool) (s : State)

@[simp] theorem beforePass_sch : (beforePass old new k n freed s).sch =
    { s.sch with entries := sortEntries (shiftEntries old new s.sch.entries)
                 hold := if freed then s.sch.hold.put .notime false else s.sch.hold } := by
  simp [beforePass, Sch.resorted]
@[simp] theorem beforePass_lin : (beforePass old new k n freed s).lin = s.lin := by simp [beforePass]
@[simp] theorem beforePass_tmb : (beforePass old new k n freed s).tmb = s.tmb := by simp [beforePass]

/-- The schedule before the pass: the entries that are not carried past the range, each where the step leaves it (R60, R61). -/
theorem beforePass_entries_perm : (beforePass old new k n freed s).sch.entries.Perm
    ((s.sch.entries.filter fun e => !e.lostAt old new).map (·.shiftedAt old new)) := by
  rw [beforePass_sch, ← shiftEntries_eq]
  exact sortEntries_perm _

theorem mem_beforePass {x : Entry} : x ∈ (beforePass old new k n freed s).sch.entries ↔
    ∃ e ∈ s.sch.entries, e.lostAt old new = false ∧ e.shiftedAt old new = x := by
  rw [(beforePass_entries_perm old new k n freed s).mem_iff]
  simp [and_assoc]

theorem beforePass_sorted : (beforePass old new k n freed s).sch.entries.Pairwise fun a b => a.before b = true := by
  rw [beforePass_sch]; exact sortEntries_sorted _

theorem beforePass_duesRise : (beforePass old new k n freed s).duesRise := by
  refine List.pairwise_map.2 ((beforePass_sorted old new k n freed s).imp fun h => ?_)
  have := Entry.before_iff.1 h
  omega

variable {old new k n freed s}

theorem beforePass_periods (h : s.periodsPositive) : (beforePass old new k n freed s).periodsPositive := by
  intro x hx r hr
  obtain ⟨e, he, -, rfl⟩ := (mem_beforePass old new k n freed s).1 hx
  rw [Entry.shiftedAt_eq] at hr
  exact h e he r hr

end

/-! ### The step itself -/

/-- The TIME-STATE of the operation that makes a step, if it changes the validity (R14). -/
def State.changeNotice (s : State) (new : Instant) : Option ValidityChange → Option Notice
  | none => none
  | some c => stateNotice s.tmb.validity c.target c.cause (s.tmb.stepped new (some c))

/-- The state that a step hands to the Scheduler: the Time Base stepped, TIME-STEP posted, the outlier run at its end (R15, R123). -/
def stepReported (new : Instant) (cause : StepCause) (change : Option ValidityChange) (s : State) : State :=
  refStepEvent (post (.timeStep cause s.tmb.instant new (s.tmb.generation + 1)) (s.setTmb (s.tmb.stepped new change)))

theorem stepWith_eq (new : Instant) (cause : StepCause) (change : Option ValidityChange) (k : Nat) (s : State) :
    stepWith new cause change k s = schedStep s.now new.ticks k (s.changeNotice new change)
      (decide (s.tmb.validity = .unset ∧ (s.tmb.stepped new change).validity ≠ .unset)) (stepReported new cause change s) := by
  cases change <;> rfl

theorem changeNotice_not_capturePending (s : State) (new : Instant) (d : Option ValidityChange) :
    ∀ m ∈ s.changeNotice new d, m.isCapturePending = false := by
  intro m hm
  cases d with
  | none => cases hm
  | some c =>
    rw [State.changeNotice, stateNotice] at hm
    by_cases h : c.target = s.tmb.validity
    · simp [h] at hm
    · rw [if_neg h] at hm
      obtain rfl := Option.some.inj hm
      rfl

@[simp] theorem stepReported_sch (new : Instant) (c : StepCause) (d : Option ValidityChange) (s : State) :
    (stepReported new c d s).sch = s.sch := rfl
@[simp] theorem stepReported_lin (new : Instant) (c : StepCause) (d : Option ValidityChange) (s : State) :
    (stepReported new c d s).lin = s.lin := rfl
@[simp] theorem stepReported_tmb (new : Instant) (c : StepCause) (d : Option ValidityChange) (s : State) :
    (stepReported new c d s).tmb = s.tmb.stepped new d := rfl

/-- The state of a step before its pass. -/
def stepShifted (new : Instant) (cause : StepCause) (change : Option ValidityChange) (k : Nat) (s : State) : State :=
  beforePass s.now new.ticks k (s.changeNotice new change)
    (decide (s.tmb.validity = .unset ∧ (s.tmb.stepped new change).validity ≠ .unset)) (stepReported new cause change s)

section
variable (new : Instant) (cause : StepCause) (change : Option ValidityChange) (after : Nat) (s : State)

/-- A step is its shift and a pass (R60 to R62). -/
theorem stepWith_eq_passAround :
    let gone := s.sch.entries.filter (·.lostAt s.now new.ticks)
    stepWith new cause change after s = passAround (after - gone.length)
      (if after < gone.length then none else s.changeNotice new change) (stepShifted new cause change after s) := by
  dsimp only
  rw [stepWith_eq, schedStep_eq]; rfl

@[simp] theorem stepShifted_lin : (stepShifted new cause change after s).lin = s.lin := by simp [stepShifted]
@[simp] theorem stepShifted_tmb : (stepShifted new cause change after s).tmb = s.tmb.stepped new change := by simp [stepShifted]
@[simp] theorem stepShifted_now : (stepShifted new cause change after s).now = new.ticks := by simp [State.now, Tmb.stepped]
@[simp] theorem stepShifted_stamps : (stepShifted new cause change after s).sch.stamps = s.sch.stamps := by simp [stepShifted]
theorem stepShifted_hold : (stepShifted new cause change after s).sch.hold = (stepWith new cause change after s).sch.hold := by
  rw [stepWith_eq_passAround]; simp

theorem mem_stepShifted {x : Entry} : x ∈ (stepShifted new cause change after s).sch.entries ↔
    ∃ e ∈ s.sch.entries, e.lostAt s.now new.ticks = false ∧ e.shiftedAt s.now new.ticks = x := mem_beforePass ..

variable {new cause change after s}

theorem stepShifted_periods (hp : s.periodsPositive) : (stepShifted new cause change after s).periodsPositive :=
  beforePass_periods (s := stepReported new cause change s) hp

/-- In a HELD scheduler the schedule and the lines of a step are those of its shift (R40, R61). -/
theorem stepWith_of_held (h : (stepWith new cause change after s).sch.hold.isEmpty = false) :
    (stepWith new cause change after s).lin = s.lin ∧
    (stepWith new cause change after s).sch = (stepShifted new cause change after s).sch := by
  rw [← stepShifted_hold] at h
  rw [stepWith_eq_passAround, passAround_of_held h]
  simp

/-- The notices of a step up to its pass (R15, R62, R173). -/
theorem stepShifted_queued (hs : s.lnk.tx ≠ .idle) (hr : s.lnk.notices.length + s.sch.entries.length + 2 ≤ Config.noticeMax) :
    let gone := s.sch.entries.filter (·.lostAt s.now new.ticks)
    let g := s.tmb.generation + 1
    Queued (.timeStep cause s.tmb.instant new g :: (discardNotices g (gone.take after) ++
      (if after < gone.length then (s.changeNotice new change).toList else []) ++ discardNotices g (gone.drop after)))
      s (stepShifted new cause change after s) ∧
    s.lnk.notices ++ [(s.lnk.nextNotice, .timeStep cause s.tmb.instant new g)] <+:
      (stepShifted new cause change after s).lnk.notices := by
  intro gone g
  have hgone : gone.length ≤ s.sch.entries.length := List.length_filter_le _ _
  have hlnk : (stepReported new cause change s).lnk = _ :=
    post_lnk_of_busy (n := .timeStep cause s.tmb.instant new g) (s := s.setTmb (s.tmb.stepped new change)) rfl hs
      (by simp only [State.setTmb_lnk]; omega)
  have h1 : Queued [.timeStep cause s.tmb.instant new g] s (stepReported new cause change s) :=
    ⟨⟨by rw [hlnk]; rfl, by rw [hlnk]; exact List.prefix_append _ _⟩, by rw [hlnk]; simp⟩
  have hl1 := h1.length
  have h2 := postGone_queued (gone := gone) (k := after) (n := s.changeNotice new change)
    (s := (stepReported new cause change s).setSch { s.sch with entries := shiftEntries s.now new.ticks s.sch.entries })
    (changeNotice_not_capturePending s new change) (h1.busy hs)
    (by simp only [State.setSch_lnk, hl1, List.length_singleton]; omega)
  have h3 : Queued _ (stepReported new cause change s) (stepShifted new cause change after s) := ⟨⟨h2.tx, h2.notices⟩, h2.told⟩
  exact ⟨h1.trans h3, by have := h3.notices; rwa [hlnk] at this⟩

/-- The notices of a step (R15, R62, R173). -/
theorem stepWith_queued (hs : s.lnk.tx ≠ .idle) (hr : s.lnk.notices.length + s.sch.entries.length + 2 ≤ Config.noticeMax) :
    let t := stepWith new cause change after s
    let gone := s.sch.entries.filter (·.lostAt s.now new.ticks)
    let told := discardNotices (s.tmb.generation + 1)
    let own := (s.changeNotice new change).toList
    let stepped := Notice.timeStep cause s.tmb.instant new (s.tmb.generation + 1)
    s.lnk.notices ++ [(s.lnk.nextNotice, stepped)] <+: t.lnk.notices ∧
    (t.sch.hold.isEmpty = false → t.lnk.notices.map Prod.snd =
      s.lnk.notices.map Prod.snd ++ stepped :: (told (gone.take after) ++ own ++ told (gone.drop after))) ∧
    (s.lnk.notices.map Prod.snd ++ stepped ::
      (if after < gone.length then told (gone.take after) ++ own ++ told (gone.drop after) else told gone)
        <+: t.lnk.notices.map Prod.snd) := by
  intro t gone told own stepped
  let u := stepShifted new cause change after s
  obtain ⟨hq, hfirst⟩ := stepShifted_queued (new := new) (cause := cause) (change := change) (after := after) hs hr
  replace hq : Queued (stepped :: (told (gone.take after) ++ (if after < gone.length then own else []) ++
    told (gone.drop after))) s u := hq
  have ht : t = passAround (after - gone.length) (if after < gone.length then none else s.changeNotice new change) u :=
    stepWith_eq_passAround new cause change after s
  have hheldAt : t.sch.hold.isEmpty = false → t = postOwn (if after < gone.length then none else s.changeNotice new change) u :=
    fun hheld => by rw [ht, passAround_of_held (by rw [stepShifted_hold]; exact hheld)]
  have hpass : Queues u t := ht ▸ passAround_queues _ _ (hq.busy hs)
  have hall := hpass.notices.map Prod.snd
  refine ⟨hfirst.trans hpass.notices, ?_⟩
  by_cases hlt : after < gone.length
  · rw [if_pos hlt] at hq hheldAt ⊢
    rw [hq.told] at hall
    exact ⟨fun hheld => by rw [hheldAt hheld]; exact hq.told, hall⟩
  · have htake : gone.take after = gone := List.take_of_length_le (Nat.le_of_not_lt hlt)
    have hdrop : told (gone.drop after) = [] := by rw [List.drop_eq_nil_of_le (Nat.le_of_not_lt hlt)]; rfl
    rw [if_neg hlt] at hheldAt ⊢
    rw [if_neg hlt, htake, hdrop, List.append_nil, List.append_nil] at hq
    rw [htake, hdrop, List.append_nil]
    rw [hq.told] at hall
    refine ⟨fun hheld => ?_, hall⟩
    have hroom : u.lnk.notices.length + own.length ≤ Config.noticeMax := by
      have hgone : gone.length ≤ s.sch.entries.length := List.length_filter_le _ _
      have hdisc : (told gone).length ≤ gone.length := discardNotices_length _ gone
      have hown : own.length ≤ 1 := by simp only [own]; cases s.changeNotice new change <;> simp
      have hlen := hq.length
      rw [List.length_cons] at hlen
      omega
    rw [hheldAt hheld, (postOwn_queued (hq.busy hs) (changeNotice_not_capturePending s new change) hroom).told, hq.told,
      List.append_assoc, List.cons_append]

end

/-- Settles O10: the step as its shift and a pass. -/
theorem stepsReplaceTheInstant : Obligations.StepsReplaceTheInstant := by
  intro new cause change after s t v freed shifted lost gone told own stepped
  have hv : (s.tmb.stepped new change).validity = v := by cases change <;> rfl
  have hown : (s.changeNotice new change).toList = own := by
    cases change with
    | none => rfl
    | some c =>
      simp only [State.changeNotice, stateNotice, own]
      split <;> rfl
  have ht : t = passAround (after - gone.length) (if after < gone.length then none else s.changeNotice new change)
    (stepShifted new cause change after s) := stepWith_eq_passAround new cause change after s
  have hhold : t.sch.hold = _ := (stepShifted_hold new cause change after s).symm
  refine ⟨?_, by simp [t], by simp [t], by simp [t], by simp [t], by simp [t], by simp [t], by simp [t], by simp [t], by simp [t],
    by simp [t], by simp [t], ?_, by simp [t], by simp [t], fun n => by simp [t], fun hheld => ?_, fun hrun hp => ?_,
    fun hnone hp => ?_, fun hs hr => ?_⟩
  · rw [← hv]; simp only [t, stepWith_tmb]; rfl
  · simp only [t, stepWith_sch_hold, hv]; rfl
  · obtain ⟨hlin, hsch⟩ := stepWith_of_held hheld
    have hmem : ∀ x, x ∈ t.sch.entries ↔ ∃ e ∈ s.sch.entries, lost e = false ∧ e.shiftedAt s.now new.ticks = x := fun x => by
      rw [hsch]; exact mem_stepShifted new cause change after s
    refine ⟨hlin, fun e he ha => (hmem e).2 ⟨e, he, ?_, ?_⟩, fun e he ha hd => (hmem _).2 ⟨e, he, ?_, ?_⟩, fun x hx => ?_⟩
    · simp [lost, ha]
    · simp [Entry.shiftedAt, ha]
    · simpa [lost, ha] using hd
    · simp [Entry.shiftedAt, Entry.dueAt, ha]
    · obtain ⟨e, he, hl, rfl⟩ := (hmem x).1 hx
      refine ⟨e, he, e.shiftedAt_eq _ _, fun ha => by simp [Entry.shiftedAt, ha], fun ha => ?_⟩
      have hd : ¬Instant.top.ticks + s.now < e.due.ticks + new.ticks := by simpa [lost, ha] using hl
      rw [Entry.shiftedAt_ticks, Entry.dueAt, if_neg (by simp [ha])]
      exact ⟨rfl, by omega⟩
  · rw [hhold] at hrun
    have hpu := stepShifted_periods (new := new) (cause := cause) (change := change) (after := after) hp
    refine ⟨fun e he => ?_, fun e he hl hd => ?_⟩
    · rw [ht] at he
      simpa using passAround_none_due hrun hpu (beforePass_duesRise ..) e he
    · obtain ⟨q, hq⟩ := passAround_keeps (k := after - gone.length)
        (n := if after < gone.length then none else s.changeNotice new change) hrun
        ((mem_stepShifted new cause change after s).2 ⟨e, he, hl, rfl⟩)
        (by rw [stepShifted_now, Entry.shiftedAt_ticks]; exact hd)
      refine ⟨_, ht ▸ hq, ?_, ?_⟩
      · conv_lhs => rw [Entry.shiftedAt_eq]
      · exact e.shiftedAt_ticks _ _
  · have hpu := stepShifted_periods (new := new) (cause := cause) (change := change) (after := after) hp
    have hn : s.changeNotice new change = none := by
      cases h : s.changeNotice new change with
      | none => rfl
      | some n => rw [h, hnone] at hown; cases hown
    refine ⟨stepShifted new cause change after s, ?_, by simp [t], by simp, hhold.symm, by simp, beforePass_sorted .., ?_⟩
    · rw [ht, hn, ite_self, passAround_none hpu]
    · exact beforePass_entries_perm (s := stepReported new cause change s) ..
  · rw [← hown]
    obtain ⟨h1, h2, h3⟩ := stepWith_queued (new := new) (cause := cause) (change := change) (after := after) hs hr
    exact ⟨h1, h2, fun _ => h3⟩

end Sys2Proof.Machine

/-! ## The schedule in order -/

namespace Sys2Proof.Machine

/-- The schedule is in schedule order, no stamp is shared or above the counter, and every repeat has a period above 0
(R25, R28, R29). -/
structure Sch.inOrder (c : Sch) : Prop where
  sorted  : c.entries.Pairwise Entry.precedes
  apart   : (c.entries.map (·.stamp)).Nodup
  issued  : ∀ e ∈ c.entries, e.stamp ≤ c.stamps
  periods : ∀ e ∈ c.entries, ∀ r, e.rep = some r → 0 < r.period

/-! ### Numbering and placing -/

/-- Renumbering from `k` on gives the stamps `k`, `k + 1`, … (R28). -/
theorem restamp_stamps (k : Nat) (es : List Entry) : (restamp k es).map (·.stamp) = List.range' k es.length := by
  induction es generalizing k with
  | nil => rfl
  | cons e es ih => simp [restamp, ih, List.range'_succ]

theorem placeEntry_perm (e : Entry) (es : List Entry) : (placeEntry e es).Perm (e :: es) := by
  obtain ⟨b, a, h1, h2, -, -⟩ := placeEntry_split e es
  rw [h2, h1]
  exact List.perm_middle

/-- In a sorted schedule an entry stands before every entry due later than it (R30). -/
theorem placeEntry_split_sorted (e : Entry) {es : List Entry} (h : es.Pairwise Entry.precedes) :
    ∃ before after, es = before ++ after ∧ placeEntry e es = before ++ e :: after ∧
      (∀ x ∈ before, x.due.ticks ≤ e.due.ticks) ∧ ∀ x ∈ after, e.due.ticks < x.due.ticks := by
  obtain ⟨b, a, h1, h2, hb, hhead⟩ := placeEntry_split e es
  refine ⟨b, a, h1, h2, hb, ?_⟩
  rw [h1] at h
  have ha := (List.pairwise_append.1 h).2.1
  cases a with
  | nil => simp
  | cons y ys =>
    have hy : e.due.ticks < y.due.ticks := hhead y rfl
    intro x hx
    obtain rfl | hx := List.mem_cons.1 hx
    · exact hy
    · have := (List.pairwise_cons.1 ha).1 x hx
      unfold Entry.precedes at this
      omega

/-- An entry with a stamp above all others keeps the order at its place (R29, R30). -/
theorem placeEntry_sorted {e : Entry} {es : List Entry} (h : es.Pairwise Entry.precedes) (hs : ∀ x ∈ es, x.stamp < e.stamp) :
    (placeEntry e es).Pairwise Entry.precedes := by
  obtain ⟨b, a, h1, h2, hb, ha⟩ := placeEntry_split_sorted e h
  subst h1
  rw [h2]
  obtain ⟨hbb, haa, hba⟩ := List.pairwise_append.1 h
  refine List.pairwise_append.2 ⟨hbb, List.pairwise_cons.2 ⟨fun x hx => .inl (ha x hx), haa⟩, fun x hx y hy => ?_⟩
  obtain rfl | hy := List.mem_cons.1 hy
  · have := hb x hx
    have := hs x (List.mem_append_left _ hx)
    unfold Entry.precedes
    omega
  · exact hba x hx y hy

namespace Sch.inOrder

variable {c : Sch}

/-- Fewer entries under the same counter. -/
theorem sublist (h : c.inOrder) {d : Sch} (he : d.entries.Sublist c.entries) (hs : d.stamps = c.stamps) : d.inOrder where
  sorted := h.sorted.sublist he
  apart := h.apart.sublist (he.map _)
  issued e hm := hs ▸ h.issued e (he.subset hm)
  periods e hm := h.periods e (he.subset hm)

theorem duesRise (h : c.inOrder) : (c.entries.map (·.due)).Pairwise fun a b => a.ticks ≤ b.ticks :=
  List.pairwise_map.2 (h.sorted.imp fun hp => by unfold Entry.precedes at hp; omega)

/-- Renumbering keeps the order (R28). -/
theorem readyStamp (h : c.inOrder) : c.readyStamp.inOrder := by
  unfold Sch.readyStamp
  split
  · refine ⟨?_, ?_, fun e he => ?_, fun e he r hr => ?_⟩
    · have hdues := h.duesRise
      rw [← restamp_dues 1 c.entries] at hdues
      have hstamps : ((restamp 1 c.entries).map (·.stamp)).Pairwise (· < ·) := by
        rw [restamp_stamps]; exact List.pairwise_lt_range'
      exact ((List.pairwise_map.1 hdues).and (List.pairwise_map.1 hstamps)).imp fun ⟨hd, hs⟩ => by unfold Entry.precedes; omega
    · change ((restamp 1 c.entries).map (·.stamp)).Nodup
      rw [restamp_stamps]
      exact List.nodup_range'
    · have : e.stamp ∈ (restamp 1 c.entries).map (·.stamp) := List.mem_map_of_mem he
      rw [restamp_stamps, List.mem_range'_1] at this
      change e.stamp ≤ c.entries.length
      omega
    · obtain ⟨y, hy, hey⟩ := mem_restamp he
      exact h.periods y hy r (by rw [hey] at hr; exact hr)
  · exact h

/-- An entry put in its place (R30). -/
theorem enter (h : c.inOrder) {e : Entry} (hp : ∀ r, e.rep = some r → 0 < r.period) : (c.enter e).inOrder := by
  have hr := h.readyStamp
  have hfresh : ∀ x ∈ c.readyStamp.entries, x.stamp < c.readyStamp.stamps + 1 := fun x hx => Nat.lt_succ_of_le (hr.issued x hx)
  refine ⟨placeEntry_sorted hr.sorted hfresh, ?_, fun x hx => ?_, fun x hx r hrep => ?_⟩
  · refine (((placeEntry_perm _ _).map _).nodup_iff).2 (List.nodup_cons.2 ⟨fun hm => ?_, hr.apart⟩)
    obtain ⟨x, hx, he⟩ := List.mem_map.1 hm
    have := hfresh x hx
    dsimp only at he
    omega
  · change x.stamp ≤ c.readyStamp.stamps + 1
    obtain rfl | hx := mem_placeEntry.1 hx
    · exact le_rfl
    · exact (hfresh x hx).le
  · obtain rfl | hx := mem_placeEntry.1 hx
    · exact hp r hrep
    · exact hr.periods x hx r hrep

theorem insertNew (h : c.inOrder) {e : Entry} (hp : ∀ r, e.rep = some r → 0 < r.period) : (c.insertNew e).inOrder :=
  enter (c := { c with lastHandle := c.newHandle }) ⟨h.sorted, h.apart, h.issued, h.periods⟩ hp

/-- The re-sort of a shifted schedule (R60, R61). -/
theorem shifted (h : c.inOrder) (old new : Nat) (hold : HoldSet) :
    ({ c with entries := sortEntries (shiftEntries old new c.entries), hold := hold } : Sch).inOrder := by
  have hperm := sortEntries_perm (shiftEntries old new c.entries)
  have hkept : ∀ x ∈ sortEntries (shiftEntries old new c.entries), ∃ e ∈ c.entries, x = { e with due := x.due } := by
    intro x hx
    rw [hperm.mem_iff, shiftEntries_eq] at hx
    obtain ⟨e, he, rfl⟩ := List.mem_map.1 hx
    exact ⟨e, List.mem_of_mem_filter he, Entry.shiftedAt_eq old new e⟩
  have hapart : ((sortEntries (shiftEntries old new c.entries)).map (·.stamp)).Nodup := by
    refine ((hperm.map _).nodup_iff).2 ?_
    rw [shiftEntries_eq, List.map_map]
    have hfun : ((fun e : Entry => e.stamp) ∘ fun e : Entry => e.shiftedAt old new) = fun e : Entry => e.stamp := by
      funext e
      rw [Function.comp_apply, Entry.shiftedAt_eq]
    rw [hfun]
    exact h.apart.sublist (List.filter_sublist.map _)
  refine ⟨?_, hapart, fun x hx => ?_, fun x hx r hr => ?_⟩
  · refine ((sortEntries_sorted _).and (List.pairwise_map.1 hapart)).imp fun ⟨hb, hne⟩ => ?_
    have := Entry.before_iff.1 hb
    unfold Entry.precedes
    omega
  · obtain ⟨e, he, hxe⟩ := hkept x hx
    rw [hxe]
    exact h.issued e he
  · obtain ⟨e, he, hxe⟩ := hkept x hx
    exact h.periods e he r (by rw [hxe] at hr; exact hr)

end Sch.inOrder

/-! ### Passes -/

section
variable {s : State}

theorem takeEntry_inOrder {e : Entry} {rest : List Entry} (hs : s.sch.entries = e :: rest) (h : s.sch.inOrder) :
    (takeEntry e s).sch.inOrder := by
  have hpop : s.sch.popped.inOrder := h.sublist (List.tail_sublist _) rfl
  obtain ⟨out, hsch⟩ := takeEntry_sch e s
  rw [hsch]
  cases (e.consume (s.now - e.due.ticks)).nextDue with
  | none => exact hpop
  | some due => exact hpop.enter (h.periods e (by simp [hs]))

theorem passLoop_inOrder (k : Nat) (h : s.sch.inOrder) : (passLoop k s).sch.inOrder := by
  induction k generalizing s with
  | zero => exact h
  | succ k ih =>
    obtain ⟨e, rest, hs, hd⟩ | hh := head_cases s
    · rw [passLoop_of_due hs hd]; exact ih (takeEntry_inOrder hs h)
    · rwa [passLoop_of_head hh]

theorem passSome_inOrder (k : Nat) (h : s.sch.inOrder) : (passSome k s).sch.inOrder := by
  unfold passSome
  split
  · exact passLoop_inOrder k h
  · exact h

theorem passAround_inOrder (k : Nat) (n : Option Notice) (h : s.sch.inOrder) : (passAround k n s).sch.inOrder :=
  passSome_inOrder _ (by rw [postOwn_sch]; exact passSome_inOrder k h)

/-- A RUNNING scheduler holds no entry whose due has come (R50, R61). -/
def State.noneDue (s : State) : Prop := s.sch.hold.isEmpty = true → ∀ e ∈ s.sch.entries, s.now < e.due.ticks

/-- A pass of a schedule in order leaves nothing due in a RUNNING scheduler (R50). -/
theorem passAround_noneDue (k : Nat) (n : Option Notice) (h : s.sch.inOrder) : (passAround k n s).noneDue := by
  intro hh
  have hnow : (passAround k n s).now = s.now := by simp [State.now]
  rw [hnow]
  exact passAround_none_due (by simpa using hh) h.periods h.duesRise

end

end Sys2Proof.Machine

/-! ## Properties of the schedule, of the configurations that it names, and of a running load -/

namespace Sys2Proof.Machine

/-- Every trigger of `v` has the definition that the trigger with its id has in `s`. -/
def State.defines (s : State) (v : Vector (Option Trigger) 8) : Prop :=
  ∀ (n : TrigNo) x, v[n] = some x → ∃ y, s.trg[n] = some y ∧ x.defn = y.defn

/-- Every line of `v` has the configuration that it has in `s`. -/
def State.configures (s : State) (v : Vector Line 16) : Prop := ∀ n : LineNo, (v[n]).config = (s.lin[n]).config

/-- A property that looks at no more than the schedule with its hold reasons, the instant, the configurations of the lines, the
definitions of the triggers, the reference line and the running load. It may ask for the checks of the requests that insert,
configure and define, and for the validation of a slot; it is kept when entries or triggers go, and by the operations of the
time base and the Scheduler that end in a pass. -/
structure Configured (P : State → Prop) : Prop where
  lnk      : ∀ {s} x, P s → P (s.setLnk x)
  cap      : ∀ {s} x, P s → P (s.setCap x)
  lsm      : ∀ {s} x, P s → P (s.setLsm x)
  flash    : ∀ {s} x, P s → P (s.setFlash x)
  straps   : ∀ {s} x, P s → P (s.setStraps x)
  draws    : ∀ {s} x, P s → P (s.setDraws x)
  owed     : ∀ {s} x, P s → P (s.setOwed x)
  tmb      : ∀ {s} x, x.instant = s.tmb.instant → P s → P (s.setTmb x)
  lines    : ∀ {s} v, s.configures v → P s → P (s.setLin v)
  trg      : ∀ {s} v, s.defines v → P s → P (s.setTrg v)
  rds      : ∀ {s} x, x.line = s.rds.line → P s → P (s.setRds x)
  prs      : ∀ {s} x, x.job = s.prs.job ∨ (s.setPrs x).applying = false → P s → P (s.setPrs x)
  sch      : ∀ {s} c, c.entries.Sublist s.sch.entries → c.stamps = s.sch.stamps →
               (c.hold.isEmpty = true → s.sch.hold.isEmpty = true) → P s → P (s.setSch c)
  removal  : ∀ {s} r, P s → P (removeReason r s)
  validity : ∀ {s} v c k, P s → P (setValidity v c k s)
  step     : ∀ {s} new c d k, P s → P (stepWith new c d k s)
  advance  : ∀ {s} k, P s → P (advanceInstant k s)
  reset    : ∀ {s} c, P s → P (mainReset c s)
  fires    : ∀ {s u n t due}, s.trg[n] = some t → insertTriggerEntry n due t.defn.template s = some u → P s → P u
  adds     : ∀ {s p e}, s.loading = false → readActAdd p s.now = some e → e.rolesFit s = true → P s → P (insertAndPass e s)
  places   : ∀ {s n c}, s.loading = false → ¬(c.role = .reference ∧ s.otherReference n = true) → s.lineInUse n c.role = false →
               P s → P (configureLine n c s)
  sets     : ∀ {s n d}, s.loading = false → d.rolesFit s = true → P s → P (s.setTrigger n (some (Trigger.ofDef d)))
  begins   : ∀ {s m slot v} su slot' fb, validateSlot m slot = some v → P s → P (beginApply su slot' v fb s)
  stage    : ∀ {s}, P s → P (loadStep s)

/-! ### What changes no definition and no configuration -/

theorem State.defines_set {s : State} {n : TrigNo} {x : Option Trigger}
    (h : ∀ t, x = some t → ∃ y, s.trg[n] = some y ∧ t.defn = y.defn) : s.defines (s.trg.set n x) := by
  intro m t ht
  by_cases e : n = m
  · subst e
    exact h t (by simpa using ht)
  · have hne : (n : Nat) ≠ m := fun h => e (Fin.ext h)
    exact ⟨t, by simpa [Vector.getElem_set, hne] using ht, rfl⟩

theorem State.configures_set {s : State} {n : LineNo} {l : Line} (h : l.config = (s.lin[n]).config) :
    s.configures (s.lin.set n l) := by
  intro m
  by_cases e : n = m
  · subst e; simpa using h
  · have hne : (n : Nat) ≠ m := fun h => e (Fin.ext h)
    simp [hne]

@[simp] theorem Trigger.afterFiring_defn (t : Trigger) : t.afterFiring.defn = t.defn := by
  unfold Trigger.afterFiring
  dsimp only
  split
  · rfl
  · split <;> rfl

@[simp] theorem Trigger.tick_defn (t : Trigger) : t.tick.defn = t.defn := by
  unfold Trigger.tick
  split
  · split <;> rfl
  all_goals rfl

theorem insertTriggerEntry_trg {n : TrigNo} {due : Nat} {p : Template} {s u : State}
    (h : insertTriggerEntry n due p s = some u) : u.trg = s.trg := by
  unfold insertTriggerEntry at h
  split at h
  · cases h
  · cases h; simp

namespace Configured

variable {P : State → Prop} (hP : Configured P) {s : State}
include hP

theorem post (n : Notice) (hs : P s) : P (post n s) := hP.lnk _ hs

theorem setLine (n : LineNo) {l : Line} (h : l.config = (s.lin[n]).config) (hs : P s) : P (s.setLine n l) :=
  hP.lines _ (State.configures_set h) hs

theorem setTrigger {n : TrigNo} {x : Option Trigger} (h : ∀ t, x = some t → ∃ y, s.trg[n] = some y ∧ t.defn = y.defn)
    (hs : P s) : P (s.setTrigger n x) := hP.trg _ (State.defines_set h) hs

theorem claimLines (set : W16) (c : Claim) (hs : P s) : P (claimLines set c s) := by
  refine hP.lines _ (fun n => ?_) hs
  simp only [Fin.getElem_fin, Vector.getElem_ofFn]
  split <;> rfl

theorem addReason (r : HoldReason) (hs : P s) : P (addReason r s) := by
  refine hP.sch _ (List.Sublist.refl _) rfl (fun h => ?_) hs
  revert h
  cases r <;> simp [HoldSet.put, HoldSet.isEmpty]

/-! ### The Capture Log and the Trigger Table -/

theorem pendingAfterStore (hs : P s) : P (pendingAfterStore s) := by
  unfold Machine.pendingAfterStore
  split
  · exact hP.post _ (hP.cap _ hs)
  · exact hs

theorem captureEdge (e : EdgeReport) (hs : P s) : P (captureEdge e s) := by
  unfold Machine.captureEdge
  dsimp only
  split
  · exact hP.pendingAfterStore (hP.cap _ hs)
  · split
    · exact hP.cap _ hs
    · exact hP.pendingAfterStore (hP.cap _ hs)

theorem edgeToLog (e : EdgeReport) (hs : P s) : P (edgeToLog e s) := by
  unfold Machine.edgeToLog
  split
  · exact hP.captureEdge e hs
  · exact hs

theorem installCaptureConfig (p : CapPolicy) (m : Nat) (hs : P s) : P (installCaptureConfig p m s) := by
  have h1 : P (s.setCap { s.cap with policy := p, mark := m }) := hP.cap _ hs
  unfold Machine.installCaptureConfig
  dsimp only
  split
  · exact hP.cap _ h1
  · split
    · exact hP.post _ (hP.cap _ h1)
    · exact h1

/-- A firing changes the counts of the trigger, not its definition (R102, R103). -/
theorem fireTrigger {n : TrigNo} {t : Trigger} (ht : s.trg[n] = some t) (e : EdgeReport) (hs : P s) :
    P (fireTrigger n t e s) := by
  unfold Machine.fireTrigger
  split
  · rename_i u hu
    have h2 : P (u.setTrigger n (some t.afterFiring)) := by
      refine hP.setTrigger ?_ (hP.fires ht hu hs)
      rintro _ ⟨⟩
      exact ⟨t, by rw [insertTriggerEntry_trg hu]; exact ht, t.afterFiring_defn⟩
    dsimp only
    split
    · exact hP.post _ h2
    · exact h2
  · refine hP.post _ (hP.setTrigger ?_ hs)
    rintro _ ⟨⟩
    exact ⟨t, ht, rfl⟩

theorem offerEdge (e : EdgeReport) (n : TrigNo) (hs : P s) : P (offerEdge e n s) := by
  unfold Machine.offerEdge
  split
  · exact hs
  · rename_i t ht
    split
    · exact hP.fireTrigger ht e hs
    · exact hs

theorem handToTriggers (e : EdgeReport) (order : EdgeOrder) (hs : P s) : P (handToTriggers e order s) := by
  refine foldl_keeps (f := fun x n => Machine.offerEdge e n (logAt n e order x)) (fun n u hu => hP.offerEdge e n ?_) _ s hs
  unfold logAt
  split
  · exact hP.edgeToLog e hu
  · exact hu

theorem triggerTick (t : TrigNo) (hs : P s) : P (triggerTick t s) := by
  refine hP.setTrigger (fun x hx => ?_) hs
  obtain ⟨y, hy, rfl⟩ := Option.map_eq_some_iff.1 hx
  exact ⟨y, hy, y.tick_defn⟩

/-! ### The Reference Discipline -/

theorem claimHoldover (c : ValidityCause) (hs : P s) : P (claimHoldover c s) := by
  unfold Machine.claimHoldover
  split
  · exact hP.validity _ _ _ hs
  · exact hs

theorem steerAccepted (offset : Int) (hs : P s) : P (steerAccepted offset s) := by
  have h1 : P (s.setRds { s.rds with run := 0 }) := hP.rds _ (by rfl) hs
  have h2 : P (claimSlew (correctionOf offset) (s.setRds { s.rds with run := 0 })) := by
    unfold claimSlew
    split
    · exact h1
    · exact hP.tmb _ (by rfl) h1
  unfold Machine.steerAccepted claimTracking
  split
  · exact h2
  · exact hP.validity _ _ _ h2

theorem steerOutlier (offset : Int) (k : Nat) (hs : P s) : P (steerOutlier offset k s).1 := by
  have h1 : P (s.setRds { s.rds with run := s.rds.run + 1 }) := hP.rds _ (by rfl) hs
  have h2 : P (claimStep (correctionOf offset) k (s.setRds { s.rds with run := s.rds.run + 1 })) := by
    unfold claimStep
    split
    · exact h1
    · exact hP.step _ _ _ _ h1
  unfold Machine.steerOutlier
  dsimp only
  split
  · exact h1
  · exact hP.rds _ (by rfl) h2

theorem settleSample (offset : Int) (g : W16) (k : Nat) (hs : P s) : P (settleSample offset g k s).1 := by
  unfold Machine.settleSample
  split
  · exact hs
  · split
    · split
      · exact hP.steerAccepted offset hs
      · exact hP.steerOutlier offset k hs
    all_goals exact hs

theorem referenceEdge (e : EdgeReport) (k : Nat) (hs : P s) : P (referenceEdge e k s) := by
  unfold Machine.referenceEdge
  split
  · exact hs
  · exact hP.rds _ (by rfl) (hP.settleSample _ _ _ (hP.rds _ (by rfl) hs))

theorem referenceTick (hs : P s) : P (referenceTick s) := by
  have h1 : P (s.setRds { s.rds with count := s.rds.counted }) := hP.rds _ (by rfl) hs
  unfold Machine.referenceTick
  dsimp only
  split
  · unfold declareLoss
    dsimp only
    refine hP.post _ ?_
    have h2 : P ((s.setRds { s.rds with count := s.rds.counted }).setRds
        { (s.setRds { s.rds with count := s.rds.counted }).rds with state := .lost, run := 0 }) := hP.rds _ (by rfl) h1
    split
    · exact hP.claimHoldover _ h2
    · exact h2
  · exact h1

theorem installRefConfig (c : RefConfig) (hs : P s) : P (installRefConfig c s) := by
  unfold Machine.installRefConfig
  dsimp only
  refine hP.rds _ (by split_ifs <;> rfl) ?_
  split
  · exact hP.claimHoldover _ hs
  · exact hs

/-! ### The Line Unit -/

theorem handOn (e : EdgeReport) (order : EdgeOrder) (hs : P s) : P (handOn e order s) := by
  unfold Machine.handOn
  split
  · have h1 := hP.handToTriggers e order hs
    dsimp only
    split
    · exact hP.edgeToLog e h1
    · exact h1
  · split
    · exact hP.referenceEdge e _ (hP.edgeToLog e hs)
    · exact hP.edgeToLog e (hP.referenceEdge e _ hs)
  all_goals exact hP.edgeToLog e hs

theorem acceptRun (n : LineNo) (order : EdgeOrder) (hs : P s) : P (acceptRun n order s) := by
  unfold Machine.acceptRun
  split
  · exact hs
  · exact hP.handOn _ order (hP.setLine n (by rfl) hs)

theorem sampleLine (n : LineNo) (f : Filter) (hs : P s) : P (sampleLine n f s) := hP.draws _ (hP.setLine n (by rfl) hs)

theorem lineTick (n : LineNo) (accept : Option EdgeOrder) (hs : P s) : P (lineTick n accept s) := by
  unfold Machine.lineTick
  split
  · split
    · exact hP.sampleLine n _ hs
    · exact hP.acceptRun n _ (hP.sampleLine n _ hs)
  · exact hP.setLine n (by rfl) hs

theorem changePin (pin : Pin) (drive : PinDrive) (hs : P s) : P (changePin pin drive s) := by
  unfold Machine.changePin
  split
  · exact hP.setLine _ (by rfl) hs
  · exact hP.setLine _ (by rfl) hs
  · exact hP.straps _ hs
  · exact hP.straps _ hs
  · exact hP.flash _ hs
  all_goals exact hs

/-! ### The lease and the tick -/

theorem leaseTick (hs : P s) : P (leaseTick s) := by
  have hexp : P (expireLease s) := by
    have h1 : P (s.setLsm { s.lsm with state := .expired, count := s.lsm.limit }) := hP.lsm _ hs
    unfold expireLease applyFallback claimSafe
    refine hP.post _ ?_
    split
    · exact h1
    · exact h1
    · exact hP.addReason _ h1
    · exact hP.claimLines _ _ h1
    · exact hP.claimLines _ _ (hP.addReason _ h1)
  unfold Machine.leaseTick
  split
  · split
    · dsimp only
      split
      · exact hP.reset _ hexp
      · exact hexp
    · exact hP.lsm _ hs
  all_goals exact hs

theorem doPart (p : TickPart) (hs : P s) : P (doPart p s) := by
  cases p with
  | advance k => exact hP.advance k hs
  | line n accept => exact hP.lineTick n accept hs
  | trigger t => exact hP.triggerTick t hs
  | reference => exact hP.referenceTick hs
  | lease => exact hP.leaseTick hs

/-! ### The Profile Store -/

/-- A job that applies no slot. -/
theorem setJob {j : PrsJob} (hj : ∀ su slot gen fb st i d, j ≠ .loading su (.applying slot gen fb st i d)) (hs : P s) :
    P (s.setJob j) := by
  refine hP.prs _ (.inr ?_) hs
  change State.applying (s.setJob j) = false
  unfold State.applying
  split
  · rename_i h; exact absurd h (hj _ _ _ _ _ _ _)
  · rfl

theorem setDesc (slot : Slot) (d : Descriptor) (hs : P s) : P (s.setDesc slot d) := by
  cases slot <;> exact hP.prs _ (.inl rfl) hs

theorem recordSlot (slot : Slot) (hs : P s) : P (recordSlot slot s) := hP.setDesc slot _ hs

theorem finishCommand (hs : P s) : P (finishCommand s) := by
  unfold Machine.finishCommand
  split
  · exact hs
  · exact hP.flash _ hs

theorem cutCommand (hs : P s) : P (cutCommand s) := by
  unfold Machine.cutCommand
  split
  · exact hs
  · exact hP.draws _ (hP.flash _ hs)

theorem endOperation (body : ProfileDone) (hs : P s) : P (endOperation body s) := hP.post _ (hP.prs _ (.inr rfl) hs)

theorem endLoad (body : ProfileDone) (hs : P s) : P (endLoad body s) :=
  hP.post _ (hP.removal _ (hP.setJob (by simp) hs))

theorem saveErased (hs : P s) : P (saveErased s) := by
  unfold Machine.saveErased
  split
  · split
    · exact hs
    · exact hP.setJob (by simp) (hP.finishCommand hs)
  · exact hs

theorem pageProgrammed (flaws : List (Fin 256 × Byte)) (hs : P s) : P (pageProgrammed flaws s) := by
  unfold Machine.pageProgrammed
  split
  · have h2 : ∀ m, P ((Machine.finishCommand s).setCells m) := fun _ => hP.flash _ (hP.finishCommand hs)
    dsimp only
    split <;> exact hP.setJob (by simp) (h2 _)
  · exact hs

theorem saveVerified (hs : P s) : P (saveVerified s) := by
  unfold Machine.saveVerified succeedSave
  split
  · split
    · split
      · exact hs
      · exact hP.endOperation _ (hP.setDesc _ _ hs)
    · exact hP.setJob (by simp) hs
  · exact hs

theorem recoveryErased (hs : P s) : P (recoveryErased s) := by
  unfold Machine.recoveryErased
  split
  · exact hP.endOperation _ (hP.finishCommand hs)
  · exact hs

theorem slotErased (hs : P s) : P (slotErased s) := by
  unfold Machine.slotErased
  split
  · exact hP.prs _ (.inr rfl) (hP.finishCommand hs)
  · exact hP.endOperation _ (hP.finishCommand hs)
  · exact hs

theorem flashTimedOut (hs : P s) : P (flashTimedOut s) := by
  have hc := hP.cutCommand hs
  unfold Machine.flashTimedOut
  split
  · exact hP.endOperation _ hc
  · split
    · exact hP.setJob (by simp) hc
    · exact hP.endOperation _ hc
  · exact hP.endOperation _ hc
  · exact hP.endOperation _ (hP.setDesc _ _ hc)
  · exact hP.endOperation _ hc
  all_goals exact hs

theorem scanned (hs : P s) : P (scanned s) := by
  unfold Machine.scanned
  split
  · exact hP.post _ (hP.setJob (by simp) (hP.recordSlot .b (hP.recordSlot .a hs)))
  · exact hs

theorem startUpValidated (hs : P s) : P (startUpValidated s) := by
  have hr := hP.recordSlot .b (hP.recordSlot .a hs)
  unfold Machine.startUpValidated
  dsimp only
  split
  · exact hP.endLoad _ hr
  · split
    · exact hr
    · exact hP.begins _ _ _ ‹_› hr

theorem requestedValidated (hs : P s) : P (requestedValidated s) := by
  have hr := hP.recordSlot (rankedFirst s.flash.cells) hs
  unfold Machine.requestedValidated
  dsimp only
  split
  · exact hP.begins _ _ _ ‹_› hr
  · split
    · exact hP.begins _ _ _ ‹_› (hP.recordSlot _ hr)
    · exact hP.endLoad _ (hP.recordSlot _ hr)

/-! ### The requests -/

theorem without (p : Entry → Bool) (hs : P s) : P (s.setSch (s.sch.without p)) :=
  hP.sch _ List.filter_sublist rfl id hs

/-- A present trigger is armed, disarmed or cleared (R107, R108). -/
theorem named {id : Byte} {t : TrigNo} {x : Trigger} (h : s.namedTrigger id = .ok (t, x)) {y : Option Trigger}
    (hy : ∀ z, y = some z → z.defn = x.defn) (hs : P s) : P (s.setTrigger t y) := by
  refine hP.setTrigger (fun z hz => ⟨x, ?_, hy z hz⟩) hs
  unfold State.namedTrigger at h
  split at h
  · cases h
  · split at h
    · cases h
    · split at h
      · cases h
      · cases h; assumption

theorem answerTimeAdjust (mode : Byte) (v : W32) (hs : P s) : P (answerTimeAdjust mode v s).state := by
  unfold Machine.answerTimeAdjust
  split
  · dsimp only [answerAdjustStep]
    repeat' split
    any_goals exact hs
    exact hP.step _ _ _ _ hs
  · unfold answerAdjustSlew
    repeat' split
    any_goals exact hs
    exact hP.tmb _ (by rfl) hs
  · exact hs

theorem answerTimeClear (hs : P s) : P (answerTimeClear s).state := by
  dsimp only [Machine.answerTimeClear, Answer.ok]
  split
  · exact hs
  · exact hP.validity _ _ _ (hP.tmb _ (by rfl) hs)

/-- The requests of the Profile Store. -/
theorem answerProfSave (hs : P s) : P (answerProfSave s).state := by
  unfold Machine.answerProfSave
  repeat' split
  any_goals exact hs
  exact hP.prs _ (.inr rfl) (hP.setDesc _ _ hs)

theorem answerProfLoad (hs : P s) : P (answerProfLoad s).state := by
  unfold Machine.answerProfLoad
  repeat' split
  any_goals exact hs
  exact hP.addReason _ (hP.setJob (by simp) hs)

theorem answerProfErase (hs : P s) : P (answerProfErase s).state := by
  unfold Machine.answerProfErase
  split
  · exact hs
  · exact hP.prs _ (.inr rfl) hs

/-- Every request: its refusals change nothing, and what it does otherwise is kept. -/
theorem answer (r : Request) (k : Nat) (hs : P s) : P (answer r k s).state := by
  unfold Machine.answer
  cases r with
  | ident | restart | timeRead | actList _ | schedStatus | capRead | trgStatus | refStatus | profStatus | leaseStatus => exact hs
  | timeAdjust mode v => exact hP.answerTimeAdjust mode v hs
  | timeClear => exact hP.answerTimeClear hs
  | profSave => exact hP.answerProfSave hs
  | profLoad => exact hP.answerProfLoad hs
  | profErase => exact hP.answerProfErase hs
  | profLock => exact hP.prs _ (.inl rfl) hs
  | capAck serial => exact hP.cap _ hs
  | schedHold => exact hP.addReason _ hs
  | schedRelease => exact hP.removal _ hs
  | linkStatus clear => cases clear with
    | false => exact hs
    | true => exact hP.lnk _ hs
  | lineStatus clear => cases clear with
    | false => exact hP.draws _ hs
    | true => exact hP.draws _ (hP.lines _ (fun n => by simp) hs)
  | timeSet form =>
    dsimp only [answerTimeSet]
    split
    · exact hs
    · exact hP.step _ _ _ _ hs
  | trimSet v =>
    dsimp only [answerTrimSet]
    split
    · exact hs
    · exact hP.tmb _ (by rfl) hs
  | actAdd p =>
    dsimp only [answerActAdd]
    repeat' split
    any_goals exact hs
    exact hP.adds (by simp_all) ‹_› (by simp_all) hs
  | actCancel handle =>
    dsimp only [answerActCancel]
    repeat' split
    any_goals exact hs
    exact hP.without _ hs
  | actPurge lines origins =>
    dsimp only [answerActPurge]
    repeat' split
    any_goals exact hs
    exact hP.without _ hs
  | actGet handle =>
    dsimp only [answerActGet]
    split <;> exact hs
  | schedConfig tolerance =>
    dsimp only [answerSchedConfig]
    repeat' split
    any_goals exact hs
    exact hP.sch _ (List.Sublist.refl _) rfl id hs
  | lineConfig line rec =>
    dsimp only [answerLineConfig]
    repeat' split
    any_goals exact hs
    exact hP.places (by simp_all) ‹_› (by simp_all) hs
  | lineDrive lines action width =>
    dsimp only [answerLineDrive]
    repeat' split
    any_goals exact hs
    exact hP.claimLines _ _ hs
  | capConfig policy mark =>
    dsimp only [answerCapConfig]
    repeat' split
    any_goals exact hs
    exact hP.installCaptureConfig _ _ hs
  | trgSet p =>
    dsimp only [answerTrgSet]
    repeat' split
    any_goals exact hs
    exact hP.sets (by simp_all) ‹_› hs
  | trgArm id count =>
    dsimp only [answerTrgArm]
    split
    · exact hs
    · exact hP.named ‹_› (by rintro _ ⟨⟩; rfl) hs
  | trgDisarm id =>
    dsimp only [answerTrgDisarm]
    split
    · exact hs
    · exact hP.named ‹_› (by rintro _ ⟨⟩; rfl) hs
  | trgClear id =>
    dsimp only [answerTrgClear]
    split
    · exact hs
    · exact hP.named ‹_› (by rintro _ ⟨⟩) hs
  | refConfig p =>
    dsimp only [answerRefConfig]
    repeat' split
    any_goals exact hs
    exact hP.installRefConfig _ hs
  | leaseConfig p f =>
    dsimp only [answerLeaseConfig]
    repeat' split
    any_goals exact hs
    exact hP.lsm _ hs
  | leaseResume =>
    dsimp only [answerLeaseResume]
    split
    · exact hP.removal _ (hP.lsm _ hs)
    · exact hs

/-- Such a property is kept by every operation. -/
theorem kept : Kept P where
  link _ _ := hP.lnk _
  renew _ := hP.lsm _
  answer r k _ := hP.answer r k
  reset c _ := hP.reset c
  pins _ _ hs := hP.flash _ (hP.straps _ hs)
  pin pin drive _ := hP.changePin pin drive
  owed _ _ := hP.owed _
  draw _ := hP.draws _
  elapsed _ _ := hP.tmb _ (by rfl)
  part p _ := hP.doPart p
  accept n order _ := hP.acceptRun n order
  scanned _ := hP.scanned
  startUp _ _ := hP.startUpValidated
  requested _ _ := hP.requestedValidated
  stage _ := hP.stage
  erased _ := hP.saveErased
  page flaws _ := hP.pageProgrammed flaws
  verified _ := hP.saveVerified
  timeout _ := hP.flashTimedOut
  recovered _ := hP.recoveryErased
  slot _ := hP.slotErased

end Configured

end Sys2Proof.Machine

/-! ## The configuration of a line, block by block -/

namespace Sys2Proof.Machine

/-! ### HOLDOVER, and the reference line -/

section
variable (c : ValidityCause) (s : State)

@[simp] theorem claimHoldover_sch : (claimHoldover c s).sch = s.sch := by
  unfold claimHoldover
  split
  · rename_i h
    unfold setValidity
    simp [h]
  · rfl
@[simp] theorem claimHoldover_trg : (claimHoldover c s).trg = s.trg := by unfold claimHoldover; split <;> simp
@[simp] theorem claimHoldover_rds : (claimHoldover c s).rds = s.rds := by unfold claimHoldover; split <;> simp
@[simp] theorem claimHoldover_prs : (claimHoldover c s).prs = s.prs := by unfold claimHoldover; split <;> simp
@[simp] theorem claimHoldover_instant : (claimHoldover c s).tmb.instant = s.tmb.instant := by
  unfold claimHoldover; split <;> simp
@[simp] theorem claimHoldover_lin : (claimHoldover c s).lin = s.lin := by
  unfold claimHoldover
  split
  · rename_i h
    unfold setValidity
    simp [h]
  · rfl

@[simp] theorem refRemoved_sch : (refRemoved s).sch = s.sch := by unfold refRemoved; dsimp only; split <;> simp
@[simp] theorem refRemoved_trg : (refRemoved s).trg = s.trg := by unfold refRemoved; dsimp only; split <;> simp
@[simp] theorem refRemoved_prs : (refRemoved s).prs = s.prs := by unfold refRemoved; dsimp only; split <;> simp
@[simp] theorem refRemoved_lin : (refRemoved s).lin = s.lin := by unfold refRemoved; dsimp only; split <;> simp
@[simp] theorem refRemoved_instant : (refRemoved s).tmb.instant = s.tmb.instant := by
  unfold refRemoved; dsimp only; split <;> simp
@[simp] theorem refRemoved_rds_line : (refRemoved s).rds.line = none := by unfold refRemoved; dsimp only; split <;> simp

variable (n : LineNo)

@[simp] theorem refAssigned_sch : (refAssigned n s).sch = s.sch := by unfold refAssigned; split <;> rfl
@[simp] theorem refAssigned_trg : (refAssigned n s).trg = s.trg := by unfold refAssigned; split <;> rfl
@[simp] theorem refAssigned_prs : (refAssigned n s).prs = s.prs := by unfold refAssigned; split <;> rfl
@[simp] theorem refAssigned_lin : (refAssigned n s).lin = s.lin := by unfold refAssigned; split <;> rfl
@[simp] theorem refAssigned_tmb : (refAssigned n s).tmb = s.tmb := by unfold refAssigned; split <;> rfl
@[simp] theorem refAssigned_rds_line : (refAssigned n s).rds.line = some n := by unfold refAssigned; split <;> rfl

@[simp] theorem restartFilter_sch : (restartFilter n s).sch = s.sch := by unfold restartFilter; split <;> rfl
@[simp] theorem restartFilter_trg : (restartFilter n s).trg = s.trg := by unfold restartFilter; split <;> rfl
@[simp] theorem restartFilter_prs : (restartFilter n s).prs = s.prs := by unfold restartFilter; split <;> rfl
@[simp] theorem restartFilter_tmb : (restartFilter n s).tmb = s.tmb := by unfold restartFilter; split <;> rfl
@[simp] theorem restartFilter_rds : (restartFilter n s).rds = s.rds := by unfold restartFilter; split <;> rfl
theorem restartFilter_configures : s.configures (restartFilter n s).lin := by
  unfold restartFilter
  split
  · exact State.configures_set rfl
  · exact fun _ => rfl

end

/-! ### The installation of a configuration (R72, R86) -/

section
variable (n : LineNo) (c : LineConfig) (s : State)

@[simp] theorem configureLine_sch : (configureLine n c s).sch = s.sch := by
  unfold configureLine; dsimp only; split_ifs <;> simp [State.setLine]
@[simp] theorem configureLine_trg : (configureLine n c s).trg = s.trg := by
  unfold configureLine; dsimp only; split_ifs <;> simp [State.setLine]
@[simp] theorem configureLine_prs : (configureLine n c s).prs = s.prs := by
  unfold configureLine; dsimp only; split_ifs <;> simp [State.setLine]
@[simp] theorem configureLine_instant : (configureLine n c s).tmb.instant = s.tmb.instant := by
  unfold configureLine; dsimp only; split_ifs <;> simp [State.setLine]

/-- The line gets the configuration, and no other line another one (R72). -/
theorem configureLine_config (m : LineNo) :
    ((configureLine n c s).lin[m]).config = if m = n then c else (s.lin[m]).config := by
  have hset : ∀ u : State, u.lin = s.lin →
      ((restartFilter n (u.setLine n ((u.lin[n]).configured c))).lin[m]).config = if m = n then c else (s.lin[m]).config := by
    intro u hu
    rw [restartFilter_configures _ n m, State.setLine_lin, hu]
    by_cases e : m = n
    · subst e; simp [Line.configured]
    · have hne : (n : Nat) ≠ m := fun h => e (Fin.ext h.symm)
      simp [e, hne]
  have hlin : (if (s.lin[n]).config.role = .reference ∧ c.role ≠ .reference then refRemoved s else s).lin = s.lin := by
    split <;> simp
  have h := hset _ hlin
  unfold configureLine
  dsimp only
  by_cases href : c.role = .reference
  · rw [if_pos href, refAssigned_lin]; exact h
  · rw [if_neg href]; exact h

/-- The reference line after the installation (R72, R114). -/
theorem configureLine_line : (configureLine n c s).rds.line =
    if c.role = .reference then some n else if (s.lin[n]).config.role = .reference then none else s.rds.line := by
  unfold configureLine
  dsimp only
  by_cases href : c.role = .reference
  · rw [if_pos href, if_pos href, refAssigned_rds_line]
  · rw [if_neg href, if_neg href, restartFilter_rds, State.setLine, State.setLin_rds]
    by_cases h : (s.lin[n]).config.role = .reference
    · rw [if_pos h, if_pos ⟨h, href⟩, refRemoved_rds_line]
    · rw [if_neg h, if_neg fun hh => h hh.1]

@[simp] theorem allLinesOff_sch : (allLinesOff s).sch = s.sch := by unfold allLinesOff; dsimp only; split <;> simp
@[simp] theorem allLinesOff_trg : (allLinesOff s).trg = s.trg := by unfold allLinesOff; dsimp only; split <;> simp
@[simp] theorem allLinesOff_prs : (allLinesOff s).prs = s.prs := by unfold allLinesOff; dsimp only; split <;> simp
@[simp] theorem allLinesOff_instant : (allLinesOff s).tmb.instant = s.tmb.instant := by
  unfold allLinesOff; dsimp only; split <;> simp
theorem allLinesOff_config (m : LineNo) : ((allLinesOff s).lin[m]).config = LineConfig.off := by
  unfold allLinesOff; dsimp only; split <;> simp [Line.configured]

variable (cs : Vector LineConfig 16)

@[simp] theorem installLines_sch : (installLines cs s).sch = s.sch :=
  foldl_keeps (P := fun u => u.sch = s.sch) (f := fun x n => configureLine n cs[n] x) (fun n u hu => by simpa using hu) _ s rfl
@[simp] theorem installLines_trg : (installLines cs s).trg = s.trg :=
  foldl_keeps (P := fun u => u.trg = s.trg) (f := fun x n => configureLine n cs[n] x) (fun n u hu => by simpa using hu) _ s rfl
@[simp] theorem installLines_prs : (installLines cs s).prs = s.prs :=
  foldl_keeps (P := fun u => u.prs = s.prs) (f := fun x n => configureLine n cs[n] x) (fun n u hu => by simpa using hu) _ s rfl
@[simp] theorem installLines_instant : (installLines cs s).tmb.instant = s.tmb.instant :=
  foldl_keeps (P := fun u => u.tmb.instant = s.tmb.instant) (f := fun x n => configureLine n cs[n] x)
    (fun n u hu => by simpa using hu) _ s rfl

end

end Sys2Proof.Machine

/-! ## The schedule stays in order -/

namespace Sys2Proof.Machine

/-! ### The stored entries of a valid slot -/

theorem mem_of_allSome {α : Type} {xs : List (Option α)} {ys : List α} (h : allSome xs = some ys) :
    ∀ y ∈ ys, some y ∈ xs := by
  induction xs generalizing ys with
  | nil => cases h; simp
  | cons x xs ih =>
    cases x with
    | none => cases h
    | some x =>
      obtain ⟨zs, hzs, rfl⟩ := Option.map_eq_some_iff.1 h
      intro y hy
      obtain rfl | hy := List.mem_cons.1 hy
      · exact List.mem_cons_self
      · exact List.mem_cons_of_mem _ (ih hzs y hy)

/-- What a body read back holds: roles that fit its own lines, and entries that pass the checks of ACT-ADD (R133). -/
theorem readBody_checks {b : List Byte} {p : Profile} (h : readBody b = some p) :
    p.rolesFit = true ∧ ∀ e ∈ p.entries, ∃ bs, readStoredEntry bs = some e := by
  unfold readBody at h
  dsimp only at h
  split at h
  · split at h
    · rename_i entries _ _ _ _ _ hentries
      split at h
      · rename_i hroles
        cases h
        refine ⟨hroles, fun e he => ?_⟩
        obtain ⟨i, -, hi⟩ := List.mem_map.1 (mem_of_allSome hentries e he)
        exact ⟨_, hi⟩
      · cases h
    · cases h
  · cases h

/-- A valid slot holds such a body (R133). -/
theorem validateSlot_checks {m : List Host.Cell} {slot : Slot} {v : Nat × Profile} (h : validateSlot m slot = some v) :
    v.2.rolesFit = true ∧ ∀ e ∈ v.2.entries, ∃ bs, readStoredEntry bs = some e := by
  unfold validateSlot at h
  dsimp only at h
  split at h
  · split at h
    · obtain ⟨p, hp, rfl⟩ := Option.map_eq_some_iff.1 h
      exact readBody_checks hp
    · cases h
  · cases h

theorem readRep_period {present : Bool} {period count : Nat} {r : Rep} (h : readRep present period count = some (some r)) :
    8 ≤ r.period := by
  unfold readRep at h
  split at h
  · split at h
    · rename_i hp; cases h; exact hp.1
    · cases h
  · split at h <;> cases h

theorem readStoredEntry_period {bs : List Byte} {e : StoredEntry} (h : readStoredEntry bs = some e) {p : Nat}
    (hp : e.period = some p) : 0 < p := by
  unfold readStoredEntry at h
  dsimp only at h
  split at h
  · rename_i rep _ _ _ hrep _
    split at h
    · cases h
      obtain ⟨r, rfl, rfl⟩ := Option.map_eq_some_iff.1 hp
      have := readRep_period hrep
      omega
    · cases h
  · cases h

/-- Everything that an accepted ACT-ADD puts into its entry besides what it copies (R33). -/
theorem readActAdd_eq_some {p : ActAddParams} {now : Nat} {e : Entry} (h : readActAdd p now = some e) :
    ∃ anchor kind late guard rep due, Anchor.ofCode p.anchor = some anchor ∧ Kind.ofCode p.kind = some kind ∧
      LatePolicy.ofCode p.late = some late ∧ readGuard p.guardPresent p.guardLine p.guardLevel = some guard ∧
      readRep p.repPresent p.period.toNat p.count.toNat = some rep ∧
      readDue anchor p.seconds.toNat p.tick.toNat now = some due ∧
      kind.fits p.lines p.width.toNat = true ∧ (p.standing && anchor == .interval) = false ∧
      e = { handle := 0, label := p.label, due := due, anchor := anchor, kind := kind, lines := p.lines,
            width := p.width.toNat, rep := rep, remaining := (rep.map (·.count)).getD 0, late := late, guard := guard,
            notify := p.notify, standing := p.standing, origin := .host, suppressed := 0, stamp := 0 } := by
  unfold readActAdd at h
  split at h
  · rename_i anchor kind late guard rep ha hk hl hg hr
    split at h
    · rename_i due hd
      split at h
      · rename_i hfit
        cases h
        obtain ⟨hf, hs⟩ := (Bool.and_eq_true _ _).mp hfit
        exact ⟨anchor, kind, late, guard, rep, due, ha, hk, hl, hg, hr, hd, hf, by simpa only [Bool.not_eq_true'] using hs, rfl⟩
      · cases h
    · cases h
  · cases h

theorem readActAdd_periods {p : ActAddParams} {now : Nat} {e : Entry} (h : readActAdd p now = some e) :
    ∀ r, e.rep = some r → 0 < r.period := by
  obtain ⟨_, _, _, _, rep, _, -, -, -, -, hrep, -, -, -, rfl⟩ := readActAdd_eq_some h
  rintro r rfl
  have := readRep_period hrep
  omega

/-- The entry of a stored one keeps its lines, its guard and its period (R139). -/
theorem StoredEntry.judge_eq_some {e : StoredEntry} {v : Validity} {now : Nat} {x : Entry} (h : e.judge v now = some x) :
    ∃ due remaining, x = e.entry due remaining := by
  unfold StoredEntry.judge at h
  split at h
  · exact ⟨_, _, (Option.some.inj h).symm⟩
  · split at h
    · cases h
    · dsimp only at h
      split_ifs at h <;> exact ⟨_, _, (Option.some.inj h).symm⟩

/-! ### The invariant of a powered part -/

/-- The entries that a load has still to insert have periods above 0 (R25, R133). -/
def PrsJob.periodsOk (j : PrsJob) : Prop :=
  ∀ su slot gen fb st i d, j = .loading su (.applying slot gen fb st i d) →
    ∀ e p, LoadStage.insertEntry e ∈ st → e.period = some p → 0 < p

theorem PrsJob.periodsOk.of_not_applying {s : State} (h : s.applying = false) : s.prs.job.periodsOk := by
  intro su slot gen fb st i d hj
  unfold State.applying at h
  rw [hj] at h
  cases h

/-- The schedule in order with nothing past due, and nothing in a running load that would break it. -/
structure State.scheduled (s : State) : Prop where
  order   : s.sch.inOrder
  later   : s.noneDue
  pending : s.prs.job.periodsOk

theorem State.scheduled.scheduleOk {s : State} (h : s.scheduled) : s.scheduleOk :=
  ⟨h.order.sorted, h.order.apart, h.order.issued, ⟨h.order.periods, h.pending⟩, fun _ => h.later⟩

/-- On a powered part the property of the statement is this one. -/
theorem State.scheduleOk.scheduled {s : State} (h : s.scheduleOk) (hp : s.power = true) : s.scheduled := by
  obtain ⟨hsorted, hapart, hissued, ⟨hperiods, hpending⟩, hlater⟩ := h
  exact ⟨⟨hsorted, hapart, hissued, hperiods⟩, hlater hp, hpending⟩

namespace State.scheduled

variable {s : State}

/-- The blocks that it looks at. -/
theorem of_blocks (hs : s.scheduled) {t : State} (hsch : t.sch = s.sch) (hnow : t.tmb.instant = s.tmb.instant)
    (hjob : t.prs.job.periodsOk) : t.scheduled := by
  obtain ⟨horder, hlater, -⟩ := hs
  refine ⟨hsch ▸ horder, ?_, hjob⟩
  unfold noneDue now at *
  rwa [hsch, hnow]

theorem of_prs (hs : s.scheduled) {t : State} (hsch : t.sch = s.sch) (hnow : t.tmb.instant = s.tmb.instant)
    (hprs : t.prs = s.prs) : t.scheduled := hs.of_blocks hsch hnow (hprs ▸ hs.pending)

/-- A pass needs no more than the order before it (R49, R50). -/
theorem of_passAround (ho : s.sch.inOrder) (hj : s.prs.job.periodsOk) (k : Nat) (n : Option Notice) :
    (passAround k n s).scheduled :=
  ⟨passAround_inOrder k n ho, passAround_noneDue k n ho, by simpa using hj⟩

theorem of_pass (ho : s.sch.inOrder) (hj : s.prs.job.periodsOk) : (Machine.pass s).scheduled := by
  rw [pass_eq_passAround]; exact of_passAround ho hj 0 none

theorem postOwn (hs : s.scheduled) (n : Option Notice) : (postOwn n s).scheduled := hs.of_prs (by simp) (by simp) (by simp)

/-- The removal of a reason passes where it leaves the set empty (R40, R64). -/
theorem removeReasonAround (hs : s.scheduled) (r : HoldReason) (k : Nat) (n : Option Notice) :
    (removeReasonAround r k n s).scheduled := by
  have ho : (s.setSch { s.sch with hold := s.sch.hold.put r false }).sch.inOrder := hs.order.sublist (List.Sublist.refl _) rfl
  unfold Machine.removeReasonAround
  dsimp only
  split
  · split
    · exact of_passAround ho hs.pending k n
    · rename_i hheld
      have hheld' : (s.sch.hold.put r false).isEmpty ≠ true := hheld
      exact postOwn ⟨ho, fun h => absurd h hheld', hs.pending⟩ n
  · exact hs.postOwn n

theorem removeReason (hs : s.scheduled) (r : HoldReason) : (removeReason r s).scheduled := by
  have h := hs.removeReasonAround r 0 none
  have hpost : ∀ u : State, Machine.postOwn none u = u := fun _ => rfl
  unfold Machine.removeReasonAround at h
  unfold Machine.removeReason
  simpa only [← pass_eq_passAround, hpost] using h

/-- Fewer entries, or more reasons to hold them. -/
theorem setSch (hs : s.scheduled) {c : Sch} (he : c.entries.Sublist s.sch.entries) (hst : c.stamps = s.sch.stamps)
    (hh : c.hold.isEmpty = true → s.sch.hold.isEmpty = true) : (s.setSch c).scheduled :=
  ⟨hs.order.sublist he hst, fun h e hm => hs.later (hh h) e (he.subset hm), hs.pending⟩

theorem addReason (hs : s.scheduled) (r : HoldReason) : (addReason r s).scheduled := by
  refine hs.setSch (List.Sublist.refl _) rfl fun h => ?_
  revert h
  cases r <;> simp [HoldSet.put, HoldSet.isEmpty]

theorem setTmb (hs : s.scheduled) {x : Tmb} (hx : x.instant = s.tmb.instant) : (s.setTmb x).scheduled :=
  hs.of_prs rfl hx rfl

theorem setValidity (hs : s.scheduled) (v : Validity) (c : ValidityCause) (k : Nat) : (setValidity v c k s).scheduled := by
  have h1 : (s.setTmb { s.tmb with validity := v }).scheduled := hs.setTmb rfl
  unfold Machine.setValidity
  dsimp only
  split
  · exact hs
  · split
    · exact (h1.postOwn _).addReason _
    · split
      · exact h1.removeReasonAround _ _ _
      · exact h1.postOwn _

/-- A step re-sorts the shifted schedule and passes at the new instant (R60, R61). -/
theorem stepWith (hs : s.scheduled) (new : Instant) (c : StepCause) (d : Option ValidityChange) (k : Nat) :
    (stepWith new c d k s).scheduled := by
  have ho : (stepShifted new c d k s).sch.inOrder := by
    unfold stepShifted
    rw [beforePass_sch]
    exact hs.order.shifted _ _ _
  have hj : (stepShifted new c d k s).prs = s.prs := by
    unfold stepShifted beforePass postGone
    dsimp only
    split <;> simp [stepReported, refStepEvent]
  rw [stepWith_eq_passAround]
  exact of_passAround ho (hj ▸ hs.pending) _ _

/-- The advance passes wherever the instant moved (R11, R12). -/
theorem advanceInstant (hs : s.scheduled) (k : Nat) : (advanceInstant k s).scheduled := by
  have h2 : (if s.tmb.advance.moved then passAround k s.tmb.advance.own (s.setTmb s.tmb.advance.settled)
      else Machine.postOwn s.tmb.advance.own (s.setTmb s.tmb.advance.settled)).scheduled := by
    split
    · exact of_passAround (s := s.setTmb s.tmb.advance.settled) hs.order hs.pending _ _
    · rename_i hm
      refine postOwn (hs.setTmb ?_) _
      have hsettled : s.tmb.advance.settled.instant = s.tmb.advance.tmb.instant := by
        unfold Advance.settled; split <;> rfl
      rw [hsettled]
      revert hm
      unfold Tmb.advance
      dsimp only
      split <;> simpa only [bne_iff_ne, ne_eq, not_not] using Eq.symm
  unfold Machine.advanceInstant
  dsimp only
  split
  · exact h2.addReason _
  · exact h2

/-- An insertion passes where the new entry is due (R30). -/
theorem insertAndPass (hs : s.scheduled) {e : Entry} (hp : ∀ r, e.rep = some r → 0 < r.period) :
    (insertAndPass e s).scheduled := by
  have ho : (s.setSch (s.sch.insertNew e)).sch.inOrder := hs.order.insertNew hp
  unfold Machine.insertAndPass passIfDue
  split
  · exact of_pass ho hs.pending
  · rename_i hd
    refine ⟨ho, fun hh x hx => ?_, hs.pending⟩
    have hold : s.sch.hold.isEmpty = true := by simpa using hh
    obtain h | ⟨y, hy, hxy⟩ := Sch.mem_enter hx
    · rw [h]; exact Nat.lt_of_not_le hd
    · rw [hxy]; exact hs.later hold y hy

theorem mainReset (c : StartCause) : (mainReset c s).scheduled := by
  refine ⟨?_, ?_, ?_⟩
  · rw [mainReset_sch]; exact ⟨by simp [Sch.fresh], by simp [Sch.fresh], by simp [Sch.fresh], by simp [Sch.fresh]⟩
  · intro _ e he
    rw [mainReset_sch] at he
    simp [Sch.fresh] at he
  · rw [mainReset_prs]
    intro su slot gen fb st i d hj
    simp only [Prs.fresh] at hj
    split_ifs at hj
    cases hj

/-- A stage of a load (R138). -/
theorem runStage (hs : s.scheduled) {st : LoadStage} (hst : ∀ e p, st = .insertEntry e → e.period = some p → 0 < p) :
    (runStage st s).scheduled := by
  have quiet : ∀ {t : State}, t.sch = s.sch → t.tmb.instant = s.tmb.instant → t.prs = s.prs → t.scheduled := hs.of_prs
  cases st with
  | dropTriggers | installTriggers _ => exact quiet rfl rfl rfl
  | dropEntries => exact hs.setSch (List.nil_sublist _) rfl id
  | installTolerance _ => exact hs.setSch (List.Sublist.refl _) rfl id
  | linesOff => exact quiet (allLinesOff_sch s) (allLinesOff_instant s) (allLinesOff_prs s)
  | installLines cs => exact quiet (installLines_sch s cs) (installLines_instant s cs) (installLines_prs s cs)
  | installCapture p m =>
    change (installCaptureConfig p m s).scheduled
    unfold installCaptureConfig
    dsimp only
    split_ifs <;> exact quiet rfl rfl rfl
  | installDiscipline c =>
    refine quiet ?_ ?_ ?_ <;> simp only [Machine.runStage, installRefConfig, State.setRds_sch, State.setRds_tmb, State.setRds_prs]
      <;> split <;> simp
  | installLease p f =>
    change (installLease p f s).scheduled
    unfold installLease
    split <;> exact quiet rfl rfl rfl
  | insertEntry e =>
    unfold Machine.runStage
    dsimp only
    split
    · exact hs
    · rename_i x hx
      obtain ⟨due, rem, rfl⟩ := StoredEntry.judge_eq_some hx
      refine hs.insertAndPass fun r hr => ?_
      obtain ⟨p, hp, rfl⟩ := Option.map_eq_some_iff.1 hr
      exact hst e p rfl hp

/-- One step of the application of a slot (R138). -/
theorem loadStep (hs : s.scheduled) : (loadStep s).scheduled := by
  unfold Machine.loadStep
  split
  · rename_i hj
    split
    · have h1 : (s.setJob .idle).scheduled := hs.of_blocks rfl rfl (PrsJob.periodsOk.of_not_applying rfl)
      exact (h1.removeReason .load).of_prs rfl rfl rfl
    · rename_i st rest
      have hrest := hs.pending _ _ _ _ _ _ _ hj
      have h1 := hs.runStage (st := st) fun e p he hp => hrest e p (by simp [he]) hp
      refine h1.of_blocks rfl rfl fun su slot gen fb sts i d he e p hm hp => ?_
      cases he
      exact hrest e p (List.mem_cons_of_mem _ hm) hp
  · exact hs

/-- The application of a valid slot begins (R133, R138). -/
theorem beginApply (hs : s.scheduled) {m : List Host.Cell} {slot : Slot} {v : Nat × Profile} (hv : validateSlot m slot = some v)
    (su : Bool) (slot' : Slot) (fb : Bool) : (beginApply su slot' v fb s).scheduled := by
  refine hs.of_blocks rfl rfl fun su slot gen fb sts i d he e p hm hp => ?_
  cases he
  have hmem : e ∈ v.2.entries := by simpa [Profile.stages] using hm
  obtain ⟨bs, hbs⟩ := (validateSlot_checks hv).2 e hmem
  exact readStoredEntry_period hbs hp

end State.scheduled

/-- Every operation keeps the schedule in order. -/
theorem configured_scheduled : Configured State.scheduled where
  lnk _ h := h.of_prs rfl rfl rfl
  cap _ h := h.of_prs rfl rfl rfl
  lsm _ h := h.of_prs rfl rfl rfl
  flash _ h := h.of_prs rfl rfl rfl
  straps _ h := h.of_prs rfl rfl rfl
  draws _ h := h.of_prs rfl rfl rfl
  owed _ h := h.of_prs rfl rfl rfl
  tmb _ hx h := h.setTmb hx
  lines _ _ h := h.of_prs rfl rfl rfl
  trg _ _ h := h.of_prs rfl rfl rfl
  rds _ _ h := h.of_prs rfl rfl rfl
  prs x hx h := h.of_blocks rfl rfl (hx.elim (fun e => by simpa [e] using h.pending) PrsJob.periodsOk.of_not_applying)
  sch _ he hst hh h := h.setSch he hst hh
  removal r h := h.removeReason r
  validity v c k h := h.setValidity v c k
  step new c d k h := h.stepWith new c d k
  advance k h := h.advanceInstant k
  reset c _ := State.scheduled.mainReset c
  fires _ hu h := by
    unfold insertTriggerEntry at hu
    split at hu
    · cases hu
    · cases hu; exact h.insertAndPass (by simp)
  adds _ he _ h := h.insertAndPass (readActAdd_periods he)
  places _ _ _ h := h.of_prs (by simp) (by simp) (by simp)
  sets _ _ h := h.of_prs rfl rfl rfl
  begins su slot' fb hv h := h.beginApply hv su slot' fb
  stage h := h.loadStep

theorem State.scheduleOk.stored {s : State} (h : s.scheduleOk) : s.prs.job.periodsOk := by
  obtain ⟨-, -, -, ⟨-, hpending⟩, -⟩ := h
  exact hpending

/-- The property of the statement looks at the schedule, the running load and, on a powered part, the instant. -/
theorem State.scheduleOk.of_blocks {s t : State} (h : s.scheduleOk) (hsch : t.sch = s.sch) (hjob : t.prs.job.periodsOk)
    (hlate : t.power = true → s.power = true ∧ t.now = s.now) : t.scheduleOk := by
  obtain ⟨hsorted, hapart, hissued, ⟨hperiods, -⟩, hlater⟩ := h
  refine ⟨by rwa [hsch], by rwa [hsch], by rwa [hsch], ⟨by rwa [hsch], hjob⟩, fun hp => ?_⟩
  obtain ⟨hps, hnow⟩ := hlate hp
  rw [hsch, hnow]
  exact hlater hps

theorem losePower_sch (s : State) : (losePower s).sch = s.sch := by
  unfold losePower lossCommand
  dsimp only
  split_ifs <;> split <;> rfl

/-- Settles O57: on a powered part the property is `State.scheduled`, which every operation keeps; without supply the schedule
stands still. -/
theorem scheduleStaysOrdered : Obligations.ScheduleStaysOrdered := fun _ _ =>
  step_keeps configured_scheduled.kept (fun _ hp h => h.scheduled hp) (fun _ h => h.scheduleOk)
    (fun s h => h.of_blocks (losePower_sch s) (PrsJob.periodsOk.of_not_applying rfl) (by simp))
    (fun held pins s _ => by
      unfold gainPower coldStart
      dsimp only
      split <;> exact (State.scheduled.mainReset _).scheduleOk)
    (fun s hp h => by
      unfold backupAdvance advanceBackup
      split
      · exact h.of_blocks rfl h.stored (by simp [hp])
      · exact h)
    (fun _ h => h.of_blocks rfl h.stored fun hp => ⟨hp, rfl⟩)
    (fun pin drive s h => by
      unfold changePin
      split <;> exact h.of_blocks rfl h.stored fun hp => ⟨hp, rfl⟩)
    (fun _ _ h => h)

end Sys2Proof.Machine

/-! ## The lines that entries and triggers name -/

namespace Sys2Proof.Machine

/-! ### What a state names -/

/-- Both entries name the same lines: those of their line sets and of their guards. -/
def Entry.sameNames (x y : Entry) : Prop := x.lines = y.lines ∧ x.guard = y.guard

/-- Every entry of `t` names what an entry of `s` names. -/
def State.entriesFrom (s t : State) : Prop := ∀ x ∈ t.sch.entries, ∃ y ∈ s.sch.entries, x.sameNames y

theorem State.entriesFrom.of_sublist {s t : State} (h : t.sch.entries.Sublist s.sch.entries) : s.entriesFrom t :=
  fun x hx => ⟨x, h.subset hx, rfl, rfl⟩

theorem State.entriesFrom.of_sch {s t : State} (h : t.sch = s.sch) : s.entriesFrom t :=
  .of_sublist (h ▸ List.Sublist.refl _)

theorem State.entriesFrom.trans {s t u : State} (h : s.entriesFrom t) (h' : t.entriesFrom u) : s.entriesFrom u := by
  intro x hx
  obtain ⟨y, hy, hl, hg⟩ := h' x hx
  obtain ⟨z, hz, hl', hg'⟩ := h y hy
  exact ⟨z, hz, hl.trans hl', hg.trans hg'⟩

theorem everyLine_iff {set : W16} {p : LineNo → Bool} :
    everyLine set p = true ↔ ∀ n : LineNo, set.getLsbD n = true → p n = true := by
  simp only [everyLine, List.all_eq_true, List.mem_finRange, true_implies, Bool.or_eq_true, Bool.not_eq_true']
  exact forall_congr' fun n => by cases set.getLsbD n <;> simp

theorem State.namedOutput_iff {s : State} {n : LineNo} : s.namedOutput n = true ↔
    (∃ e ∈ s.sch.entries, e.lines.getLsbD n = true) ∨
    ∃ (m : TrigNo) (x : Trigger), s.trg[m] = some x ∧ x.defn.template.lines.getLsbD n = true := by
  unfold State.namedOutput
  rw [Bool.or_eq_true, List.any_eq_true, List.any_eq_true]
  refine or_congr Iff.rfl ⟨?_, ?_⟩
  · rintro ⟨t, ht, h⟩
    obtain ⟨m, hm, rfl⟩ := Vector.mem_iff_getElem.1 (Vector.mem_toList_iff.1 ht)
    cases hx : s.trg[m] with
    | none => simp [hx] at h
    | some x => exact ⟨⟨m, hm⟩, x, hx, by simpa [hx] using h⟩
  · rintro ⟨m, x, hx, h⟩
    exact ⟨some x, Vector.mem_toList_iff.2 (Vector.mem_iff_getElem.2 ⟨m, m.2, hx⟩), h⟩

theorem State.namedInput_iff {s : State} {n : LineNo} : s.namedInput n = true ↔
    (∃ e ∈ s.sch.entries, ∃ g, e.guard = some g ∧ g.line = n) ∨
    ∃ (m : TrigNo) (x : Trigger), s.trg[m] = some x ∧ x.defn.source = n := by
  unfold State.namedInput
  rw [Bool.or_eq_true, List.any_eq_true, List.any_eq_true]
  refine or_congr (exists_congr fun e => and_congr_right fun _ => ?_) ⟨?_, ?_⟩
  · cases e.guard <;> simp
  · rintro ⟨t, ht, h⟩
    obtain ⟨m, hm, rfl⟩ := Vector.mem_iff_getElem.1 (Vector.mem_toList_iff.1 ht)
    cases hx : s.trg[m] with
    | none => simp [hx] at h
    | some x => exact ⟨⟨m, hm⟩, x, hx, by simpa [hx] using h⟩
  · rintro ⟨m, x, hx, h⟩
    exact ⟨some x, Vector.mem_toList_iff.2 (Vector.mem_iff_getElem.2 ⟨m, m.2, hx⟩), by simpa using h⟩

theorem Entry.rolesFit_iff {e : Entry} {s : State} : e.rolesFit s = true ↔
    (∀ n : LineNo, e.lines.getLsbD n = true → s.outputRole n = true) ∧ ∀ g, e.guard = some g → s.inputRole g.line = true := by
  unfold Entry.rolesFit
  rw [Bool.and_eq_true, everyLine_iff]
  cases e.guard <;> simp

theorem TrigDef.rolesFit_iff {d : TrigDef} {s : State} : d.rolesFit s = true ↔
    (∀ n : LineNo, d.template.lines.getLsbD n = true → s.outputRole n = true) ∧ s.inputRole d.source = true := by
  unfold TrigDef.rolesFit
  rw [Bool.and_eq_true, everyLine_iff, and_comm]

/-- The roles are right exactly when those of every entry and of every present trigger are (R26, R71). -/
theorem State.rolesOk_iff {s : State} : s.rolesOk ↔
    (∀ e ∈ s.sch.entries, e.rolesFit s = true) ∧ ∀ (m : TrigNo) x, s.trg[m] = some x → x.defn.rolesFit s = true := by
  simp only [State.rolesOk, State.namedOutput_iff, State.namedInput_iff, Entry.rolesFit_iff, TrigDef.rolesFit_iff]
  constructor
  · rintro ⟨ho, hi⟩
    exact ⟨fun e he => ⟨fun n hn => ho n (.inl ⟨e, he, hn⟩), fun g hg => hi _ (.inl ⟨e, he, g, hg, rfl⟩)⟩,
      fun m x hx => ⟨fun n hn => ho n (.inr ⟨m, x, hx, hn⟩), hi _ (.inr ⟨m, x, hx, rfl⟩)⟩⟩
  · rintro ⟨he, ht⟩
    constructor
    · rintro n (⟨e, hm, hn⟩ | ⟨m, x, hx, hn⟩)
      · exact (he e hm).1 n hn
      · exact (ht m x hx).1 n hn
    · rintro n (⟨e, hm, g, hg, rfl⟩ | ⟨m, x, hx, rfl⟩)
      · exact (he e hm).2 g hg
      · exact (ht m x hx).2

theorem State.rolesOk_of_none {s : State} (he : s.sch.entries = []) (ht : ∀ n : TrigNo, s.trg[n] = none) : s.rolesOk :=
  State.rolesOk_iff.2 ⟨by simp [he], fun m x hx => by rw [ht m] at hx; cases hx⟩

/-! ### The Scheduler's operations add no name -/

section
variable {s : State}

theorem takeEntry_entriesFrom {e : Entry} {rest : List Entry} (hs : s.sch.entries = e :: rest) : s.entriesFrom (takeEntry e s) := by
  have hpop : ∀ x ∈ s.sch.popped.entries, x ∈ s.sch.entries := fun x hx => List.mem_of_mem_tail hx
  obtain ⟨out, hsch⟩ := takeEntry_sch e s
  intro x hx
  rw [hsch] at hx
  cases hd : (e.consume (s.now - e.due.ticks)).nextDue with
  | none => rw [hd] at hx; exact ⟨x, hpop x hx, rfl, rfl⟩
  | some due =>
    rw [hd] at hx
    obtain h | ⟨y, hy, h⟩ := Sch.mem_enter hx
    · exact ⟨e, by simp [hs], by rw [h]; exact ⟨rfl, rfl⟩⟩
    · exact ⟨y, hpop y hy, by rw [h]; exact ⟨rfl, rfl⟩⟩

theorem passLoop_entriesFrom (k : Nat) (s : State) : s.entriesFrom (passLoop k s) := by
  induction k generalizing s with
  | zero => exact .of_sch rfl
  | succ k ih =>
    obtain ⟨e, rest, hs, hd⟩ | hh := head_cases s
    · rw [passLoop_of_due hs hd]; exact (takeEntry_entriesFrom hs).trans (ih _)
    · rw [passLoop_of_head hh]; exact .of_sch rfl

theorem passSome_entriesFrom (k : Nat) (s : State) : s.entriesFrom (passSome k s) := by
  unfold passSome
  split
  · exact passLoop_entriesFrom k s
  · exact .of_sch rfl

theorem passAround_entriesFrom (k : Nat) (n : Option Notice) (s : State) : s.entriesFrom (passAround k n s) :=
  ((passSome_entriesFrom k s).trans (.of_sch (postOwn_sch n _))).trans (passSome_entriesFrom _ _)

theorem removeReasonAround_entriesFrom (r : HoldReason) (k : Nat) (n : Option Notice) (s : State) :
    s.entriesFrom (removeReasonAround r k n s) := by
  have h1 : s.entriesFrom (s.setSch { s.sch with hold := s.sch.hold.put r false }) := .of_sublist (List.Sublist.refl _)
  unfold removeReasonAround
  dsimp only
  split
  · split
    · exact h1.trans (passAround_entriesFrom _ _ _)
    · exact h1.trans (.of_sch (postOwn_sch n _))
  · exact .of_sch (postOwn_sch n _)

theorem removeReason_entriesFrom (r : HoldReason) (s : State) : s.entriesFrom (removeReason r s) := by
  have h1 : s.entriesFrom (s.setSch { s.sch with hold := s.sch.hold.put r false }) := .of_sublist (List.Sublist.refl _)
  unfold removeReason
  dsimp only
  split
  · split
    · exact h1.trans (passSome_entriesFrom _ _)
    · exact h1
  · exact .of_sch rfl

theorem setValidity_entriesFrom (v : Validity) (c : ValidityCause) (k : Nat) (s : State) :
    s.entriesFrom (setValidity v c k s) := by
  have h1 : s.entriesFrom (s.setTmb { s.tmb with validity := v }) := .of_sch rfl
  unfold setValidity
  dsimp only
  split
  · exact .of_sch rfl
  · split
    · exact (h1.trans (.of_sch (postOwn_sch _ _))).trans (.of_sublist (List.Sublist.refl _))
    · split
      · exact h1.trans (removeReasonAround_entriesFrom _ _ _ _)
      · exact h1.trans (.of_sch (postOwn_sch _ _))

theorem stepWith_entriesFrom (new : Instant) (c : StepCause) (d : Option ValidityChange) (k : Nat) (s : State) :
    s.entriesFrom (stepWith new c d k s) := by
  rw [stepWith_eq_passAround]
  refine State.entriesFrom.trans (fun x hx => ?_) (passAround_entriesFrom _ _ _)
  obtain ⟨e, he, -, rfl⟩ := (mem_stepShifted new c d k s).1 hx
  exact ⟨e, he, by rw [Entry.shiftedAt_eq]; exact ⟨rfl, rfl⟩⟩

theorem advanceInstant_entriesFrom (k : Nat) (s : State) : s.entriesFrom (advanceInstant k s) := by
  have h1 : s.entriesFrom (s.setTmb s.tmb.advance.settled) := .of_sch rfl
  have h2 : s.entriesFrom (if s.tmb.advance.moved then passAround k s.tmb.advance.own (s.setTmb s.tmb.advance.settled)
      else postOwn s.tmb.advance.own (s.setTmb s.tmb.advance.settled)) := by
    split
    · exact h1.trans (passAround_entriesFrom _ _ _)
    · exact h1.trans (.of_sch (postOwn_sch _ _))
  unfold advanceInstant
  dsimp only
  split
  · exact h2.trans (.of_sublist (List.Sublist.refl _))
  · exact h2

/-- An insertion adds the names of the new entry alone (R30). -/
theorem insertAndPass_entries (e : Entry) (s : State) {x : Entry} (hx : x ∈ (insertAndPass e s).sch.entries) :
    x.sameNames e ∨ ∃ y ∈ s.sch.entries, x.sameNames y := by
  have hpass : (s.setSch (s.sch.insertNew e)).entriesFrom (insertAndPass e s) := by
    unfold insertAndPass passIfDue
    split
    · exact passSome_entriesFrom _ _
    · exact .of_sch rfl
  obtain ⟨y, hy, hl, hg⟩ := hpass x hx
  obtain h | ⟨z, hz, h⟩ := Sch.mem_enter hy
  · rw [h] at hl hg; exact .inl ⟨hl, hg⟩
  · rw [h] at hl hg; exact .inr ⟨z, hz, hl, hg⟩

end

/-! ### States that name no more -/

/-- `t` names nothing that `s` does not name, over the same configurations and the same reference line. -/
structure Narrows (s t : State) : Prop where
  entries  : s.entriesFrom t
  triggers : s.defines t.trg
  lines    : s.configures t.lin
  line     : t.rds.line = s.rds.line

/-- The schedule alone has changed. -/
theorem Narrows.of_entries {s t : State} (h : s.entriesFrom t) (htrg : t.trg = s.trg)
    (hlin : ∀ n : LineNo, (t.lin[n]).config = (s.lin[n]).config) (hline : t.rds.line = s.rds.line) : Narrows s t :=
  ⟨h, fun n x hx => ⟨x, by rw [← htrg]; exact hx, rfl⟩, hlin, hline⟩

/-- None of the four has changed. -/
theorem Narrows.of_eq {s t : State} (hsch : t.sch = s.sch) (htrg : t.trg = s.trg)
    (hlin : ∀ n : LineNo, (t.lin[n]).config = (s.lin[n]).config) (hline : t.rds.line = s.rds.line) : Narrows s t :=
  .of_entries (.of_sch hsch) htrg hlin hline

section
variable {s t : State}

theorem State.outputRole_congr (h : s.configures t.lin) (n : LineNo) : t.outputRole n = s.outputRole n := by
  unfold State.outputRole; rw [h n]
theorem State.inputRole_congr (h : s.configures t.lin) (n : LineNo) : t.inputRole n = s.inputRole n := by
  unfold State.inputRole; rw [h n]

theorem Entry.rolesFit_congr (h : s.configures t.lin) {x y : Entry} (hn : x.sameNames y) (hy : y.rolesFit s = true) :
    x.rolesFit t = true := by
  obtain ⟨hl, hg⟩ := hn
  rw [Entry.rolesFit_iff] at *
  simpa only [State.outputRole_congr h, State.inputRole_congr h, hl, hg] using hy

theorem TrigDef.rolesFit_congr (h : s.configures t.lin) {d : TrigDef} (hd : d.rolesFit s = true) : d.rolesFit t = true := by
  rw [TrigDef.rolesFit_iff] at *
  simpa only [State.outputRole_congr h, State.inputRole_congr h] using hd

theorem State.rolesOk.narrow (hs : s.rolesOk) (h : Narrows s t) : t.rolesOk := by
  obtain ⟨he, ht⟩ := State.rolesOk_iff.1 hs
  refine State.rolesOk_iff.2 ⟨fun x hx => ?_, fun n x hx => ?_⟩
  · obtain ⟨y, hy, hxy⟩ := h.entries x hx
    exact Entry.rolesFit_congr h.lines hxy (he y hy)
  · obtain ⟨y, hy, hxy⟩ := h.triggers n x hx
    rw [hxy]
    exact TrigDef.rolesFit_congr h.lines (ht n y hy)

theorem State.referenceOk.congr (hs : s.referenceOk) (hl : s.configures t.lin) (hr : t.rds.line = s.rds.line) :
    t.referenceOk := by
  intro n
  rw [hl n, hr]
  exact hs n

theorem State.applied.narrow {p : Profile} {k : Nat} (hs : s.applied p k) (h : Narrows s t) : t.applied p k := by
  obtain ⟨hfit, htrg, hent, hoff, hlin⟩ := hs
  refine ⟨hfit, fun h0 hk n => ?_, fun h2 h8 => ?_, fun h3 n => (h.lines n).trans (hoff h3 n),
    fun h4 n => (h.lines n).trans (hlin h4 n)⟩
  · cases hx : t.trg[n] with
    | none => rfl
    | some x =>
      obtain ⟨y, hy, -⟩ := h.triggers n x hx
      rw [htrg h0 hk n] at hy
      cases hy
  · refine List.eq_nil_iff_forall_not_mem.2 fun x hx => ?_
    obtain ⟨y, hy, -⟩ := h.entries x hx
    rw [hent h2 h8] at hy
    cases hy

/-! ### Insertion -/

theorem State.rolesOk.insert (hs : s.rolesOk) {e : Entry} (he : e.rolesFit s = true) : (insertAndPass e s).rolesOk := by
  have hl : s.configures (insertAndPass e s).lin := fun n => by simp
  obtain ⟨hent, htrg⟩ := State.rolesOk_iff.1 hs
  refine State.rolesOk_iff.2 ⟨fun x hx => ?_, fun n x hx => ?_⟩
  · obtain h | ⟨y, hy, h⟩ := insertAndPass_entries e s hx
    · exact Entry.rolesFit_congr hl h he
    · exact Entry.rolesFit_congr hl h (hent y hy)
  · exact TrigDef.rolesFit_congr hl (htrg n x (by simpa using hx))

theorem State.referenceOk.insert (hs : s.referenceOk) (e : Entry) : (insertAndPass e s).referenceOk :=
  hs.congr (fun n => by simp) (by simp)

/-- A load is at the same stage after an insertion, where the schedule need not be empty (R138). -/
theorem State.applied.insert {p : Profile} {k : Nat} (hs : s.applied p k) (hk : ¬(2 ≤ k ∧ k ≤ 8)) (e : Entry) :
    (insertAndPass e s).applied p k := by
  obtain ⟨hfit, htrg, -, hoff, hlin⟩ := hs
  refine ⟨hfit, fun h0 hk n => by simpa using htrg h0 hk n, fun h2 h8 => absurd ⟨h2, h8⟩ hk, fun h3 n => ?_, fun h4 n => ?_⟩
  · simpa using hoff h3 n
  · simpa using hlin h4 n

/-! ### The roles that a configuration leaves -/

/-- The reference line after a configuration that makes no second one (R70, R114). -/
theorem State.referenceOk.configureLine (hs : s.referenceOk) {n : LineNo} {c : LineConfig}
    (hone : c.role = .reference → ∀ m, m ≠ n → (s.lin[m]).config.role ≠ .reference) : (configureLine n c s).referenceOk := by
  intro m
  rw [configureLine_config, configureLine_line]
  have hm := hs m
  have hn := hs n
  by_cases hc : c.role = .reference
  · by_cases e : m = n
    · simp [e, hc]
    · rw [if_neg e, if_pos hc]
      exact ⟨fun h => absurd h (hone hc m e), fun h => absurd (Option.some.inj h).symm e⟩
  · by_cases e : m = n
    · subst e
      by_cases hr : (s.lin[m]).config.role = .reference
      · rw [if_pos rfl, if_neg hc, if_pos hr]
        exact ⟨fun h => absurd h hc, fun h => by cases h⟩
      · rw [if_pos rfl, if_neg hc, if_neg hr]
        exact ⟨fun h => absurd h hc, fun h => absurd (hm.2 h) hr⟩
    · by_cases hr : (s.lin[n]).config.role = .reference
      · have hnm : s.rds.line ≠ some m := fun h => e (Option.some.inj (h.symm.trans (hn.1 hr)))
        rw [if_neg e, if_neg hc, if_pos hr]
        exact ⟨fun h => absurd (hm.1 h) hnm, fun h => by cases h⟩
      · rw [if_neg e, if_neg hc, if_neg hr]
        exact hm

/-- The roles after a configuration of a line that is named as the new role allows (R71). -/
theorem State.rolesOk.configureLine (hs : s.rolesOk) {n : LineNo} {c : LineConfig} (hfree : s.lineInUse n c.role = false) :
    (configureLine n c s).rolesOk := by
  have hname : ∀ m, (Machine.configureLine n c s).namedOutput m = s.namedOutput m ∧
      (Machine.configureLine n c s).namedInput m = s.namedInput m := fun m => by
    unfold State.namedOutput State.namedInput; simp
  obtain ⟨ho, hi⟩ := hs
  unfold State.lineInUse at hfree
  rw [Bool.or_eq_false_iff] at hfree
  obtain ⟨hout, hin⟩ := hfree
  constructor <;> intro m hm
  · rw [(hname m).1] at hm
    unfold State.outputRole
    rw [configureLine_config]
    by_cases e : m = n
    · subst e; rw [if_pos rfl]; simpa [hm] using hout
    · rw [if_neg e]; exact ho m hm
  · rw [(hname m).2] at hm
    unfold State.inputRole
    rw [configureLine_config]
    by_cases e : m = n
    · subst e; rw [if_pos rfl]; simpa [hm] using hin
    · rw [if_neg e]; exact hi m hm

end

end Sys2Proof.Machine

/-! ## The stages of a load, and the names at each of them -/

namespace Sys2Proof.Machine

/-! ### The stages of a profile -/

theorem Profile.stages_length (p : Profile) : p.stages.length = p.entries.length + 9 := by
  simp [Profile.stages]

/-- A stage that changes neither the schedule's entries, nor a trigger, nor a line, nor the reference line. -/
def LoadStage.isSetting : LoadStage → Bool
  | .installTolerance _ | .installCapture .. | .installDiscipline _ | .installLease .. => true
  | _ => false

/-- The stages of R138 by their position. -/
inductive Profile.StageAt (p : Profile) : Nat → LoadStage → Prop
  | dropTriggers : p.StageAt 0 .dropTriggers
  | dropEntries : p.StageAt 1 .dropEntries
  | linesOff : p.StageAt 2 .linesOff
  | installLines : p.StageAt 3 (.installLines p.lines)
  | setting {k : Nat} {st : LoadStage} (lo : 4 ≤ k) (hi : k ≤ 7) (h : st.isSetting = true) : p.StageAt k st
  | insertEntry {k : Nat} {e : StoredEntry} (lo : 8 ≤ k) (hi : k + 1 < p.stages.length) (h : e ∈ p.entries) :
      p.StageAt k (.insertEntry e)
  | installTriggers : p.StageAt (p.entries.length + 8) (.installTriggers p.triggers)

/-- The stages in hand begin with the one at their position. -/
theorem Profile.stageAt_of_drop {p : Profile} {k : Nat} {st : LoadStage} {rest : List LoadStage}
    (h : p.stages.drop k = st :: rest) : p.StageAt k st ∧ rest = p.stages.drop (k + 1) := by
  have hrest : rest = p.stages.drop (k + 1) := by
    rw [← List.drop_drop, h, List.drop_one, List.tail_cons]
  have hk : p.stages[k]? = some st := by rw [← List.head?_drop, h, List.head?_cons]
  refine ⟨?_, hrest⟩
  match k, hk with
  | 0, hk => cases hk; exact .dropTriggers
  | 1, hk => cases hk; exact .dropEntries
  | 2, hk => cases hk; exact .linesOff
  | 3, hk => cases hk; exact .installLines
  | 4, hk | 5, hk | 6, hk | 7, hk => cases hk; exact .setting (by omega) (by omega) rfl
  | j + 8, hk =>
    have hk' : (p.entries.map LoadStage.insertEntry ++ [.installTriggers p.triggers])[j]? = some st := hk
    rcases Nat.lt_trichotomy j p.entries.length with hj | rfl | hj
    · rw [List.getElem?_append_left (by simpa using hj), List.getElem?_map, Option.map_eq_some_iff] at hk'
      obtain ⟨e, he, rfl⟩ := hk'
      exact .insertEntry (by omega) (by rw [p.stages_length]; omega) (List.mem_of_getElem? he)
    · rw [List.getElem?_append_right (by simp)] at hk'
      simp only [List.length_map, Nat.sub_self, List.getElem?_cons_zero, Option.some.injEq] at hk'
      subst hk'
      exact .installTriggers
    · rw [List.getElem?_eq_none (by simp; omega)] at hk'
      cases hk'

/-! ### The roles of a stored profile -/

/-- Two members of a list at different places that satisfy `p` are two members of its filter. -/
theorem index_eq_of_filter_le_one {α : Type} {p : α → Bool} {xs : List α} (h : (xs.filter p).length ≤ 1) {i j : Nat}
    (hi : i < xs.length) (hj : j < xs.length) (pi : p xs[i] = true) (pj : p xs[j] = true) : i = j := by
  have key : ∀ {i j : Nat} (hj : j < xs.length) (hij : i < j), p xs[i] = true → p xs[j] = true → False := by
    intro i j hj hij pi pj
    have hsplit : xs = xs.take j ++ xs[j] :: xs.drop (j + 1) := by simp
    have hmem : xs[i] ∈ (xs.take j).filter p := List.mem_filter.2 ⟨List.mem_take_iff_getElem.2 ⟨i, by omega, rfl⟩, pi⟩
    have hpos := List.length_pos_of_mem hmem
    have hlen : (xs.filter p).length = ((xs.take j).filter p).length + (((xs.drop (j + 1)).filter p).length + 1) := by
      conv_lhs => rw [hsplit]
      rw [List.filter_append, List.filter_cons_of_pos pj, List.length_append, List.length_cons]
    omega
  rcases Nat.lt_trichotomy i j with hij | hij | hij
  · exact (key hj hij pi pj).elim
  · exact hij
  · exact (key hi hij pj pi).elim

/-- The roles of a profile that fits: at most one reference line, and every named line in the role it needs (R133). -/
theorem Profile.rolesFit_iff {p : Profile} (h : p.rolesFit = true) :
    (∀ m n : LineNo, (p.lines[m]).role = .reference → (p.lines[n]).role = .reference → m = n) ∧
    (∀ e ∈ p.entries, (∀ n : LineNo, e.lines.getLsbD n = true → (p.lines[n]).role.isOutput = true) ∧
      ∀ g, e.guard = some g → (p.lines[g.line]).role = .input) ∧
    ∀ (t : TrigNo) x, p.triggers[t] = some x →
      (∀ n : LineNo, x.defn.template.lines.getLsbD n = true → (p.lines[n]).role.isOutput = true) ∧
      (p.lines[x.defn.source]).role = .input := by
  unfold Profile.rolesFit at h
  simp only [Bool.and_eq_true, decide_eq_true_eq, List.all_eq_true] at h
  obtain ⟨⟨hone, hent⟩, htrg⟩ := h
  refine ⟨fun m n hm hn => Fin.ext ?_, fun e he => ?_, fun t x hx => ?_⟩
  · have hlen : p.lines.toList.length = 16 := by simp
    exact index_eq_of_filter_le_one hone (i := m) (j := n) (by omega) (by omega) (by simpa using hm) (by simpa using hn)
  · obtain ⟨hl, hg⟩ := hent e he
    refine ⟨everyLine_iff.1 hl, fun g hgu => ?_⟩
    rw [hgu] at hg
    simpa using hg
  · have := htrg (some x) (Vector.mem_toList_iff.2 (Vector.mem_iff_getElem.2 ⟨t, t.2, hx⟩))
    simp only [Bool.and_eq_true, beq_iff_eq] at this
    exact ⟨everyLine_iff.1 this.1, this.2⟩

/-! ### The installation of all lines -/

/-- Lines that are OFF are configured one after another, the others staying as they were installed (R86). -/
theorem installLines_from {cs : Vector LineConfig 16}
    (hone : ∀ m n : LineNo, (cs[m]).role = .reference → (cs[n]).role = .reference → m = n) {ns : List LineNo} (hns : ns.Nodup) {s : State}
    (hr : s.referenceOk) (hs : ∀ m : LineNo, (s.lin[m]).config = if m ∈ ns then LineConfig.off else cs[m]) :
    let t := ns.foldl (fun x n => configureLine n cs[n] x) s
    t.referenceOk ∧ ∀ m : LineNo, (t.lin[m]).config = cs[m] := by
  induction ns generalizing s with
  | nil => exact ⟨hr, fun m => by simpa using hs m⟩
  | cons n ns ih =>
    obtain ⟨hn, hns⟩ := List.nodup_cons.1 hns
    refine ih hns (hr.configureLine fun hc m hm hrm => ?_) fun m => ?_
    · rw [hs m] at hrm
      split at hrm
      · cases hrm
      · exact hm (hone m n hrm hc)
    · rw [configureLine_config]
      by_cases e : m = n
      · subst e; simp [hn]
      · rw [if_neg e, hs m]; simp [e]

/-! ### One stage after another -/

/-- A state in which the application of `p` has its first `k` stages behind it, with every name in its role. -/
structure State.AtStage (s : State) (p : Profile) (k : Nat) : Prop where
  roles     : s.rolesOk
  reference : s.referenceOk
  done      : s.applied p k

/-- A setting narrows nothing and widens nothing. -/
theorem runStage_setting {st : LoadStage} (h : st.isSetting = true) (s : State) : Narrows s (runStage st s) := by
  cases st with
  | installTolerance t => exact .of_entries (.of_sublist (List.Sublist.refl _)) rfl (fun _ => rfl) rfl
  | installCapture p m =>
    unfold runStage installCaptureConfig
    dsimp only
    split_ifs <;> exact .of_eq rfl rfl (fun _ => rfl) rfl
  | installDiscipline c =>
    have hu : ∀ u : State, Narrows s u → ∀ r : Rds, r.line = u.rds.line → Narrows s (u.setRds r) := fun u hu r hr =>
      ⟨hu.entries, hu.triggers, hu.lines, hr.trans hu.line⟩
    unfold runStage installRefConfig
    dsimp only
    refine hu _ ?_ _ (by split_ifs <;> rfl)
    split
    · exact .of_eq (by simp) (by simp) (fun n => by simp) (by simp)
    · exact .of_eq rfl rfl (fun _ => rfl) rfl
  | installLease p f =>
    unfold runStage installLease
    dsimp only
    split <;> exact .of_eq rfl rfl (fun _ => rfl) rfl
  | _ => cases h

namespace State.AtStage

variable {s : State} {p : Profile} {k : Nat}

theorem dropTriggers (h : s.AtStage p 0) : (dropTriggers s).AtStage p 1 := by
  have hnone : ∀ n : TrigNo, (Machine.dropTriggers s).trg[n] = none := fun n => by simp [Machine.dropTriggers]
  have hn : Narrows s (Machine.dropTriggers s) :=
    ⟨.of_sch rfl, fun n x hx => (by rw [hnone n] at hx; cases hx), fun _ => rfl, rfl⟩
  exact ⟨h.roles.narrow hn, h.reference, h.done.1, fun _ _ => hnone, by omega, by omega, by omega⟩

theorem dropEntries (h : s.AtStage p 1) : (dropEntries s).AtStage p 2 := by
  obtain ⟨hfit, htrg, -⟩ := h.done
  have hnone : ∀ n : TrigNo, s.trg[n] = none := htrg (by omega) (by rw [p.stages_length]; omega)
  exact ⟨State.rolesOk_of_none rfl hnone, h.reference, hfit, fun _ _ => hnone, fun _ _ => rfl, by omega, by omega⟩

theorem linesOff (h : s.AtStage p 2) : (allLinesOff s).AtStage p 3 := by
  obtain ⟨hfit, htrg, hent, -⟩ := h.done
  have hnone : ∀ n : TrigNo, (allLinesOff s).trg[n] = none := fun n => by
    rw [allLinesOff_trg]; exact htrg (by omega) (by rw [p.stages_length]; omega) n
  have hempty : (allLinesOff s).sch.entries = [] := by rw [allLinesOff_sch]; exact hent le_rfl (by omega)
  refine ⟨State.rolesOk_of_none hempty hnone, fun n => ?_, hfit, fun _ _ => hnone, fun _ _ => hempty,
    fun _ => allLinesOff_config s, by omega⟩
  rw [allLinesOff_config]
  have hline : (allLinesOff s).rds.line = none := by
    unfold allLinesOff
    dsimp only
    split
    · exact refRemoved_rds_line _
    · rename_i hno
      cases hl : s.rds.line with
      | none => exact hl
      | some m =>
        refine absurd (List.any_eq_true.2 ⟨s.lin[m], Vector.mem_toList_iff.2 (Vector.mem_iff_getElem.2 ⟨m, m.2, rfl⟩), ?_⟩) hno
        exact beq_iff_eq.2 ((h.reference m).2 hl)
  rw [hline]
  exact ⟨fun h => (by cases h), fun h => (by cases h)⟩

theorem installLines (h : s.AtStage p 3) : (installLines p.lines s).AtStage p 4 := by
  obtain ⟨hfit, htrg, hent, hoff, -⟩ := h.done
  have hnone : ∀ n : TrigNo, (Machine.installLines p.lines s).trg[n] = none := fun n => by
    rw [installLines_trg]; exact htrg (by omega) (by rw [p.stages_length]; omega) n
  have hempty : (Machine.installLines p.lines s).sch.entries = [] := by
    rw [installLines_sch]; exact hent (by omega) (by omega)
  obtain ⟨href, hlines⟩ := installLines_from (Profile.rolesFit_iff hfit).1 (List.nodup_finRange 16) h.reference fun m => by
    rw [hoff rfl m, if_pos (List.mem_finRange m)]
  exact ⟨State.rolesOk_of_none hempty hnone, href, hfit, fun _ _ => hnone, fun _ _ => hempty, by omega, fun _ => hlines⟩

theorem setting (h : s.AtStage p k) {st : LoadStage} (hst : st.isSetting = true) (lo : 4 ≤ k) (hi : k ≤ 7) :
    (Machine.runStage st s).AtStage p (k + 1) := by
  have hn := runStage_setting hst s
  obtain ⟨hfit, htrg, hent, -, hlin⟩ := h.done.narrow hn
  have hlen := p.stages_length
  exact ⟨h.roles.narrow hn, h.reference.congr hn.lines hn.line, hfit, fun _ _ => htrg (by omega) (by omega),
    fun _ _ => hent (by omega) (by omega), by omega, fun _ => hlin (by omega)⟩

/-- A stored entry fits the stored lines, which are installed by then (R133, R139). -/
theorem insertEntry (h : s.AtStage p k) {e : StoredEntry} (he : e ∈ p.entries) (lo : 8 ≤ k) (hi : k + 1 < p.stages.length) :
    (Machine.runStage (.insertEntry e) s).AtStage p (k + 1) := by
  obtain ⟨hfit, htrg, -, -, hlin⟩ := h.done
  have hnext : s.applied p (k + 1) :=
    ⟨hfit, fun _ _ => htrg (by omega) (by omega), by omega, by omega, fun _ => hlin (by omega)⟩
  unfold Machine.runStage
  dsimp only
  split
  · exact ⟨h.roles, h.reference, hnext⟩
  · rename_i x hx
    obtain ⟨due, rem, rfl⟩ := StoredEntry.judge_eq_some hx
    obtain ⟨hout, hguard⟩ := (Profile.rolesFit_iff hfit).2.1 e he
    have hroles : (e.entry due rem).rolesFit s = true := by
      refine Entry.rolesFit_iff.2 ⟨fun n hn => ?_, fun g hg => ?_⟩
      · unfold State.outputRole; rw [hlin (by omega) n]; exact hout n hn
      · unfold State.inputRole; rw [hlin (by omega) g.line]; exact beq_iff_eq.2 (hguard g hg)
    exact ⟨h.roles.insert hroles, h.reference.insert _, hnext.insert (by omega) _⟩

theorem installTriggers (h : s.AtStage p (p.entries.length + 8)) :
    (installTriggers p.triggers s).AtStage p (p.entries.length + 8 + 1) := by
  obtain ⟨hfit, -, -, -, hlin⟩ := h.done
  have hlen := p.stages_length
  refine ⟨State.rolesOk_iff.2 ⟨(State.rolesOk_iff.1 h.roles).1, fun n x hx => ?_⟩, h.reference, hfit, by omega, by omega, by omega,
    fun _ => hlin (by omega)⟩
  have hx' : (p.triggers[n]).map Trigger.ofStored = some x := by simpa [Machine.installTriggers] using hx
  obtain ⟨y, hy, rfl⟩ := Option.map_eq_some_iff.1 hx'
  obtain ⟨hout, hsrc⟩ := (Profile.rolesFit_iff hfit).2.2 n y hy
  refine TrigDef.rolesFit_iff.2 ⟨fun m hm => ?_, ?_⟩
  · change (s.lin[m]).config.role.isOutput = true
    rw [hlin (by omega) m]; exact hout m hm
  · change ((s.lin[y.defn.source]).config.role == .input) = true
    rw [hlin (by omega)]; exact beq_iff_eq.2 hsrc

/-- Every stage leads to the next (R138). -/
theorem next (h : s.AtStage p k) {st : LoadStage} (hst : p.StageAt k st) : (Machine.runStage st s).AtStage p (k + 1) := by
  cases hst with
  | dropTriggers => exact h.dropTriggers
  | dropEntries => exact h.dropEntries
  | linesOff => exact h.linesOff
  | installLines => exact h.installLines
  | setting lo hi hset => exact h.setting hset lo hi
  | insertEntry lo hi he => exact h.insertEntry he lo hi
  | installTriggers => exact h.installTriggers

end State.AtStage

/-! ### The invariant -/

/-- Every named line in its role, one reference line, and every running load at one of its stages. -/
structure State.namesOk (s : State) : Prop where
  roles     : s.rolesOk
  reference : s.referenceOk
  load      : s.loadOk

theorem State.loadOk.of_not_applying {s : State} (h : s.applying = false) : s.loadOk := by
  intro su slot gen fb st i d hj
  unfold State.applying at h
  rw [hj] at h
  cases h

theorem State.not_applying_of_not_loading {s : State} (h : s.loading = false) : s.applying = false := by
  unfold State.applying
  split
  · rename_i hj
    unfold State.loading PrsJob.isLoading at h
    rw [hj] at h
    cases h
  · rfl

namespace State.namesOk

variable {s : State}

/-- A state that names no more, with the same load running or none being applied. -/
theorem narrow (hs : s.namesOk) {t : State} (h : Narrows s t) (hj : t.prs.job = s.prs.job ∨ t.applying = false) : t.namesOk := by
  refine ⟨hs.roles.narrow h, hs.reference.congr h.lines h.line, ?_⟩
  obtain hj | hj := hj
  · intro su slot gen fb st i d he
    obtain ⟨p, k, hst, hdone⟩ := hs.load su slot gen fb st i d (hj ▸ he)
    exact ⟨p, k, hst, hdone.narrow h⟩
  · exact .of_not_applying hj

/-- The Scheduler's operations. -/
theorem of_entries (hs : s.namesOk) {t : State} (h : s.entriesFrom t) (htrg : t.trg = s.trg)
    (hlin : ∀ n : LineNo, (t.lin[n]).config = (s.lin[n]).config) (hline : t.rds.line = s.rds.line) (hprs : t.prs = s.prs) :
    t.namesOk := hs.narrow (.of_entries h htrg hlin hline) (.inl (by rw [hprs]))

/-- The blocks that it does not look at. -/
theorem of_eq (hs : s.namesOk) {t : State} (hsch : t.sch = s.sch) (htrg : t.trg = s.trg)
    (hlin : ∀ n : LineNo, (t.lin[n]).config = (s.lin[n]).config) (hline : t.rds.line = s.rds.line) (hprs : t.prs = s.prs) :
    t.namesOk := hs.of_entries (.of_sch hsch) htrg hlin hline hprs

theorem removeReason (hs : s.namesOk) (r : HoldReason) : (removeReason r s).namesOk :=
  hs.of_entries (removeReason_entriesFrom r s) (by simp) (by simp) (by simp) (by simp)

theorem advanceInstant (hs : s.namesOk) (k : Nat) : (advanceInstant k s).namesOk := by
  obtain ⟨-, -, -, htrg, hrds, hprs, -, -⟩ := advanceInstant_frame k s
  refine hs.of_entries (advanceInstant_entriesFrom k s) htrg (fun n => ?_) (by rw [hrds]) hprs
  unfold Machine.advanceInstant
  dsimp only
  split <;> split <;> simp [addReason]

/-- The entry of a trigger names what the trigger names (R99, R102). -/
theorem fires (hs : s.namesOk) {u : State} {n : TrigNo} {t : Trigger} {due : Nat} (ht : s.trg[n] = some t)
    (hu : insertTriggerEntry n due t.defn.template s = some u) : u.namesOk := by
  unfold insertTriggerEntry at hu
  split at hu
  · cases hu
  · cases hu
    obtain ⟨hout, -⟩ := TrigDef.rolesFit_iff.1 ((State.rolesOk_iff.1 hs.roles).2 n t ht)
    refine ⟨hs.roles.insert (Entry.rolesFit_iff.2 ⟨hout, by simp⟩), hs.reference.insert _, fun su slot gen fb st i d he => ?_⟩
    obtain ⟨p, k, hst, hdone⟩ := hs.load su slot gen fb st i d (by simpa using he)
    have hlen := p.stages_length
    refine ⟨p, k, hst, hdone.insert (fun ⟨h2, h8⟩ => ?_) _⟩
    obtain ⟨-, hnone, -⟩ := hdone
    rw [hnone (by omega) (by omega) n] at ht
    cases ht

theorem mainReset (c : StartCause) : (mainReset c s).namesOk := by
  obtain ⟨-, -, -, -, htrg, hrds, -, -, -, -, -, hent, hlin⟩ := mainReset_blocks c s
  have hnone : ∀ n : TrigNo, (Machine.mainReset c s).trg[n] = none := fun n => by rw [htrg]; simp [resetBlocks]
  refine ⟨State.rolesOk_of_none hent hnone, fun n => ?_, .of_not_applying ?_⟩
  · rw [hlin, hrds]
    simp [resetBlocks, Line.fresh, LineConfig.off, Rds.fresh]
  · unfold State.applying
    rw [mainReset_prs]
    simp only [Prs.fresh]
    split_ifs <;> rfl

/-- One step of an application: the stage at hand, or its end (R138). -/
theorem loadStep (hs : s.namesOk) : (loadStep s).namesOk := by
  unfold Machine.loadStep
  split
  · rename_i hj
    split
    · have h1 : (s.setJob .idle).namesOk := hs.narrow (.of_eq rfl rfl (fun _ => rfl) rfl) (.inr rfl)
      exact (h1.removeReason .load).of_eq rfl rfl (fun _ => rfl) rfl rfl
    · rename_i st rest
      obtain ⟨p, k, hst, hdone⟩ := hs.load _ _ _ _ _ _ _ hj
      obtain ⟨hat, hrest⟩ := Profile.stageAt_of_drop hst.symm
      have hnext := AtStage.next ⟨hs.roles, hs.reference, hdone⟩ hat
      refine ⟨hnext.roles, hnext.reference, fun su slot gen fb sts i d he => ?_⟩
      cases he
      exact ⟨p, k + 1, hrest, hnext.done⟩
  · exact hs

theorem beginApply (hs : s.namesOk) {m : List Host.Cell} {slot : Slot} {v : Nat × Profile} (hv : validateSlot m slot = some v)
    (su : Bool) (slot' : Slot) (fb : Bool) : (beginApply su slot' v fb s).namesOk := by
  refine ⟨hs.roles, hs.reference, fun su slot gen fb sts i d he => ?_⟩
  cases he
  exact ⟨v.2, 0, rfl, (validateSlot_checks hv).1, by omega, by omega, by omega, by omega⟩

end State.namesOk

/-- Every operation keeps the names in their roles. -/
theorem configured_namesOk : Configured State.namesOk where
  lnk _ h := h.of_eq rfl rfl (fun _ => rfl) rfl rfl
  cap _ h := h.of_eq rfl rfl (fun _ => rfl) rfl rfl
  lsm _ h := h.of_eq rfl rfl (fun _ => rfl) rfl rfl
  flash _ h := h.of_eq rfl rfl (fun _ => rfl) rfl rfl
  straps _ h := h.of_eq rfl rfl (fun _ => rfl) rfl rfl
  draws _ h := h.of_eq rfl rfl (fun _ => rfl) rfl rfl
  owed _ h := h.of_eq rfl rfl (fun _ => rfl) rfl rfl
  tmb _ _ h := h.of_eq rfl rfl (fun _ => rfl) rfl rfl
  lines _ hv h := h.of_eq rfl rfl hv rfl rfl
  trg _ hv h := h.narrow ⟨.of_sch rfl, hv, fun _ => rfl, rfl⟩ (.inl rfl)
  rds _ hr h := h.of_eq rfl rfl (fun _ => rfl) hr rfl
  prs _ hx h := h.narrow (.of_eq rfl rfl (fun _ => rfl) rfl) hx
  sch _ he _ _ h := h.of_entries (.of_sublist he) rfl (fun _ => rfl) rfl rfl
  removal r h := h.removeReason r
  validity v c k h := h.of_entries (setValidity_entriesFrom v c k _) (by simp) (by simp) (by simp) (by simp)
  step new c d k h := h.of_entries (stepWith_entriesFrom new c d k _) (by simp) (by simp) (by simp) (by simp)
  advance k h := h.advanceInstant k
  reset c _ := State.namesOk.mainReset c
  fires ht hu h := h.fires ht hu
  adds hl _ he h := ⟨h.roles.insert he, h.reference.insert _,
    .of_not_applying (State.not_applying_of_not_loading (by simpa [State.loading] using hl))⟩
  places hl hother hfree h := ⟨h.roles.configureLine hfree, h.reference.configureLine fun hc m hm hr =>
      hother ⟨hc, List.any_eq_true.2 ⟨m, List.mem_finRange m, by simpa [hm] using hr⟩⟩,
    .of_not_applying (State.not_applying_of_not_loading (by simpa [State.loading] using hl))⟩
  sets {s n d} hl hd h := by
    refine ⟨State.rolesOk_iff.2 ⟨(State.rolesOk_iff.1 h.roles).1, fun m x hx => ?_⟩, h.reference,
      .of_not_applying (State.not_applying_of_not_loading hl)⟩
    by_cases e : n = m
    · subst e
      obtain rfl : Trigger.ofDef d = x := by simpa using hx
      exact hd
    · have hne : (n : Nat) ≠ m := fun h => e (Fin.ext h)
      exact (State.rolesOk_iff.1 h.roles).2 m x (by simpa [Vector.getElem_set, hne] using hx)
  begins su slot' fb hv h := h.beginApply hv su slot' fb
  stage h := h.loadStep

theorem losePower_trg (s : State) : (losePower s).trg = s.trg := by
  unfold losePower lossCommand
  dsimp only
  split_ifs <;> split <;> rfl

theorem losePower_rds (s : State) : (losePower s).rds = s.rds := by
  unfold losePower lossCommand
  dsimp only
  split_ifs <;> split <;> rfl

/-- Settles O60: the three properties together are `State.namesOk`, which every operation keeps, the stages of a load one by
one; without supply the configurations stand still. -/
theorem namedLinesKeepTheirRoles : Obligations.NamedLinesKeepTheirRoles := by
  intro s t hroles href hload hst
  have ht : t.namesOk :=
    step_keeps configured_namesOk.kept (fun _ _ h => h) (fun _ h => h)
      (fun s h => h.narrow (.of_eq (losePower_sch s) (losePower_trg s) (by simp) (by rw [losePower_rds])) (.inr rfl))
      (fun held pins s _ => by
        unfold gainPower coldStart
        dsimp only
        split <;> exact State.namesOk.mainReset _)
      (fun s _ h => by
        unfold backupAdvance
        split
        · exact h.of_eq rfl rfl (fun _ => rfl) rfl rfl
        · exact h)
      (fun _ h => h.of_eq rfl rfl (fun _ => rfl) rfl rfl)
      (fun pin drive s h => configured_namesOk.changePin pin drive h)
      (fun _ _ h => h.of_eq rfl rfl (fun _ => rfl) rfl rfl) ⟨hroles, href, hload⟩ hst
  exact ⟨ht.roles, ht.reference, ht.load⟩

end Sys2Proof.Machine

/-! ## Handles, and the place of a new entry -/

namespace Sys2Proof.Machine

/-! ### Free handles -/

/-- The candidates after a handle go round the 65535 values (R27). -/
theorem nextCandidate_iterate {c : Nat} (h1 : 1 ≤ c) (h2 : c ≤ 65535) (i : Nat) :
    nextCandidate^[i] c = (c - 1 + i) % 65535 + 1 := by
  induction i with
  | zero => rw [Function.iterate_zero_apply, Nat.add_zero, Nat.mod_eq_of_lt (by omega)]; omega
  | succ i ih =>
    rw [Function.iterate_succ_apply', ih]
    unfold nextCandidate
    split <;> omega

theorem nextCandidate_range {h : Nat} : 1 ≤ nextCandidate h ∧ nextCandidate h ≤ 65535 := by
  unfold nextCandidate
  split <;> omega

/-- The search ends at a candidate that is free, or every one it has tried is held (R27). -/
theorem freeHandle_cases (held : List Nat) (k c : Nat) :
    freeHandle held k c ∉ held ∨ ∀ i ≤ k, nextCandidate^[i] c ∈ held := by
  induction k generalizing c with
  | zero =>
    by_cases h : c ∈ held
    · exact .inr fun i hi => by obtain rfl : i = 0 := by omega
                                exact h
    · exact .inl h
  | succ k ih =>
    unfold freeHandle
    by_cases h : c ∈ held
    · rw [if_pos (List.contains_iff_mem.2 h)]
      refine (ih (nextCandidate c)).imp_right fun hall i hi => ?_
      cases i with
      | zero => exact h
      | succ i => rw [Function.iterate_succ_apply]; exact hall i (by omega)
    · rw [if_neg (by simpa using h)]; exact .inl h

theorem freeHandle_range (held : List Nat) (k : Nat) {c : Nat} (h : 1 ≤ c ∧ c ≤ 65535) :
    1 ≤ freeHandle held k c ∧ freeHandle held k c ≤ 65535 := by
  induction k generalizing c with
  | zero => exact h
  | succ k ih =>
    unfold freeHandle
    split
    · exact ih nextCandidate_range
    · exact h

/-- With fewer handles held than candidates tried a free one is found (R27). -/
theorem freeHandle_free {held : List Nat} {k c : Nat} (h1 : 1 ≤ c) (h2 : c ≤ 65535) (hk : k < 65535) (hlen : held.length ≤ k) :
    freeHandle held k c ∉ held := by
  refine (freeHandle_cases held k c).resolve_right fun hall => ?_
  have hnodup : ((List.range (k + 1)).map fun i => nextCandidate^[i] c).Nodup := by
    refine (List.nodup_range).map_on fun i hi j hj hij => ?_
    rw [List.mem_range] at hi hj
    rw [nextCandidate_iterate h1 h2, nextCandidate_iterate h1 h2] at hij
    omega
  have hsub : ((List.range (k + 1)).map fun i => nextCandidate^[i] c) ⊆ held := fun x hx => by
    obtain ⟨i, hi, rfl⟩ := List.mem_map.1 hx
    exact hall i (Nat.le_of_lt_succ (List.mem_range.1 hi))
  have := (hnodup.subperm hsub).length_le
  rw [List.length_map, List.length_range] at this
  omega

/-- The handle of a new entry (R27). -/
theorem Sch.newHandle_free {c : Sch} (hlen : c.entries.length ≤ 128) : ∀ x ∈ c.entries, x.handle ≠ c.newHandle := by
  obtain ⟨h1, h2⟩ := nextCandidate_range (h := c.lastHandle)
  have := freeHandle_free (held := c.entries.map (·.handle)) (k := 129) h1 h2 (by omega) (by rw [List.length_map]; omega)
  intro x hx he
  exact this (List.mem_map.2 ⟨x, hx, he⟩)

theorem Sch.newHandle_of_free {c : Sch} (h : ∀ x ∈ c.entries, x.handle ≠ nextCandidate c.lastHandle) :
    c.newHandle = nextCandidate c.lastHandle := by
  unfold Sch.newHandle freeHandle
  rw [if_neg]
  simpa using h

/-! ### Renumbering around a place -/

theorem restamp_append (k : Nat) (es fs : List Entry) : restamp k (es ++ fs) = restamp k es ++ restamp (k + es.length) fs := by
  induction es generalizing k with
  | nil => rfl
  | cons e es ih => simp [restamp, ih, Nat.add_assoc, Nat.add_comm 1]

/-- The place of an entry between the entries due no later and those due later (R30). -/
theorem placeEntry_between {e : Entry} {before after : List Entry} (hb : ∀ x ∈ before, x.due.ticks ≤ e.due.ticks)
    (ha : ∀ x ∈ after, e.due.ticks < x.due.ticks) : placeEntry e (before ++ after) = before ++ e :: after := by
  induction before with
  | nil =>
    cases after with
    | nil => rfl
    | cons x xs => simp [placeEntry, ha x (by simp)]
  | cons x xs ih => simp [placeEntry, hb x (by simp), ih fun y hy => hb y (by simp [hy])]

theorem restamp_due {k : Nat} {es : List Entry} {q : Instant → Prop} (h : ∀ x ∈ es, q x.due) : ∀ x ∈ restamp k es, q x.due := by
  intro x hx
  obtain ⟨y, hy, hxy⟩ := mem_restamp hx
  rw [hxy]
  exact h y hy

/-- Settles O15: the search for a handle, and the place in a schedule that is renumbered first or not. -/
theorem insertionsTakeTheirPlace : Obligations.InsertionsTakeTheirPlace := by
  intro c e
  refine ⟨fun hlen _ => ?_, fun hord hst => ?_, fun hst => ?_, fun hord hst => ?_⟩
  · obtain ⟨h1, h2⟩ := freeHandle_range (c.entries.map (·.handle)) 129 (nextCandidate_range (h := c.lastHandle))
    exact ⟨h1, h2, Sch.newHandle_free hlen, Sch.newHandle_of_free⟩
  · have hready : ({ c with lastHandle := c.newHandle } : Sch).readyStamp = { c with lastHandle := c.newHandle } := if_neg hst
    obtain ⟨b, a, hes, hplace, hb, ha⟩ :=
      placeEntry_split_sorted { e with handle := c.newHandle, stamp := c.stamps + 1 } hord
    refine ⟨b, a, hes, ?_, hb, ha, Sch.insertNew_lastHandle c e, ?_⟩
    · rw [← hplace, Sch.insertNew, Sch.enter_entries, hready]
    · rw [Sch.insertNew, Sch.enter, hready]
  · have hready : ({ c with lastHandle := c.newHandle } : Sch).readyStamp =
        { c with lastHandle := c.newHandle, entries := restamp 1 c.entries, stamps := c.entries.length } := if_pos hst
    rw [Sch.insertNew, Sch.enter, hready]
  · have hready : ({ c with lastHandle := c.newHandle } : Sch).readyStamp =
        { c with lastHandle := c.newHandle, entries := restamp 1 c.entries, stamps := c.entries.length } := if_pos hst
    obtain ⟨b, a, hes, -, hb, ha⟩ := placeEntry_split_sorted e hord
    refine ⟨b, a, hes, ?_, hb, ha, Sch.insertNew_lastHandle c e⟩
    have hnum : restamp 1 c.entries = restamp 1 b ++ restamp (1 + b.length) a := by rw [hes, restamp_append]
    have hplace := placeEntry_between (e := { e with handle := c.newHandle, stamp := c.entries.length + 1 })
      (restamp_due (k := 1) (q := fun d => d.ticks ≤ e.due.ticks) hb)
      (restamp_due (k := 1 + b.length) (q := fun d => e.due.ticks < d.ticks) ha)
    rw [Sch.insertNew, Sch.enter_entries, hready]
    dsimp only
    rw [hnum, hplace, restamp_eq_zipIdx, restamp_eq_zipIdx, Nat.add_comm 1]

end Sys2Proof.Machine

/-! ## Requests of the Scheduler, from their frames to their owner -/

namespace Sys2Proof.Machine

/-! ### What the owner finds -/

/-- Up to its owner a request changes the lease and the link alone (R152, R167, R170). -/
theorem begun_eq (h : FrameHead) (s : State) : ∃ k, begun h s = (s.setLsm s.lsm.renew).setLnk k := by
  unfold begun holdForReply
  cases h.kind with
  | posted => exact ⟨_, rfl⟩
  | request =>
    dsimp only
    split
    · exact ⟨_, rfl⟩
    · exact ⟨_, rfl⟩

section
variable (h : FrameHead) (s : State)

@[simp] theorem begun_power : (begun h s).power = s.power := by obtain ⟨k, e⟩ := begun_eq h s; rw [e]; rfl
@[simp] theorem begun_sch : (begun h s).sch = s.sch := by obtain ⟨k, e⟩ := begun_eq h s; rw [e]; rfl
@[simp] theorem begun_lin : (begun h s).lin = s.lin := by obtain ⟨k, e⟩ := begun_eq h s; rw [e]; rfl
@[simp] theorem begun_cap : (begun h s).cap = s.cap := by obtain ⟨k, e⟩ := begun_eq h s; rw [e]; rfl
@[simp] theorem begun_trg : (begun h s).trg = s.trg := by obtain ⟨k, e⟩ := begun_eq h s; rw [e]; rfl
@[simp] theorem begun_rds : (begun h s).rds = s.rds := by obtain ⟨k, e⟩ := begun_eq h s; rw [e]; rfl
@[simp] theorem begun_draws : (begun h s).draws = s.draws := by obtain ⟨k, e⟩ := begun_eq h s; rw [e]; rfl
@[simp] theorem begun_lsm : (begun h s).lsm = s.lsm.renew := by obtain ⟨k, e⟩ := begun_eq h s; rw [e]; rfl
@[simp] theorem begun_loading : (begun h s).loading = s.loading := by unfold State.loading; rw [begun_prs]
@[simp] theorem begun_outputRole (n : LineNo) : (begun h s).outputRole n = s.outputRole n := by
  unfold State.outputRole; rw [begun_lin]
@[simp] theorem begun_inputRole (n : LineNo) : (begun h s).inputRole n = s.inputRole n := by
  unfold State.inputRole; rw [begun_lin]
@[simp] theorem begun_raw (n : LineNo) : (begun h s).raw n = s.raw n := by
  unfold State.raw State.driven State.pulled; rw [begun_power, begun_lin, begun_draws]
theorem begun_setSch_self : (begun h s).setSch s.sch = begun h s := by
  conv_lhs => rw [← begun_sch h s]
  exact State.setSch_self _

end

/-! ### Fields of a payload -/

/-- The two-byte field whose bytes are those of a word. -/
theorem w16At_eq {p : List Byte} {i : Nat} {x : W16} (h0 : byteAt p i = BitVec.ofNat 8 x.toNat)
    (h1 : byteAt p (i + 1) = BitVec.ofNat 8 (x.toNat / 256)) : w16At p i = x := by
  unfold w16At u16At
  rw [h0, h1]
  exact w16At_u16 [] [] x

/-- The four-byte field whose bytes are those of a word. -/
theorem w32At_eq {p : List Byte} {i : Nat} {x : W32} (h0 : byteAt p i = BitVec.ofNat 8 x.toNat)
    (h1 : byteAt p (i + 1) = BitVec.ofNat 8 (x.toNat / 256)) (h2 : byteAt p (i + 2) = BitVec.ofNat 8 (x.toNat / 65536))
    (h3 : byteAt p (i + 3) = BitVec.ofNat 8 (x.toNat / 16777216)) : w32At p i = x := by
  unfold w32At u32At u16At
  rw [h0, h1, h2, h3]
  exact w32At_u32 [] [] x

/-- The flag byte of a Boolean. -/
theorem flagAt_eq {p : List Byte} {i : Nat} {b : Bool} (h : byteAt p i = if b then 1 else 0) : flagAt p i = some b := by
  unfold flagAt
  rw [h]
  cases b <;> rfl

/-! ### Cancelling, purging, holding -/

section
variable {h : FrameHead} {s : State}

/-- A row that is a request other than RESTART, with a payload that fits, is served (R163 to R170). -/
theorem exec_of_params {i : Instr} {r : Request} (hi : i.asRequest = some (h, r)) (hq : Quiet h s) (hr : r ≠ .restart)
    (hcode : requestCodes.contains (BitVec.ofNat 8 (requestCode r) : Byte).toNat = true)
    (hkind : h.kind = .posted → r.isRead = false) (hlen : (encodeParams r).length < Config.payloadMax)
    (hp : decodeParams (requestCode r) (encodeParams r) = some r) : exec i s = .next (served h r i.stateAfter s) :=
  exec_served hi hq hr (by simpa [encodeRequest] using hlen) (decodePayload_encodeRequest hcode hkind hp)

theorem exec_actCancel (hq : Quiet h s) (w : W16) : exec (.actCancel h w) s = .next (served h (.actCancel w) 0 s) :=
  exec_of_params rfl hq (by simp) rfl (fun _ => rfl) (by simp [encodeParams, u16, Config.payloadMax])
    (congrArg (some ∘ Request.actCancel) (w16At_eq (p := u16 w.toNat) (i := 0) rfl rfl))

theorem exec_actPurge (hq : Quiet h s) (lines : W16) (origins : Byte) :
    exec (.actPurge h lines origins) s = .next (served h (.actPurge lines origins) 0 s) :=
  exec_of_params rfl hq (by simp) rfl (fun _ => rfl) (by simp [encodeParams, u16, Config.payloadMax])
    (congrArg (fun x => some (Request.actPurge x origins)) (w16At_eq (p := u16 lines.toNat ++ [origins]) (i := 0) rfl rfl))

theorem exec_schedConfig (hq : Quiet h s) (w : W16) : exec (.schedConfig h w) s = .next (served h (.schedConfig w) 0 s) :=
  exec_of_params rfl hq (by simp) rfl (fun _ => rfl) (by simp [encodeParams, u16, Config.payloadMax])
    (congrArg (some ∘ Request.schedConfig) (w16At_eq (p := u16 w.toNat) (i := 0) rfl rfl))

theorem exec_schedHold (hq : Quiet h s) : exec (.schedHold h) s = .next (served h .schedHold 0 s) :=
  exec_of_params rfl hq (by simp) rfl (fun _ => rfl) (by decide) rfl

theorem exec_schedRelease (hq : Quiet h s) : exec (.schedRelease h) s = .next (served h .schedRelease 0 s) :=
  exec_of_params rfl hq (by simp) rfl (fun _ => rfl) (by decide) rfl

end

theorem Sch.find_eq_none {c : Sch} {n : Nat} : c.find n = none ↔ ∀ e ∈ c.entries, e.handle ≠ n := by
  simp [Sch.find, List.find?_eq_none]

/-- Settles O16: the checks of each request in their order, and the entries that a removal leaves. -/
theorem cancelsAndPurges : Obligations.CancelsAndPurges := by
  intro h s hq
  refine ⟨fun w => ?_, fun lines origins => ?_⟩
  · rw [exec_actCancel hq]
    simp only [served, answer, answerActCancel, begun_loading, begun_sch, requestCode]
    by_cases hl : s.loading = true
    · simp [hl, Answer.refuse]
    · cases hf : s.sch.find w.toNat with
      | none => rw [if_neg hl, if_neg hl, if_pos (Sch.find_eq_none.1 hf)]; rfl
      | some e =>
        have hheld : ¬∀ e ∈ s.sch.entries, e.handle ≠ w.toNat := fun hall => by
          rw [Sch.find_eq_none.2 hall] at hf; cases hf
        rw [if_neg hl, if_neg hl, if_neg hheld]
        rfl
  · have hmatch : ∀ e : Entry, e.matches lines origins = ((decide (lines = 0) || decide (lines &&& e.lines ≠ 0)) &&
        (decide (origins = 0) || origins.getLsbD e.origin.code)) := fun e => by
      simp only [Entry.matches, Origin.bit, bne, decide_not]; rfl
    rw [exec_actPurge hq]
    simp only [served, answer, answerActPurge, begun_loading, begun_sch, requestCode]
    by_cases hl : s.loading = true
    · simp [hl, Answer.refuse]
    · by_cases ho : 8 ≤ origins.toNat
      · rw [if_neg hl, if_neg hl, if_pos ho, if_pos (by omega)]; rfl
      · rw [if_neg hl, if_neg hl, if_neg ho, if_neg (by omega)]
        simp only [Answer.ok, Sch.without, hmatch]
        rfl

/-- Settles O17: HOST put into the set or out of it, and the tolerance behind its checks. -/
theorem holdsReleasesConfigures : Obligations.HoldsReleasesConfigures := by
  intro h s hq
  refine ⟨?_, ?_, fun w => ?_⟩
  · rw [exec_schedHold hq]
    simp [served, answer, answerSchedHold, Answer.ok, addReason, HoldSet.put, requestCode]
  · rw [exec_schedRelease hq]
    simp only [served, answer, answerSchedRelease, Answer.ok, removeReason, begun_sch, HoldSet.put, HoldSet.has, requestCode,
      State.setSch_sch]
    by_cases hh : s.sch.hold.host = true
    · simp [hh]
    · have hself : ({ s.sch with hold := { s.sch.hold with host := false } } : Sch) = s.sch := by
        rw [← Bool.eq_false_iff.2 hh]
      rw [if_neg hh, if_neg fun hc => hh hc.1, hself, begun_setSch_self]
      rw [← Bool.eq_false_iff.2 hh]
      rfl
  · rw [exec_schedConfig hq]
    simp only [served, answer, answerSchedConfig, begun_loading, begun_sch, requestCode]
    by_cases hl : s.loading = true
    · simp [hl, Answer.refuse]
    · rw [if_neg hl, if_neg hl]
      by_cases hw : 1023 < w.toNat
      · rw [if_pos hw, if_pos hw]; rfl
      · rw [if_neg hw, if_neg hw]; rfl

end Sys2Proof.Machine

/-! ## The firing of a trigger -/

namespace Sys2Proof.Machine

/-- Which edges a setting selects (R101). -/
theorem TrigEdge.matches_iff {t : TrigEdge} {e : Edge} : t.matches e = true ↔
    t = .both ∨ (t = .rise ∧ e = .rise) ∨ (t = .fall ∧ e = .fall) := by
  cases t <;> cases e <;> simp [TrigEdge.matches]

section
variable {n : TrigNo} {x : Trigger} {e : EdgeReport} {s : State}

/-- A trigger that an edge does not select, or that is not ARMED, leaves everything (R100, R101). -/
theorem offerEdge_of_passed (h : ∀ x, s.trg[n] = some x →
    ¬(x.defn.source = e.line ∧ x.defn.edge.matches e.edge = true ∧ x.state = .armed)) : offerEdge e n s = s := by
  unfold offerEdge
  split
  · rfl
  · exact if_neg (h _ ‹_›)

theorem offerEdge_of_selected (hx : s.trg[n] = some x) (hsrc : x.defn.source = e.line)
    (hm : x.defn.edge.matches e.edge = true) (harm : x.state = .armed) : offerEdge e n s = fireTrigger n x e s := by
  unfold offerEdge
  rw [hx]
  exact if_pos ⟨hsrc, hm, harm⟩

/-- With a full schedule a firing is an overrun (R35, R103). -/
theorem fireTrigger_of_full (h : 128 ≤ s.sch.entries.length) : fireTrigger n x e s =
    post (.triggerOverrun n x.afterOverrun.overruns e.onset e.generation) (s.setTrigger n (some x.afterOverrun)) := by
  unfold fireTrigger insertTriggerEntry
  rw [if_pos h]

/-- The entry that a trigger asks for (R35, R102). -/
def Trigger.entry (n : TrigNo) (x : Trigger) (e : EdgeReport) : Entry :=
  { handle := 0, label := BitVec.ofNat 16 (n.val + 1),
    due := Instant.ofTicks (min (e.onset.ticks + x.defn.delay) Instant.top.ticks), anchor := .interval,
    kind := x.defn.template.kind, lines := x.defn.template.lines, width := x.defn.template.width, rep := none,
    remaining := 0, late := x.defn.template.late, guard := none, notify := x.defn.template.notify, standing := false,
    origin := .trigger, suppressed := 0, stamp := 0 }

/-- With room the entry is inserted, and the trigger moves on (R102, R105). -/
theorem fireTrigger_of_room (h : s.sch.entries.length < 128) : fireTrigger n x e s =
    if x.afterFiring.state = .spent then
      post (.triggerSpent n x.afterFiring.fired) ((insertAndPass (x.entry n e) s).setTrigger n (some x.afterFiring))
    else (insertAndPass (x.entry n e) s).setTrigger n (some x.afterFiring) := by
  unfold fireTrigger insertTriggerEntry
  rw [if_neg (by simp only [Config.scheduleMax]; omega)]
  rfl

/-- What a firing leaves of a trigger that was ARMED (R102, R105). -/
theorem Trigger.afterFiring_of_armed (harm : x.state = .armed) :
    let y : Trigger := { x with fired := x.fired + 1, armCount := x.armCount - 1 }
    (x.armCount = 1 → x.afterFiring = { y with state := .spent }) ∧
    (x.armCount ≠ 1 → 0 < x.defn.holdoff → x.afterFiring = { y with state := .holdoff, remainder := x.defn.holdoff }) ∧
    (x.armCount ≠ 1 → ¬0 < x.defn.holdoff → x.afterFiring = y ∧ x.afterFiring.state = .armed) := by
  refine ⟨fun h => ?_, fun h hh => ?_, fun h hh => ?_⟩ <;> unfold Trigger.afterFiring <;> dsimp only
  · rw [if_pos h]
  · rw [if_neg h, if_pos hh]
  · rw [if_neg h, if_neg hh]; exact ⟨rfl, harm⟩

end

theorem finRange_eight : List.finRange 8 = [0, 1, 2, 3, 4, 5, 6, 7] := by decide

/-- With the log's place behind the triggers an edge is offered to them alone, in rising id (R100). -/
theorem handToTriggers_of_last {e : EdgeReport} {order : EdgeOrder} {s : State} (ho : 8 ≤ order.logAfter) :
    handToTriggers e order s = (List.finRange 8).foldl (fun u n => offerEdge e n u) s := by
  have hlog : ∀ (n : TrigNo) (u : State), logAt n e order u = u := fun n u => if_neg (by omega)
  unfold handToTriggers
  simp only [hlog]

/-- Settles O44: the receivers of an edge in rising id, and the firing of a selected trigger by the room in the schedule. -/
theorem triggersFire : Obligations.TriggersFire := by
  refine ⟨fun e order s ho => ?_, fun n e s h => ?_, fun n x e s hx harm hsrc hedge => ⟨fun hfull => ?_, fun hroom => ?_⟩⟩
  · rw [handToTriggers_of_last ho, finRange_eight]
    simp only [List.foldl_cons, List.foldl_nil]
  · refine offerEdge_of_passed fun x hx ⟨hsrc, hm, harm⟩ => ?_
    rw [TrigEdge.matches_iff] at hm
    rcases h x hx with h | h | ⟨h1, h2⟩ | ⟨h1, h2⟩
    · exact h harm
    · exact h hsrc
    all_goals simp [h1, h2] at hm
  · rw [offerEdge_of_selected hx hsrc (TrigEdge.matches_iff.2 hedge) harm, fireTrigger_of_full hfull]
    rfl
  · rw [offerEdge_of_selected hx hsrc (TrigEdge.matches_iff.2 hedge) harm, fireTrigger_of_room hroom]
    dsimp only
    obtain ⟨hspent, hhold, hstay⟩ := Trigger.afterFiring_of_armed harm
    by_cases h1 : x.armCount = 1
    · rw [hspent h1, if_pos rfl, if_pos h1]; rfl
    · by_cases h2 : 0 < x.defn.holdoff
      · rw [hhold h1 h2, if_neg (by simp), if_neg h1, if_pos h2]; rfl
      · obtain ⟨hy, hstate⟩ := hstay h1 h2
        rw [if_neg (by simp [hstate]), if_neg h1, if_neg h2, hy]; rfl

end Sys2Proof.Machine

/-! ## The status reads -/

namespace Sys2Proof.Machine

/-! ### The records (10.2) -/

theorem u8_length (n : Nat) : (u8 n).length = 1 := rfl
theorem u16_length (n : Nat) : (u16 n).length = 2 := rfl
theorem u32_length (n : Nat) : (u32 n).length = 4 := rfl
theorem flag_length (b : Bool) : (flag b).length = 1 := rfl

theorem entryFlags_eq (e : Entry) : entryFlags e.anchor e.late e.notify e.standing e.rep.isSome e.guard.isSome =
    (if e.anchor = .interval then 1 else 0) + (if e.late = .skip then 2 else 0) + (if e.notify then 4 else 0) +
      (if e.standing then 8 else 0) + (if e.rep = none then 0 else 16) + (if e.guard = none then 0 else 32) := by
  have ha : e.anchor.code = if e.anchor = .interval then 1 else 0 := by cases e.anchor <;> rfl
  have hl : 2 * e.late.code = if e.late = .skip then 2 else 0 := by cases e.late <;> rfl
  have hr : bitOf e.rep.isSome 16 = if e.rep = none then 0 else 16 := by cases e.rep <;> rfl
  have hg : bitOf e.guard.isSome 32 = if e.guard = none then 0 else 32 := by cases e.guard <;> rfl
  rw [entryFlags, ha, hl, hr, hg]
  rfl

/-- The action record (10.2). -/
theorem Entry.record_eq (e : Entry) : e.record =
    u16 e.handle ++ u16 e.label.toNat ++ u32 e.due.sec ++ u16 e.due.tick ++ u8 e.kind.code ++
    u8 ((if e.anchor = .interval then 1 else 0) + (if e.late = .skip then 2 else 0) + (if e.notify then 4 else 0) +
      (if e.standing then 8 else 0) + (if e.rep = none then 0 else 16) + (if e.guard = none then 0 else 32)) ++
    u16 e.lines.toNat ++ u16 e.width ++
    (match e.rep with
      | none => [0, 0, 0, 0]
      | some r => u32 r.period) ++ u16 e.remaining ++
    (match e.guard with
      | none => [0, 0]
      | some g => u8 (g.line.val + 1) ++ u8 g.level.code) ++ u8 e.origin.code ++ u16 e.suppressed ++ [0, 0, 0, 0, 0] := by
  rw [Entry.record, entryFlags_eq]
  cases e.rep <;> cases e.guard <;> rfl

theorem Entry.record_length (e : Entry) : e.record.length = 32 := by
  simp only [Entry.record, instantBytes, padding, List.length_append, u8_length, u16_length, u32_length, List.length_replicate]

/-- The line status record (R85, 10.2). -/
theorem Line.status_eq (l : Line) (raw : Level) : l.status raw =
    u8 l.config.role.code ++ u8 l.config.initial.code ++ u8 l.config.safe.code ++ u8 l.config.pull.code ++
    u8 l.config.filter ++ u8 l.config.capture.code ++
    (let outputs : Nat × Nat := match l.output with
       | none => (0, 0)
       | some ⟨c, none⟩ => (c.code, 0)
       | some ⟨c, some p⟩ => (c.code + 2 + 4 * p.rest.code, p.remainder)
     let inputs : Nat × Nat := match l.input with
       | none => (raw.code, 0)
       | some ⟨a, none⟩ => (a.code, 0)
       | some ⟨a, some r⟩ => (a.code, r.count)
     u8 (outputs.1 + 8 * raw.code + 16 * inputs.1) ++ u16 outputs.2 ++ u8 inputs.2) ++ u16 l.glitches := by
  obtain ⟨config, output, input, glitches, ext⟩ := l
  rcases output with _ | ⟨c, _ | ⟨rest, rem⟩⟩ <;> rcases input with _ | ⟨a, _ | ⟨count, onset, gen⟩⟩ <;> rfl

theorem Line.status_length (l : Line) (raw : Level) : (l.status raw).length = 12 := by
  simp only [Line.status, LineRecord.bytes, List.length_append, u8_length, u16_length, List.length_cons, List.length_nil]

theorem CapRecord.bytes_length (r : CapRecord) : r.bytes.length = 16 := rfl

/-- The capture record (10.2). -/
theorem CapRecord.bytes_eq (r : CapRecord) : r.bytes =
    u32 r.serial.toNat ++ u8 (r.line.val + 1) ++ u8 r.edge.code ++ u32 r.instant.sec ++ u16 r.instant.tick ++
    u16 r.generation.toNat ++ u8 r.validity.code ++ [0] := by
  simp only [CapRecord.bytes, instantBytes, List.append_assoc]
  rfl

theorem triggerRecord_some_length (t : TrigNo) (x : Trigger) : (triggerRecord t (some x)).length = 28 := by
  simp only [triggerRecord, padding, List.length_append, u8_length, u16_length, u32_length, flag_length, List.length_replicate]

/-- The trigger record of a trigger that is set (10.2). -/
theorem triggerRecord_some_eq (t : TrigNo) (x : Trigger) : triggerRecord t (some x) =
    u8 (t.val + 1) ++ [1] ++ u8 (x.defn.source.val + 1) ++ u8 x.defn.edge.code ++ u32 x.defn.delay ++ u16 x.defn.holdoff ++
    u8 x.armCount ++ u8 x.defn.template.kind.code ++ u16 x.defn.template.lines.toNat ++ u16 x.defn.template.width ++
    u8 x.defn.template.late.code ++ [if x.defn.template.notify then 1 else 0] ++ u8 x.state.code ++ [0] ++ u16 x.remainder ++
    u16 x.overruns ++ u32 x.fired.toNat := rfl

theorem HoldSet.byte_eq (h : HoldSet) : h.byte =
    u8 ((if h.host then 1 else 0) + (if h.notime then 2 else 0) + (if h.lease then 4 else 0) + (if h.load then 8 else 0)) := rfl

/-! ### The reads -/

section
variable {q : Byte} {s : State}

/-- A request without an anchor in the payload but its code is served on a quiet link. -/
theorem exec_read {i : Instr} {r : Request} (hi : i.asRequest = some (⟨.request, q⟩, r)) (hq : Quiet ⟨.request, q⟩ s)
    (hr : r ≠ .restart) (hcode : requestCodes.contains (BitVec.ofNat 8 (requestCode r) : Byte).toNat = true)
    (hlen : (encodeParams r).length < Config.payloadMax)
    (hp : decodeParams (requestCode r) (encodeParams r) = some r) :
    exec i s = .next (served ⟨.request, q⟩ r i.stateAfter s) :=
  exec_of_params hi hq hr hcode (fun h => by cases h) hlen hp

theorem exec_actGet (hq : Quiet ⟨.request, q⟩ s) (w : W16) :
    exec (.actGet ⟨.request, q⟩ w) s = .next (served ⟨.request, q⟩ (.actGet w) 0 s) :=
  exec_read rfl hq (by simp) rfl (by simp [encodeParams, u16, Config.payloadMax])
    (congrArg (some ∘ Request.actGet) (w16At_eq (p := u16 w.toNat) (i := 0) rfl rfl))

theorem exec_actList (hq : Quiet ⟨.request, q⟩ s) (w : W16) :
    exec (.actList ⟨.request, q⟩ w) s = .next (served ⟨.request, q⟩ (.actList w) 0 s) :=
  exec_read rfl hq (by simp) rfl (by simp [encodeParams, u16, Config.payloadMax])
    (congrArg (some ∘ Request.actList) (w16At_eq (p := u16 w.toNat) (i := 0) rfl rfl))

theorem exec_lineStatus (hq : Quiet ⟨.request, q⟩ s) (b : Bool) :
    exec (.lineStatus ⟨.request, q⟩ b) s = .next (served ⟨.request, q⟩ (.lineStatus b) 0 s) :=
  exec_read rfl hq (by simp) rfl (by simp [encodeParams, flag, Config.payloadMax])
    (congrArg (Option.map Request.lineStatus) (flagAt_eq (p := flag b) (i := 0) rfl))

theorem exec_linkStatus (hq : Quiet ⟨.request, q⟩ s) (b : Bool) :
    exec (.linkStatus ⟨.request, q⟩ b) s = .next (served ⟨.request, q⟩ (.linkStatus b) 0 s) :=
  exec_read rfl hq (by simp) rfl (by simp [encodeParams, flag, Config.payloadMax])
    (congrArg (Option.map Request.linkStatus) (flagAt_eq (p := flag b) (i := 0) rfl))

/-- The seconds left of a lease that the request itself has just renewed (R152, R158). -/
theorem Lsm.renew_secondsLeft (l : Lsm) : l.renew.secondsLeft = if l.state = .running then l.period else 0 := by
  unfold Lsm.renew
  cases h : l.state with
  | running => simp only [Lsm.secondsLeft, Lsm.limit, Config.ticksPerSecond, if_true]; omega
  | disabled | expired => simp [Lsm.secondsLeft, h]

@[simp] theorem Lsm.renew_period (l : Lsm) : l.renew.period = l.period := by unfold Lsm.renew; split <;> rfl
@[simp] theorem Lsm.renew_fallback (l : Lsm) : l.renew.fallback = l.fallback := by unfold Lsm.renew; split <;> rfl
@[simp] theorem Lsm.renew_state (l : Lsm) : l.renew.state = l.state := by unfold Lsm.renew; split <;> simp_all

/-- The link as a REQUEST finds it at its owner: the sequence state has moved on (R167, R178). -/
theorem begun_linkStatusData : linkStatusData (begun ⟨.request, q⟩ s).lnk =
    s.lnk.counters.bytes ++ u8 s.lnk.credits ++ u8 s.lnk.notices.length ++ u16 s.lnk.lost ++ [1, q + 1, q, 1] := by
  unfold begun holdForReply
  dsimp only
  split <;> rfl

end

/-! ### Each read is served with the values of the state found -/

section
variable {q : Byte} {s : State} (hq : Quiet ⟨.request, q⟩ s)
include hq

theorem exec_actGet_of_some {w : W16} {e : Entry} (h : s.sch.find w.toNat = some e) : exec (.actGet ⟨.request, q⟩ w) s =
    .next (ended ⟨.request, q⟩ 0x23 .ok e.record (begun ⟨.request, q⟩ s)) := by
  rw [exec_actGet hq]
  simp only [served, answer, answerActGet, begun_sch, h, Answer.ok, requestCode, BitVec.ofNat_eq_ofNat]

theorem exec_actGet_of_none {w : W16} (h : s.sch.find w.toNat = none) : exec (.actGet ⟨.request, q⟩ w) s =
    .next (ended ⟨.request, q⟩ 0x23 .notFound [] (begun ⟨.request, q⟩ s)) := by
  rw [exec_actGet hq]
  simp only [served, answer, answerActGet, begun_sch, h, Answer.refuse, requestCode, BitVec.ofNat_eq_ofNat]

theorem exec_actList_eq (p : W16) : exec (.actList ⟨.request, q⟩ p) s = .next (ended ⟨.request, q⟩ 0x24 .ok
    (let part := (s.sch.entries.drop p.toNat).take 7
     u8 s.sch.entries.length ++ u8 part.length ++ (part.map Entry.record).flatten) (begun ⟨.request, q⟩ s)) := by
  rw [exec_actList hq]
  simp only [served, answer, answerActList, begun_sch, Answer.ok, requestCode, BitVec.ofNat_eq_ofNat]

theorem exec_schedStatus_eq : exec (.schedStatus ⟨.request, q⟩) s = .next (ended ⟨.request, q⟩ 0x2A .ok
    (u8 s.sch.entries.length ++ u8 (s.sch.entries.filter (·.standing)).length ++ s.sch.hold.byte ++ u16 s.sch.tolerance ++
     (match s.sch.entries.head? with
      | none => flag false ++ instantBytes Instant.zero
      | some e => flag true ++ instantBytes e.due)) (begun ⟨.request, q⟩ s)) := by
  rw [exec_read rfl hq (by simp) rfl (by decide) rfl]
  simp only [served, answer, answerSchedStatus, Sch.standing, begun_sch, Answer.ok, requestCode, BitVec.ofNat_eq_ofNat]
  cases s.sch.entries <;> rfl

/-- The levels that LINE-STATUS reads are drawn, so the draw count moves on (log entry 1). -/
theorem exec_lineStatus_eq (clear : Bool) : exec (.lineStatus ⟨.request, q⟩ clear) s =
    let b := begun ⟨.request, q⟩ s
    .next (ended ⟨.request, q⟩ 0x32 .ok ((List.finRange 16).map fun n => (s.lin[n]).status (s.raw n)).flatten
      ((if clear then b.setLin (b.lin.map fun l => { l with glitches := 0 }) else b).setDraws (s.draws + 1))) := by
  rw [exec_lineStatus hq]
  simp only [served, answer, answerLineStatus, lineStatusData, begun_lin, begun_raw, Answer.ok, requestCode,
    BitVec.ofNat_eq_ofNat]
  cases clear <;> simp [State.drawn, clearGlitches]

theorem exec_capRead_eq : exec (.capRead ⟨.request, q⟩) s = .next (ended ⟨.request, q⟩ 0x41 .ok
    (u16 s.cap.log.length ++ u16 s.cap.lost ++ u32 s.cap.lastSerial.toNat ++ u8 (min 14 s.cap.log.length) ++
     ((s.cap.log.take 14).map CapRecord.bytes).flatten) (begun ⟨.request, q⟩ s)) := by
  rw [exec_read rfl hq (by simp) rfl (by decide) rfl]
  simp only [served, answer, answerCapRead, begun_cap, List.length_take, Answer.ok, requestCode, BitVec.ofNat_eq_ofNat]

theorem exec_trgStatus_eq : exec (.trgStatus ⟨.request, q⟩) s = .next (ended ⟨.request, q⟩ 0x4C .ok
    ((List.finRange 8).map fun t => triggerRecord t s.trg[t]).flatten (begun ⟨.request, q⟩ s)) := by
  rw [exec_read rfl hq (by simp) rfl (by decide) rfl]
  simp only [served, answer, answerTrgStatus, begun_trg, Answer.ok, requestCode, BitVec.ofNat_eq_ofNat]

theorem exec_refStatus_eq : exec (.refStatus ⟨.request, q⟩) s = .next (ended ⟨.request, q⟩ 0x51 .ok
    (s.rds.config.bytes ++ u8 ((s.rds.line.map fun n => n.val + 1).getD 0) ++ u8 s.rds.state.code ++ u8 s.rds.run ++
     u16 s.rds.count ++ u8 s.rds.history.length ++ (s.rds.history.map Sample.bytes).flatten) (begun ⟨.request, q⟩ s)) := by
  rw [exec_read rfl hq (by simp) rfl (by decide) rfl]
  simp only [served, answer, answerRefStatus, begun_rds, Answer.ok, requestCode, BitVec.ofNat_eq_ofNat]

theorem exec_profStatus_eq : exec (.profStatus ⟨.request, q⟩) s = .next (ended ⟨.request, q⟩ 0x63 .ok
    (flag s.prs.present ++ flag s.prs.descA.valid ++ u32 s.prs.descA.generation ++ flag s.prs.descB.valid ++
     u32 s.prs.descB.generation ++ u8 (slotCode (currentSlot s.prs.descA s.prs.descB)) ++ u8 s.prs.job.opState ++
     u8 (slotCode s.prs.target) ++ flag s.prs.locked) (begun ⟨.request, q⟩ s)) := by
  rw [exec_read rfl hq (by simp) rfl (by decide) rfl]
  simp only [served, answer, answerProfStatus, begun_prs, Descriptor.bytes, List.append_assoc, Answer.ok,
    requestCode, BitVec.ofNat_eq_ofNat]

theorem exec_leaseStatus_eq : exec (.leaseStatus ⟨.request, q⟩) s = .next (ended ⟨.request, q⟩ 0x72 .ok
    (u16 s.lsm.period ++ u8 s.lsm.fallback.code ++ u8 s.lsm.state.code ++
     u16 (if s.lsm.state = .running then s.lsm.period else 0)) (begun ⟨.request, q⟩ s)) := by
  rw [exec_read rfl hq (by simp) rfl (by decide) rfl]
  simp only [served, answer, answerLeaseStatus, begun_lsm, Lsm.renew_period, Lsm.renew_fallback, Lsm.renew_state,
    Lsm.renew_secondsLeft, Answer.ok, requestCode, BitVec.ofNat_eq_ofNat]

theorem exec_linkStatus_eq (clear : Bool) : exec (.linkStatus ⟨.request, q⟩ clear) s =
    let b := begun ⟨.request, q⟩ s
    .next (ended ⟨.request, q⟩ 0x02 .ok
      (s.lnk.counters.bytes ++ u8 s.lnk.credits ++ u8 s.lnk.notices.length ++ u16 s.lnk.lost ++ [1, q + 1, q, 1])
      (if clear then b.setLnk { b.lnk with counters := Counters.zero } else b)) := by
  rw [exec_linkStatus hq]
  simp only [served, answer, answerLinkStatus, begun_linkStatusData, Answer.ok, requestCode, BitVec.ofNat_eq_ofNat]

end

/-- Settles O7: each read with the values of the state found, and each record by its layout. -/
theorem statusReadsReply : Obligations.StatusReadsReply := by
  refine ⟨fun q s hq => ?reads, fun n => ⟨rfl, rfl, rfl⟩, fun e => ⟨e.record_length, e.record_eq⟩,
    fun r => ⟨r.bytes_length, r.bytes_eq⟩, fun l raw => ⟨l.status_length raw, l.status_eq raw⟩, fun t => rfl,
    fun t x => ⟨triggerRecord_some_length t x, triggerRecord_some_eq t x⟩, fun x => ⟨rfl, rfl⟩,
    fun c => rfl, fun c => rfl, HoldSet.byte_eq, ?codes⟩
  case reads =>
    exact ⟨fun w e h => exec_actGet_of_some hq h, fun w h => exec_actGet_of_none hq h, exec_actList_eq hq,
      exec_schedStatus_eq hq, exec_lineStatus_eq hq, exec_capRead_eq hq, exec_trgStatus_eq hq, exec_refStatus_eq hq,
      exec_profStatus_eq hq, exec_leaseStatus_eq hq, exec_linkStatus_eq hq⟩
  case codes => decide

end Sys2Proof.Machine

/-! ## ACT-ADD -/

namespace Sys2Proof.Machine

/-! ### The codes of its fields (10.2) -/

section
variable {b : Byte}

theorem Anchor.ofCode_eq_none : Anchor.ofCode b = none ↔ 1 < b.toNat := by
  rcases h : b.toNat with _ | _ | n <;> simp [Anchor.ofCode, h]

theorem Kind.ofCode_eq_none : Kind.ofCode b = none ↔ 4 < b.toNat := by
  rcases h : b.toNat with _ | _ | _ | _ | _ | n <;> simp [Kind.ofCode, h]

theorem LatePolicy.ofCode_eq_none : LatePolicy.ofCode b = none ↔ 1 < b.toNat := by
  rcases h : b.toNat with _ | _ | n <;> simp [LatePolicy.ofCode, h]

theorem Level.ofCode_eq_none : Level.ofCode b = none ↔ 1 < b.toNat := by
  rcases h : b.toNat with _ | _ | n <;> simp [Level.ofCode, h]

theorem lineOfByte_eq_none : lineOfByte b = none ↔ b.toNat < 1 ∨ 16 < b.toNat := by
  unfold lineOfByte; split <;> simp <;> omega

theorem Anchor.code_of_ofCode {a : Anchor} (h : Anchor.ofCode b = some a) : a.code = b.toNat := by
  unfold Anchor.ofCode at h; split at h <;> cases h <;> exact Eq.symm ‹_›

theorem Kind.code_of_ofCode {k : Kind} (h : Kind.ofCode b = some k) : k.code = b.toNat := by
  unfold Kind.ofCode at h; split at h <;> cases h <;> exact Eq.symm ‹_›

theorem LatePolicy.code_of_ofCode {l : LatePolicy} (h : LatePolicy.ofCode b = some l) : l.code = b.toNat := by
  unfold LatePolicy.ofCode at h; split at h <;> cases h <;> exact Eq.symm ‹_›

theorem Level.code_of_ofCode {l : Level} (h : Level.ofCode b = some l) : l.code = b.toNat := by
  unfold Level.ofCode at h; split at h <;> cases h <;> exact Eq.symm ‹_›

theorem lineOfByte_eq_some {n : LineNo} : lineOfByte b = some n ↔ b.toNat = n.val + 1 := by
  have := n.isLt
  unfold lineOfByte
  split <;> simp [Fin.ext_iff] <;> omega

/-- A byte reads as an anchor by its code. -/
theorem Anchor.ofCode_eq_some {a : Anchor} (h : Anchor.ofCode b = some a) :
    a = if b = 0 then .calendar else .interval := by
  have hc := Anchor.code_of_ofCode h
  cases a
  · rw [if_pos (BitVec.eq_of_toNat_eq hc.symm)]
  · rw [if_neg (fun h0 => by simp [h0, Anchor.code] at hc)]

/-! ### Its field checks (R32, R33 check 2) -/

/-- A line set and a width that do not fit the kind (R33). -/
theorem Kind.fits_eq_false {k : Kind} {l w : W16} (h : Kind.ofCode b = some k) : k.fits l w.toNat = false ↔
    (b = 4 ∧ l ≠ 0) ∨ (b ≠ 4 ∧ l = 0) ∨ (b = 3 ∧ w = 0) ∨ (b ≠ 3 ∧ w ≠ 0) := by
  have hb := Kind.code_of_ofCode h
  have h3 : b = 3 ↔ k.code = 3 := by rw [hb, ← BitVec.toNat_inj]; rfl
  have h4 : b = 4 ↔ k.code = 4 := by rw [hb, ← BitVec.toNat_inj]; rfl
  have hw : w = 0 ↔ w.toNat = 0 := by rw [← BitVec.toNat_inj]; rfl
  simp only [ne_eq, h3, h4, hw]
  cases k <;> simp [Kind.fits, Kind.code] <;> tauto

theorem readGuard_eq_none {present : Bool} {line level : Byte} : readGuard present line level = none ↔
    (present = true ∧ (line.toNat < 1 ∨ 16 < line.toNat ∨ 1 < level.toNat)) ∨
    (present = false ∧ (line ≠ 0 ∨ level ≠ 0)) := by
  cases present
  · simp [readGuard, or_iff_not_imp_left]
  · rw [← or_assoc, ← lineOfByte_eq_none, ← Level.ofCode_eq_none]
    simp only [readGuard, if_true, true_and, reduceCtorEq, false_and, or_false]
    cases lineOfByte line <;> cases Level.ofCode level <;> simp

theorem readRep_eq_none {present : Bool} {period : W32} {count : W16} : readRep present period.toNat count.toNat = none ↔
    (present = true ∧ (period.toNat < 8 ∨ 619315200 < period.toNat)) ∨ (present = false ∧ (period ≠ 0 ∨ count ≠ 0)) := by
  have hp : period = 0 ↔ period.toNat = 0 := by rw [← BitVec.toNat_inj]; rfl
  have hc : count = 0 ↔ count.toNat = 0 := by rw [← BitVec.toNat_inj]; rfl
  rw [Ne, Ne, hp, hc]
  cases present
  · simp [readRep, or_iff_not_imp_left]
  · simp [readRep, or_iff_not_imp_left]

theorem readDue_eq_none {a : Anchor} {sec tick now : Nat} (h : Anchor.ofCode b = some a) : readDue a sec tick now = none ↔
    (b = 0 ∧ (3155759999 < sec ∨ 1023 < tick)) ∨
    (b = 1 ∧ (1023 < tick ∨ Instant.top.ticks < now + sec * 1024 + tick)) := by
  have hb := Anchor.code_of_ofCode h
  have h0 : b = 0 ↔ a.code = 0 := by rw [hb, ← BitVec.toNat_inj]; rfl
  have h1 : b = 1 ↔ a.code = 1 := by rw [hb, ← BitVec.toNat_inj]; rfl
  rw [h0, h1]
  cases a <;> simp [readDue, Anchor.code, or_iff_not_imp_left]

/-- A standing entry has a CALENDAR anchor (R33). -/
theorem standing_interval_iff {a : Anchor} {standing : Bool} (h : Anchor.ofCode b = some a) :
    (standing && a == .interval) = true ↔ standing = true ∧ b = 1 := by
  have hb := Anchor.code_of_ofCode h
  have h1 : b = 1 ↔ a.code = 1 := by rw [hb, ← BitVec.toNat_inj]; rfl
  rw [h1]
  cases a <;> simp [Anchor.code]

end

section
variable {p : ActAddParams} {now : Nat}

/-- With its codes in range ACT-ADD asks for an entry unless one of the other field checks fails. -/
theorem readActAdd_eq_none_of_codes {a : Anchor} {k : Kind} {l : LatePolicy} (ha : Anchor.ofCode p.anchor = some a)
    (hk : Kind.ofCode p.kind = some k) (hl : LatePolicy.ofCode p.late = some l) : readActAdd p now = none ↔
    readGuard p.guardPresent p.guardLine p.guardLevel = none ∨ k.fits p.lines p.width.toNat = false ∨
    readRep p.repPresent p.period.toNat p.count.toNat = none ∨ (p.standing && a == .interval) = true ∨
    readDue a p.seconds.toNat p.tick.toNat now = none := by
  unfold readActAdd
  rw [ha, hk, hl]
  cases readGuard p.guardPresent p.guardLine p.guardLevel with
  | none => simp
  | some g =>
    cases readRep p.repPresent p.period.toNat p.count.toNat with
    | none => simp
    | some r =>
      dsimp only
      cases readDue a p.seconds.toNat p.tick.toNat now with
      | none => simp
      | some due => cases k.fits p.lines p.width.toNat <;> cases p.standing && a == .interval <;> simp

/-- The field checks of ACT-ADD (R32, R33 check 2). -/
theorem readActAdd_eq_none : readActAdd p now = none ↔
    1 < p.anchor.toNat ∨ 4 < p.kind.toNat ∨ 1 < p.late.toNat ∨
    (p.guardPresent = true ∧ (p.guardLine.toNat < 1 ∨ 16 < p.guardLine.toNat ∨ 1 < p.guardLevel.toNat)) ∨
    (p.guardPresent = false ∧ (p.guardLine ≠ 0 ∨ p.guardLevel ≠ 0)) ∨
    (p.kind = 4 ∧ p.lines ≠ 0) ∨ (p.kind ≠ 4 ∧ p.lines = 0) ∨ (p.kind = 3 ∧ p.width = 0) ∨ (p.kind ≠ 3 ∧ p.width ≠ 0) ∨
    (p.repPresent = true ∧ (p.period.toNat < 8 ∨ 619315200 < p.period.toNat)) ∨
    (p.repPresent = false ∧ (p.period ≠ 0 ∨ p.count ≠ 0)) ∨ (p.standing = true ∧ p.anchor = 1) ∨
    (p.anchor = 0 ∧ (3155759999 < p.seconds.toNat ∨ 1023 < p.tick.toNat)) ∨
    (p.anchor = 1 ∧ (1023 < p.tick.toNat ∨ Instant.top.ticks < now + p.seconds.toNat * 1024 + p.tick.toNat)) := by
  rw [← Anchor.ofCode_eq_none, ← Kind.ofCode_eq_none, ← LatePolicy.ofCode_eq_none]
  cases ha : Anchor.ofCode p.anchor with
  | none => simp [readActAdd, ha]
  | some a =>
    cases hk : Kind.ofCode p.kind with
    | none => simp [readActAdd, hk]
    | some k =>
      cases hl : LatePolicy.ofCode p.late with
      | none => simp [readActAdd, hl]
      | some l =>
        rw [readActAdd_eq_none_of_codes ha hk hl, readGuard_eq_none, Kind.fits_eq_false hk, readRep_eq_none,
          standing_interval_iff ha, readDue_eq_none ha]
        simp only [reduceCtorEq, false_or, or_assoc]

end

/-! ### The entry it asks for (R32, R33) -/

theorem readRep_eq_some {present : Bool} {period count : Nat} {r : Option Rep} (h : readRep present period count = some r) :
    r = (if present then some ⟨period, count⟩ else none) ∧ (r.map (·.count)).getD 0 = count := by
  unfold readRep at h
  split_ifs at h with hp _ hz <;> cases h
  · exact ⟨by rw [if_pos hp], rfl⟩
  · exact ⟨by rw [if_neg hp], hz.2.symm⟩

theorem readGuard_eq_some {present : Bool} {line level : Byte} {g : Option Guard}
    (h : readGuard present line level = some g) : g.map (fun g => (g.line.val + 1, g.level.code)) =
      if present then some (line.toNat, level.toNat) else none := by
  unfold readGuard at h
  split_ifs at h with hp
  · split at h <;> cases h
    rename_i n l hn hl
    rw [if_pos hp, lineOfByte_eq_some.1 hn, ← Level.code_of_ofCode hl]
    rfl
  · cases h
    rw [if_neg hp]
    rfl

theorem readDue_eq_some {a : Anchor} {sec tick now : Nat} {due : Instant} (h : readDue a sec tick now = some due) :
    due.ticks = (if a = .calendar then 0 else now) + sec * 1024 + tick := by
  unfold readDue at h
  cases a <;> dsimp only at h <;> split at h <;> cases h
  · exact congrArg (· + tick) (Nat.zero_add _).symm
  · exact Instant.ofTicks_ticks _

/-- The fields that an accepted ACT-ADD gives its entry (R32, R33). -/
theorem readActAdd_fields {p : ActAddParams} {now : Nat} {e : Entry} (h : readActAdd p now = some e) :
    e.label = p.label ∧ e.anchor = (if p.anchor = 0 then .calendar else .interval) ∧
    e.due.ticks = (if p.anchor = 0 then 0 else now) + p.seconds.toNat * 1024 + p.tick.toNat ∧ e.kind.code = p.kind.toNat ∧
    e.lines = p.lines ∧ e.width = p.width.toNat ∧
    e.rep = (if p.repPresent then some ⟨p.period.toNat, p.count.toNat⟩ else none) ∧ e.remaining = p.count.toNat ∧
    e.late.code = p.late.toNat ∧
    e.guard.map (fun g => (g.line.val + 1, g.level.code)) =
      (if p.guardPresent then some (p.guardLine.toNat, p.guardLevel.toNat) else none) ∧
    e.notify = p.notify ∧ e.standing = p.standing ∧ e.origin = .host ∧ e.suppressed = 0 := by
  obtain ⟨anchor, kind, late, guard, rep, due, ha, hk, hl, hg, hr, hd, -, -, rfl⟩ := readActAdd_eq_some h
  have hdue : due.ticks = (if p.anchor = 0 then 0 else now) + p.seconds.toNat * 1024 + p.tick.toNat := by
    rw [readDue_eq_some hd, Anchor.ofCode_eq_some ha]
    by_cases h0 : p.anchor = 0
    · rw [if_pos h0, if_pos h0, if_pos rfl]
    · rw [if_neg h0, if_neg h0, if_neg (by simp)]
  obtain ⟨hrep, hrem⟩ := readRep_eq_some hr
  exact ⟨rfl, Anchor.ofCode_eq_some ha, hdue, Kind.code_of_ofCode hk, rfl, rfl, hrep, hrem, LatePolicy.code_of_ofCode hl,
    readGuard_eq_some hg, rfl, rfl, rfl, rfl⟩

/-! ### The request -/

/-- The 27 parameter bytes of ACT-ADD one by one (10.3). -/
theorem encodeActAdd_eq (p : ActAddParams) : encodeActAdd p =
    [BitVec.ofNat 8 p.label.toNat, BitVec.ofNat 8 (p.label.toNat / 256), p.anchor, BitVec.ofNat 8 p.seconds.toNat,
     BitVec.ofNat 8 (p.seconds.toNat / 256), BitVec.ofNat 8 (p.seconds.toNat / 65536),
     BitVec.ofNat 8 (p.seconds.toNat / 16777216), BitVec.ofNat 8 p.tick.toNat, BitVec.ofNat 8 (p.tick.toNat / 256), p.kind,
     BitVec.ofNat 8 p.lines.toNat, BitVec.ofNat 8 (p.lines.toNat / 256), BitVec.ofNat 8 p.width.toNat,
     BitVec.ofNat 8 (p.width.toNat / 256), if p.repPresent then 1 else 0, BitVec.ofNat 8 p.period.toNat,
     BitVec.ofNat 8 (p.period.toNat / 256), BitVec.ofNat 8 (p.period.toNat / 65536),
     BitVec.ofNat 8 (p.period.toNat / 16777216), BitVec.ofNat 8 p.count.toNat, BitVec.ofNat 8 (p.count.toNat / 256), p.late,
     if p.guardPresent then 1 else 0, p.guardLine, p.guardLevel, if p.notify then 1 else 0, if p.standing then 1 else 0] := by
  simp only [encodeActAdd, u16, u32, flag, List.cons_append, List.nil_append]

theorem decodeActAdd_encodeActAdd (p : ActAddParams) : decodeActAdd (encodeActAdd p) = some p := by
  have label : w16At (encodeActAdd p) 0 = p.label := by rw [encodeActAdd_eq]; exact w16At_eq rfl rfl
  have seconds : w32At (encodeActAdd p) 3 = p.seconds := by rw [encodeActAdd_eq]; exact w32At_eq rfl rfl rfl rfl
  have tick : w16At (encodeActAdd p) 7 = p.tick := by rw [encodeActAdd_eq]; exact w16At_eq rfl rfl
  have lines : w16At (encodeActAdd p) 10 = p.lines := by rw [encodeActAdd_eq]; exact w16At_eq rfl rfl
  have width : w16At (encodeActAdd p) 12 = p.width := by rw [encodeActAdd_eq]; exact w16At_eq rfl rfl
  have repPresent : flagAt (encodeActAdd p) 14 = some p.repPresent := by rw [encodeActAdd_eq]; exact flagAt_eq rfl
  have period : w32At (encodeActAdd p) 15 = p.period := by rw [encodeActAdd_eq]; exact w32At_eq rfl rfl rfl rfl
  have count : w16At (encodeActAdd p) 19 = p.count := by rw [encodeActAdd_eq]; exact w16At_eq rfl rfl
  have guardPresent : flagAt (encodeActAdd p) 22 = some p.guardPresent := by rw [encodeActAdd_eq]; exact flagAt_eq rfl
  have notify : flagAt (encodeActAdd p) 25 = some p.notify := by rw [encodeActAdd_eq]; exact flagAt_eq rfl
  have standing : flagAt (encodeActAdd p) 26 = some p.standing := by rw [encodeActAdd_eq]; exact flagAt_eq rfl
  have anchor : byteAt (encodeActAdd p) 2 = p.anchor := by rw [encodeActAdd_eq]; rfl
  have kind : byteAt (encodeActAdd p) 9 = p.kind := by rw [encodeActAdd_eq]; rfl
  have late : byteAt (encodeActAdd p) 21 = p.late := by rw [encodeActAdd_eq]; rfl
  have guardLine : byteAt (encodeActAdd p) 23 = p.guardLine := by rw [encodeActAdd_eq]; rfl
  have guardLevel : byteAt (encodeActAdd p) 24 = p.guardLevel := by rw [encodeActAdd_eq]; rfl
  unfold decodeActAdd
  rw [repPresent, guardPresent, notify, standing, label, seconds, tick, lines, width, period, count, anchor, kind, late,
    guardLine, guardLevel]

theorem encodeActAdd_length (p : ActAddParams) : (encodeActAdd p).length = 27 := by
  rw [encodeActAdd_eq]
  rfl

section
variable {h : FrameHead} {s : State}

theorem exec_actAdd (hq : Quiet h s) (p : ActAddParams) : exec (.actAdd h p) s = .next (served h (.actAdd p) 0 s) :=
  exec_of_params rfl hq (by simp) rfl (fun _ => rfl)
    (by simp only [encodeParams, encodeActAdd_length, Config.payloadMax]; omega)
    (by simp only [requestCode, encodeParams, decodeParams, encodeActAdd_length, if_true, decodeActAdd_encodeActAdd,
          Option.map_some])

theorem Role.isOutput_eq_false {r : Role} : r.isOutput = false ↔ r ≠ .pushPull ∧ r ≠ .openDrain := by
  cases r <;> simp [Role.isOutput]

/-- The lines that an ACT-ADD names and that are not in the roles it needs (R33 check 3). -/
theorem readActAdd_badLine {p : ActAddParams} {now : Nat} {e : Entry} (he : readActAdd p now = some e) :
    e.rolesFit s = false ↔
      (∃ n : LineNo, p.lines.getLsbD n = true ∧ (s.lin[n]).config.role ≠ .pushPull ∧ (s.lin[n]).config.role ≠ .openDrain) ∨
      (p.guardPresent = true ∧ ∃ n : LineNo, p.guardLine.toNat = n.val + 1 ∧ (s.lin[n]).config.role ≠ .input) := by
  obtain ⟨anchor, kind, late, guard, rep, due, -, -, -, hg, -, -, -, -, rfl⟩ := readActAdd_eq_some he
  rw [← Bool.not_eq_true, Entry.rolesFit_iff, not_and_or]
  refine or_congr ?lines ?guard
  case lines =>
    simp only [not_forall, Bool.not_eq_true, State.outputRole, Role.isOutput_eq_false, exists_prop]
  case guard =>
    have hm := readGuard_eq_some hg
    dsimp only
    cases guard with
    | none =>
      have hp : p.guardPresent ≠ true := fun hp => by rw [if_pos hp] at hm; cases hm
      simp [hp]
    | some g =>
      have hp : p.guardPresent = true := by
        by_contra hp
        rw [if_neg hp] at hm
        cases hm
      rw [if_pos hp] at hm
      obtain ⟨hline, -⟩ := Prod.mk.inj (Option.some.inj hm)
      simp [hp, ← hline, State.inputRole, ← Fin.ext_iff]

/-- What ACT-ADD answers once its fields make an entry (R33 checks 3 to 5, R34). -/
theorem exec_actAdd_of_some {p : ActAddParams} {e : Entry} (hq : Quiet h s) (hl : s.loading = false)
    (he : readActAdd p s.now = some e) : exec (.actAdd h p) s = .next
      (if e.rolesFit s = false then ended h 0x20 .badLine [] (begun h s)
       else if e.anchor = .calendar ∧ s.tmb.validity = .unset then ended h 0x20 .noTime [] (begun h s)
       else if s.sch.full e.standing = true then ended h 0x20 .full [] (begun h s)
       else ended h 0x20 .ok (u16 s.sch.newHandle ++ flag (decide (e.due.ticks + s.sch.tolerance < s.now)))
         (insertAndPass e (begun h s))) := by
  have hr : e.rolesFit (begun h s) = e.rolesFit s :=
    Bool.eq_iff_iff.2 (by simp only [Entry.rolesFit_iff, begun_outputRole, begun_inputRole])
  rw [exec_actAdd hq]
  simp only [served, answer, answerActAdd, begun_loading, begun_now, begun_tmb, begun_sch, hr, hl, he, Answer.ok,
    Answer.refuse, requestCode, BitVec.ofNat_eq_ofNat, Bool.not_eq_true', Bool.false_eq_true, if_false]
  split_ifs <;> rfl

end

/-- Settles O14: the checks in their order, the fields of the entry, and the answer by the checks that need the state. -/
theorem actAddChecksAndInserts : Obligations.ActAddChecksAndInserts := by
  refine fun h p s hq => ⟨fun hl => ?busy, fun hl hnone => ?badValue, readActAdd_eq_none, fun e => readActAdd_fields,
    fun e hl he => ?accepted⟩
  case busy =>
    rw [exec_actAdd hq]
    simp only [served, answer, answerActAdd, begun_loading, hl, if_true, Answer.refuse, requestCode, BitVec.ofNat_eq_ofNat]
  case badValue =>
    rw [exec_actAdd hq]
    simp only [served, answer, answerActAdd, begun_loading, begun_now, hl, hnone, Answer.refuse, requestCode,
      BitVec.ofNat_eq_ofNat]
    rfl
  case accepted =>
    have hfull : s.sch.full e.standing = true ↔
        128 ≤ s.sch.entries.length ∨ (e.standing = true ∧ 64 ≤ s.sch.standing) := by
      simp only [Sch.full, Bool.or_eq_true, Bool.and_eq_true, decide_eq_true_eq, Config.scheduleMax, Config.standingMax]
    rw [exec_actAdd_of_some hq hl he]
    simp only [readActAdd_badLine he, hfull]

end Sys2Proof.Machine

/-! ## Passes: the taking of one entry in full, and the lines that a pass leaves alone -/

namespace Sys2Proof.Machine

/-! ### The parts of a taking -/

/-- The outcome of the occurrence when the entry is taken (R52, R53). -/
def Entry.outcome (e : Entry) (s : State) : TakeOutcome :=
  occurrenceOutcome (s.now - e.due.ticks) s.sch.tolerance e.late (guardHolds s e.guard)

/-- The state once an occurrence that runs has sent its claim (R54). -/
def Entry.claimed (e : Entry) (s : State) : State := if (e.outcome s).runs then sendClaim e s else s

/-- The Scheduler once the entry is out, or back at its next due (R55 to R57). -/
def Entry.leaves (e : Entry) (s : State) : Sch :=
  match (e.consume (s.now - e.due.ticks)).nextDue with
  | none => s.sch.popped
  | some due => s.sch.popped.enter (e.requeued (s.now - e.due.ticks) (e.outcome s) due)

/-- The report of a taking (R51, R58). -/
def Entry.report (e : Entry) (s : State) : Notice :=
  let late := s.now - e.due.ticks
  let c := e.consume late
  .actionDone { handle := e.handle, label := e.label, outcome := e.outcome s, final := c.nextDue.isNone, due := e.due,
                lateness := min late 4294967295, consumed := min c.consumed 4294967295, remaining := c.remaining,
                generation := s.tmb.generation }

section
variable {e : Entry} {s : State}

@[simp] theorem Entry.claimed_sch : (e.claimed s).sch = s.sch := by unfold Entry.claimed; split <;> simp
@[simp] theorem Entry.claimed_tmb : (e.claimed s).tmb = s.tmb := by unfold Entry.claimed; split <;> simp
@[simp] theorem Entry.claimed_lnk : (e.claimed s).lnk = s.lnk := by unfold Entry.claimed; split <;> simp

/-- A taking sends the claim, lets the entry go or puts it back, and reports (R59). -/
theorem takeEntry_eq : takeEntry e s =
    if e.notify = true then post (e.report s) ((e.claimed s).setSch (e.leaves s))
    else (e.claimed s).setSch (e.leaves s) := by
  have hleaves : e.leaves s = match (e.consume (s.now - e.due.ticks)).nextDue with
      | none => (e.claimed s).sch.popped
      | some due => (e.claimed s).sch.popped.enter (e.requeued (s.now - e.due.ticks) (e.outcome s) due) := by
    rw [Entry.claimed_sch]; rfl
  have hreport : ∀ c, e.report s = .actionDone
      { handle := e.handle, label := e.label, outcome := e.outcome s,
        final := (e.consume (s.now - e.due.ticks)).nextDue.isNone, due := e.due, lateness := reported (s.now - e.due.ticks),
        consumed := reported (e.consume (s.now - e.due.ticks)).consumed,
        remaining := (e.consume (s.now - e.due.ticks)).remaining,
        generation := ((e.claimed s).setSch c).tmb.generation } := fun c => by
    rw [State.setSch_tmb, Entry.claimed_tmb]; rfl
  rw [hreport (e.leaves s), hleaves]
  rfl

theorem takeEntry_sch_eq : (takeEntry e s).sch = e.leaves s := by rw [takeEntry_eq]; split <;> rfl

theorem takeEntry_lin : (takeEntry e s).lin = (e.claimed s).lin := by rw [takeEntry_eq]; split <;> rfl

theorem takeEntry_lnk_of_silent (h : e.notify = false) : (takeEntry e s).lnk = s.lnk := by
  rw [takeEntry_eq, if_neg (Bool.eq_false_iff.1 h)]; exact Entry.claimed_lnk

theorem takeEntry_lnk_of_notify (h : e.notify = true) : (takeEntry e s).lnk = (s.lnk.enqueue (e.report s)).choose := by
  rw [takeEntry_eq, if_pos h, post_lnk, State.setSch_lnk, Entry.claimed_lnk]

/-- The lines as a taking leaves them, by the entry's claim (R54). -/
theorem takeEntry_lin_of_mark (h : e.claim = none) : (takeEntry e s).lin = s.lin := by
  rw [takeEntry_lin, Entry.claimed, sendClaim, h, ite_self]

theorem takeEntry_lin_of_claim {x : Claim} (h : e.claim = some x) :
    (takeEntry e s).lin = if (e.outcome s).runs = true then (claimLines e.lines x s).lin else s.lin := by
  rw [takeEntry_lin, Entry.claimed, sendClaim, h]
  split <;> rfl

/-- A taking leaves the lines that its entry does not name (R54). -/
theorem takeEntry_line_unnamed {n : LineNo} (h : e.lines.getLsbD n = false) : (takeEntry e s).lin[n] = s.lin[n] := by
  cases hc : e.claim with
  | none => rw [takeEntry_lin_of_mark hc]
  | some x =>
    rw [takeEntry_lin_of_claim hc]
    split
    · exact (claimLines_line e.lines x s n n.2).trans (if_neg (Bool.eq_false_iff.1 h))
    · rfl

/-- An entry that goes leaves the rest of the schedule (R56). -/
theorem takeEntry_entries_of_last {rest : List Entry} (hs : s.sch.entries = e :: rest)
    (hd : (e.consume (s.now - e.due.ticks)).nextDue = none) : (takeEntry e s).sch.entries = rest := by
  rw [takeEntry_sch_eq, Entry.leaves, hd]
  exact congrArg List.tail hs

/-- An entry that stays takes its new place with a new stamp (R57). -/
theorem takeEntry_entries_of_next {rest : List Entry} {due : Nat} (hs : s.sch.entries = e :: rest)
    (hd : (e.consume (s.now - e.due.ticks)).nextDue = some due) (hst : s.sch.stamps ≠ stampTop) :
    (takeEntry e s).sch.entries =
      placeEntry { e.requeued (s.now - e.due.ticks) (e.outcome s) due with stamp := s.sch.stamps + 1 } rest := by
  have hready : s.sch.popped.readyStamp = s.sch.popped := if_neg hst
  have hpop : s.sch.popped.entries = rest := congrArg List.tail hs
  rw [takeEntry_sch_eq, Entry.leaves, hd]
  dsimp only
  rw [Sch.enter_entries, hready, hpop]
  rfl

/-! ### A pass over one due entry -/

/-- A pass of a RUNNING scheduler with one entry due is one taking (R50). -/
theorem pass_eq_takeEntry {rest : List Entry} (hs : s.sch.entries = e :: rest) (hh : s.sch.hold.isEmpty = true)
    (hd : e.due.ticks ≤ s.now) (hlater : ∀ x ∈ rest, s.now < x.due.ticks) (hp : ∀ r, e.rep = some r → 0 < r.period) :
    pass s = takeEntry e s := by
  have hnone : ∀ x ∈ (takeEntry e s).sch.entries, (takeEntry e s).now < x.due.ticks := by
    intro x hx
    rw [takeEntry_now]
    obtain ⟨y, hy, hxy⟩ | ⟨hx, -⟩ := takeEntry_mem hs hp hx
    · rw [hxy]; exact hlater y hy
    · exact hx
  calc pass s = passLoop (rest.length + 1) s := by rw [pass, if_pos hh, hs, List.length_cons]
    _ = passLoop rest.length (takeEntry e s) := passLoop_of_due hs hd
    _ = takeEntry e s := passLoop_of_head fun x hx => hnone x (List.mem_of_mem_head? hx)

/-! ### Outcomes and what is consumed -/

theorem occurrenceOutcome_eq (late tol : Nat) (policy : LatePolicy) (guard : Bool) :
    occurrenceOutcome late tol policy guard =
      if late ≤ tol then (if guard then .run else .suppressed)
      else if policy = .skip then .skipped else if guard then .runLate else .suppressed := by
  unfold occurrenceOutcome
  cases policy <;> rfl

/-- The occurrences counted by R55 are those due by the instant of the taking. -/
theorem lt_periodsDue_iff {period : Nat} (hp : 0 < period) (late j : Nat) :
    j < periodsDue late period ↔ j * period ≤ late := by
  rw [periodsDue, Nat.lt_succ_iff, Nat.le_div_iff_mul_le hp]

section
variable {r : Rep} {late : Nat} (hr : e.rep = some r)
include hr

theorem consume_of_unlimited (hc : r.count = 0) : (e.consume late).consumed = periodsDue late r.period ∧
    (e.consume late).remaining = e.remaining := by
  rw [Entry.consume, hr]
  simp only [hc, if_true, and_self]

theorem consume_of_counted (hc : r.count ≠ 0) :
    (e.consume late).consumed = min (periodsDue late r.period) e.remaining ∧
    (e.consume late).remaining = e.remaining - min (periodsDue late r.period) e.remaining := by
  rw [Entry.consume, hr]
  simp only [hc, if_false, and_self]

/-- A repeat ends with its count or at the end of the range (R56, R57). -/
theorem consume_nextDue_of_rep : (e.consume late).nextDue =
    if (r.count ≠ 0 ∧ e.remaining ≤ periodsDue late r.period) ∨
        Instant.top.ticks < e.due.ticks + periodsDue late r.period * r.period then none
    else some (e.due.ticks + periodsDue late r.period * r.period) := by
  have hrange : ∀ next : Nat, (if next ≤ Instant.top.ticks then some next else none) =
      if Instant.top.ticks < next then none else some next := fun next => by
    simp only [← Nat.not_lt, ite_not]
  have hlast : e.remaining - min (periodsDue late r.period) e.remaining = 0 ↔ e.remaining ≤ periodsDue late r.period := by
    omega
  rw [Entry.consume, hr]
  by_cases hc : r.count = 0
  · simp only [hrange, ne_eq, hc, if_true, not_true_eq_false, false_and, false_or]
  · simp only [hrange, hlast, ne_eq, hc, if_false, not_false_eq_true, true_and, ite_or]

end

end

/-- Settles O18: one entry due makes a pass one taking, whose parts are the outcome, the claim, the entry's place and the
report. -/
theorem takingsClaimConsumeAndReport : Obligations.TakingsClaimConsumeAndReport := by
  refine ⟨fun e => ?claims, occurrenceOutcome_eq, fun e late hr => ?single, fun e r late hr hp => ?repeats,
    fun e rest s hs hh hd hlater hord hp => ?taking⟩
  case claims => refine ⟨?_, ?_, ?_, ?_, ?_⟩ <;> intro hk <;> rw [Entry.claim, hk]
  case single => rw [Entry.consume, hr]; exact ⟨rfl, rfl, rfl⟩
  case repeats =>
    refine ⟨periodsDue late r.period, fun j => ?_, consume_of_unlimited hr, consume_of_counted hr, consume_nextDue_of_rep hr⟩
    rw [lt_periodsDue_iff hp, Nat.add_le_add_iff_left]
  case taking =>
    intro t late guard out c
    have ht : t = takeEntry e s := pass_eq_takeEntry hs hh hd hlater hp
    have hout : out = e.outcome s := rfl
    rw [ht, hout]
    refine ⟨?lines, takeEntry_entries_of_last hs, fun due hdue hst => ?place, takeEntry_lnk_of_silent, takeEntry_lnk_of_notify⟩
    case lines =>
      cases hc : e.claim with
      | none => exact takeEntry_lin_of_mark hc
      | some x => exact takeEntry_lin_of_claim hc
    case place =>
      obtain ⟨before, after, hrest, hplace, hb, ha⟩ := placeEntry_split_sorted
        { e.requeued late (e.outcome s) due with stamp := s.sch.stamps + 1 } hord
      have hticks : (e.requeued late (e.outcome s) due).due.ticks = due := Instant.ofTicks_ticks due
      simp only [hticks] at hb ha
      exact ⟨before, after, hrest, hb, ha, (takeEntry_entries_of_next hs hdue hst).trans hplace⟩

/-! ### What a pass leaves alone -/

/-- A loop leaves a line that no due entry names: what is put back is due later (R54, R57). -/
theorem passLoop_line_unnamed {k : Nat} {n : LineNo} {s : State} (hp : s.periodsPositive)
    (h : ∀ e ∈ s.sch.entries, e.due.ticks ≤ s.now → e.lines.getLsbD n = false) : (passLoop k s).lin[n] = s.lin[n] := by
  induction k generalizing s with
  | zero => rfl
  | succ k ih =>
    obtain ⟨e, rest, hs, hd⟩ | hh := head_cases s
    · have hunnamed : ∀ x ∈ (takeEntry e s).sch.entries, x.due.ticks ≤ (takeEntry e s).now →
          x.lines.getLsbD n = false := by
        intro x hx hdx
        rw [takeEntry_now] at hdx
        obtain ⟨y, hy, hxy⟩ | ⟨hlater, -⟩ := takeEntry_mem hs (hp e (by simp [hs])) hx
        · rw [hxy] at hdx ⊢
          exact h y (by simp [hs, hy]) hdx
        · omega
      rw [passLoop_of_due hs hd, ih (takeEntry_periods hs hp) hunnamed, takeEntry_line_unnamed (h e (by simp [hs]) hd)]
    · rw [passLoop_of_head hh]

theorem duesRise_of_precedes {s : State} (h : s.sch.entries.Pairwise Entry.precedes) : s.duesRise :=
  List.pairwise_map.2 (h.imp fun hab => by unfold Entry.precedes at hab; omega)

/-- Settles O19: each taking makes one entry fewer due, and changes no more than the schedule, the lines that its entry names and
the link. -/
theorem passesTakeEverythingDue : Obligations.PassesTakeEverythingDue := by
  intro s hord hh hp t
  have ht : t = passLoop s.sch.entries.length s := if_pos hh
  refine ⟨?none, fun e he hd => ?kept, pass_tmb s, pass_sch_hold s, pass_sch_lastHandle s, pass_sch_tolerance s, pass_cap s,
    pass_trg s, pass_rds s, pass_prs s, pass_lsm s, pass_flash s,
    fun n => ⟨pass_line_config s n n.2, pass_line_input s n n.2, pass_line_glitches s n n.2⟩, fun n hn => ?unnamed⟩
  case none =>
    rw [ht]
    exact passLoop_none_due hp (duesRise_of_precedes hord) s.dueCount_le
  case kept =>
    obtain ⟨q, hq⟩ := passLoop_keeps (k := s.sch.entries.length) he hd
    rw [ht]
    exact ⟨_, hq, rfl⟩
  case unnamed =>
    rw [ht]
    exact passLoop_line_unnamed hp hn

end Sys2Proof.Machine

/-! ## The lines and the Reference Discipline stay as their configurations say -/

namespace Sys2Proof.Machine

/-! ### What a change of one block keeps -/

/-- The run of the line, if one stands, is short of its acceptance length (R81). -/
def Line.short (l : Line) : Prop := ∀ f r, l.input = some f → f.run = some r → r.count < l.config.acceptance

/-- A line without a complete run (R81, R126). -/
theorem State.complete_eq_false {s : State} {n : LineNo} : s.complete n = false ↔ (s.lin[n]).short := by
  unfold State.complete State.completed Line.short
  cases (s.lin[n]).input with
  | none => simp
  | some f =>
    have hshort : (∀ g r, some f = some g → g.run = some r → r.count < (s.lin[n]).config.acceptance) ↔
        ∀ r, f.run = some r → r.count < (s.lin[n]).config.acceptance :=
      ⟨fun h r => h f r rfl, fun h g r hg => by cases hg; exact h r⟩
    rw [hshort]
    cases hr : f.run <;> simp [Filter.completed, hr]

theorem LineConfig.acceptance_pos (c : LineConfig) : 0 < c.acceptance := by
  unfold LineConfig.acceptance
  split <;> omega

/-- A pulse shows the inverse of its rest level (R76). -/
def Output.ok (o : Output) : Prop := ∀ p, o.pulse = some p → o.commanded = p.rest.inv

theorem Output.ok.claim {o : Output} (h : o.ok) (safe : SafeLevel) (c : Claim) : (o.claim safe c).ok := by
  intro p hp
  cases c with
  | toLevel _ | toggle | safe => cases hp
  | pulse w =>
    cases hq : o.pulse with
    | none => simp only [Output.claim, hq, Option.some.injEq] at hp ⊢; rw [← hp]
    | some q => simp only [Output.claim, hq, Option.some.injEq] at hp ⊢; rw [← hp]; exact h q hq

theorem Output.ok.tick {o : Output} (h : o.ok) : o.tick.ok := by
  intro p hp
  cases hq : o.pulse with
  | none => simp only [Output.tick, hq] at hp; cases hp
  | some q =>
    simp only [Output.tick, hq] at hp ⊢
    split_ifs at hp ⊢
    cases hp; exact h q hq

/-- The line after a change is in the state of its role, and short of an acceptance, wherever it was so before. -/
structure Line.Coheres (l l' : Line) : Prop where
  ok    : l.ok → l'.ok
  short : l.short → l'.short

theorem Line.Coheres.refl (l : Line) : l.Coheres l := ⟨id, id⟩

theorem Line.Coheres.trans {l l' l'' : Line} (h : l.Coheres l') (h' : l'.Coheres l'') : l.Coheres l'' :=
  ⟨h'.ok ∘ h.ok, h'.short ∘ h.short⟩

/-- Another output state that is one where the old one was. -/
theorem Line.coheres_output (l : Line) {f : Output → Output} (hf : ∀ o : Output, o.ok → (f o).ok) :
    l.Coheres { l with output := l.output.map f } where
  ok := by
    rintro ⟨hout, hin, hpulse, hrun, hglitch⟩
    refine ⟨by simpa using hout, hin, fun o p ho hp => ?_, hrun, hglitch⟩
    obtain ⟨q, hq, rfl⟩ := Option.map_eq_some_iff.1 ho
    exact hf q (fun x hx => hpulse q x hq hx) p hp
  short := id

theorem Line.coheres_claim (l : Line) (c : Claim) : l.Coheres (l.claim c) := l.coheres_output fun _ h => h.claim _ c

/-- Another filter state of a line that has one (R81, R83). -/
theorem Line.ok.withFilter {l : Line} (h : l.ok) {f g : Filter} (hf : l.input = some f) {k : Nat} (hk : k ≤ Config.countMax)
    (hg : ∀ r, g.run = some r → 0 < r.count ∧ r.count ≤ l.config.acceptance) :
    ({ l with input := some g, glitches := k } : Line).ok := by
  obtain ⟨hout, hin, hpulse, -, -⟩ := h
  refine ⟨hout, by simpa [hf] using hin, hpulse, fun x r hx hr => ?_, hk⟩
  cases hx
  exact hg r hr

/-- The acceptance of a change ends the run (R81). -/
theorem Line.coheres_accepted (l : Line) {f g : Filter} (hf : l.input = some f) (hg : g.run = none) :
    l.Coheres { l with input := some g } where
  ok h := by
    have hrun : ∀ r, g.run = some r → 0 < r.count ∧ r.count ≤ l.config.acceptance := by simp [hg]
    obtain ⟨-, -, -, -, hk⟩ := id h
    exact h.withFilter hf hk hrun
  short _ x r hx hr := by cases hx; rw [hg] at hr; cases hr

/-- A line configured anew, with a restarted filter where its role has one (R72). -/
theorem Line.coheres_configured (l : Line) (c : LineConfig) (raw : Level) :
    l.Coheres { l.configured c with input := if c.role.isInput then some (Filter.restart raw) else none } where
  ok h := by
    obtain ⟨-, -, -, -, hglitch⟩ := h
    refine ⟨?_, ?_, fun o p ho hp => ?_, fun f r hf hr => ?_, hglitch⟩
    · simp only [Line.configured]; split <;> simp_all
    · simp only [Line.configured]; split <;> simp_all
    · simp only [Line.configured] at ho
      split_ifs at ho
      cases ho; cases hp
    · dsimp only at hf
      split_ifs at hf
      cases hf; cases hr
  short _ f r hf hr := by
    dsimp only at hf
    split_ifs at hf
    cases hf; cases hr


/-! ### The Reference Discipline -/

section
variable {r : Rds}

/-- The edge count of an elapsed tick (R122). -/
theorem Rds.ok.counted (h : r.ok) : ({ r with count := r.counted } : Rds).ok := by
  obtain ⟨hidle, hzero, -, hhist⟩ := h
  refine ⟨hidle, fun hst => ?_, ?_, hhist⟩
  · obtain hst | hst := hst <;> simp only [Rds.counted, show r.state = _ from hst]
  · unfold Rds.counted
    split <;> simp

/-- An edge, a sample and a loss come with a line and a mode other than OFF (R113, R115, R122). -/
theorem Rds.ok.watching (h : r.ok) (hi : r.state ≠ .idle) {st : RefState} {n k : Nat} (hst : st = .active ∨ st = .lost)
    (hk : k ≤ Config.countMax) : ({ r with state := st, run := n, count := k } : Rds).ok := by
  obtain ⟨hidle, -, -, hhist⟩ := h
  have hno := mt hidle.2 hi
  refine ⟨?_, ?_, hk, hhist⟩ <;> obtain rfl | rfl := hst <;> simp [hno]

/-- A sample recorded in the history (R121). -/
theorem Rds.ok.recorded (h : r.ok) (x : Sample) :
    ({ r with history := (if Config.historyMax ≤ r.history.length then r.history.tail else r.history) ++ [x] } : Rds).ok := by
  obtain ⟨hidle, hzero, hcount, hhist⟩ := h
  refine ⟨hidle, hzero, hcount, ?_⟩
  simp only [Config.historyMax] at hhist ⊢
  split <;> simp only [List.length_append, List.length_tail, List.length_singleton] <;> omega

/-- The installation of a configuration (R113, R124). -/
theorem Rds.ok.installed (h : r.ok) (c : RefConfig) :
    ({ r with
        config := c
        run := 0
        state := if r.line = none ∨ c.mode = .off then .idle else if r.state = .idle then .waiting else r.state
        count := if (r.line = none ∨ c.mode = .off) ∨ r.state = .idle then 0 else r.count } : Rds).ok := by
  obtain ⟨hidle, hzero, hcount, hhist⟩ := h
  refine ⟨?_, ?_, ?_, hhist⟩ <;> dsimp only
  · by_cases hi : r.line = none ∨ c.mode = .off
    · simp [hi]
    · by_cases hs : r.state = .idle <;> simp [hi, hs]
  · split_ifs <;> simp_all
  · split_ifs
    · exact Nat.zero_le _
    · exact hcount

end

/-- The one equation of an installed configuration (R124, R127). -/
theorem installRefConfig_eq (c : RefConfig) (s : State) : installRefConfig c s =
    (if s.rds.config.mode = .steer ∧ c.mode ≠ .steer then claimHoldover .refOff s else s).setRds { s.rds with
      config := c
      run := 0
      state := if s.rds.line = none ∨ c.mode = .off then .idle else if s.rds.state = .idle then .waiting else s.rds.state
      count := if (s.rds.line = none ∨ c.mode = .off) ∨ s.rds.state = .idle then 0 else s.rds.count } := by
  have hrds : (if s.rds.config.mode = .steer ∧ c.mode ≠ .steer then claimHoldover .refOff s else s).rds = s.rds := by
    split <;> simp
  unfold installRefConfig
  dsimp only
  rw [hrds]
  by_cases hi : s.rds.line = none ∨ c.mode = .off
  · simp [hi]
  · by_cases hs : s.rds.state = .idle <;> simp [hi, hs]

/-! ### What a change of the part keeps -/

/-- The part after a change has each line in the state of its role and short of an acceptance, and the Reference Discipline as its
configuration says, wherever it was so before (R73, R81, R113). -/
structure State.Coheres (s t : State) : Prop where
  line : ∀ n : LineNo, (s.lin[n]).Coheres t.lin[n]
  rds  : s.rds.ok → t.rds.ok

namespace State.Coheres

variable {s₀ s : State}

theorem refl (s : State) : s.Coheres s := ⟨fun _ => .refl _, id⟩

/-- A change of the lines and of the Reference Discipline. -/
theorem change (h : s₀.Coheres s) {t : State} (hl : ∀ n : LineNo, (s.lin[n]).Coheres t.lin[n]) (hr : s.rds.ok → t.rds.ok) :
    s₀.Coheres t := ⟨fun n => (h.line n).trans (hl n), hr ∘ h.rds⟩

/-- A change that concerns neither the lines nor the Reference Discipline. -/
theorem of_eq (h : s₀.Coheres s) {t : State} (hl : t.lin = s.lin) (hr : t.rds = s.rds) : s₀.Coheres t :=
  h.change (fun _ => hl ▸ .refl _) (fun hs => hr ▸ hs)

theorem setRds (h : s₀.Coheres s) {x : Rds} (hx : s.rds.ok → x.ok) : s₀.Coheres (s.setRds x) := h.change (fun _ => .refl _) hx

theorem setLin (h : s₀.Coheres s) {v : Vector Line 16} (hv : ∀ n : LineNo, (s.lin[n]).Coheres v[n]) : s₀.Coheres (s.setLin v) :=
  h.change hv id

/-- One line replaced. -/
theorem set_line {v : Vector Line 16} {n : LineNo} {l : Line} (hl : (v[n]).Coheres l) (m : LineNo) :
    (v[m]).Coheres (v.set n l)[m] := by
  by_cases e : n = m
  · subst e; simpa using hl
  · have hne : (n : Nat) ≠ m := fun h => e (Fin.ext h)
    simpa [hne] using Line.Coheres.refl _

theorem setLine (h : s₀.Coheres s) {n : LineNo} {l : Line} (hl : (s.lin[n]).Coheres l) : s₀.Coheres (s.setLine n l) :=
  h.setLin (set_line hl)

theorem setTmb (h : s₀.Coheres s) (x : Tmb) : s₀.Coheres (s.setTmb x) := h.of_eq rfl rfl

theorem setLsm (h : s₀.Coheres s) (x : Lsm) : s₀.Coheres (s.setLsm x) := h.of_eq rfl rfl

/-! ### The Scheduler and the Time Base -/

theorem post (h : s₀.Coheres s) (n : Notice) : s₀.Coheres (Machine.post n s) := h.of_eq rfl rfl

theorem postOwn (h : s₀.Coheres s) (n : Option Notice) : s₀.Coheres (postOwn n s) := h.of_eq (by simp) (by simp)

theorem addReason (h : s₀.Coheres s) (r : HoldReason) : s₀.Coheres (addReason r s) := h.of_eq rfl rfl

theorem claimLines (h : s₀.Coheres s) (set : W16) (c : Claim) : s₀.Coheres (claimLines set c s) := by
  refine h.change (fun n => ?_) id
  rw [Fin.getElem_fin, Fin.getElem_fin, claimLines_line]
  split
  · exact Line.coheres_claim _ c
  · exact .refl _

theorem sendClaim (h : s₀.Coheres s) (e : Entry) : s₀.Coheres (sendClaim e s) := by
  unfold Machine.sendClaim
  split
  · exact h
  · exact h.claimLines _ _

theorem takeEntry (h : s₀.Coheres s) (e : Entry) : s₀.Coheres (takeEntry e s) := by
  have hclaim : s₀.Coheres (if (occurrenceOutcome (s.now - e.due.ticks) s.sch.tolerance e.late (guardHolds s e.guard)).runs
      then Machine.sendClaim e s else s) := by
    split
    · exact h.sendClaim e
    · exact h
  unfold Machine.takeEntry
  dsimp only
  split <;> exact hclaim.of_eq rfl rfl

theorem passLoop (h : s₀.Coheres s) (k : Nat) : s₀.Coheres (passLoop k s) := by
  induction k generalizing s with
  | zero => exact h
  | succ k ih =>
    obtain e | ⟨e, -, he⟩ := passLoop_cases k s
    · rw [e]; exact h
    · rw [he]; exact ih (h.takeEntry e)

theorem passSome (h : s₀.Coheres s) (k : Nat) : s₀.Coheres (passSome k s) := by
  unfold Machine.passSome
  split
  · exact h.passLoop _
  · exact h

theorem pass (h : s₀.Coheres s) : s₀.Coheres (pass s) := h.passSome _

theorem passAround (h : s₀.Coheres s) (k : Nat) (n : Option Notice) : s₀.Coheres (passAround k n s) :=
  ((h.passSome k).postOwn n).pass

theorem removeReasonAround (h : s₀.Coheres s) (r : HoldReason) (k : Nat) (n : Option Notice) :
    s₀.Coheres (removeReasonAround r k n s) := by
  have hput : s₀.Coheres (s.setSch { s.sch with hold := s.sch.hold.put r false }) := h.of_eq rfl rfl
  unfold Machine.removeReasonAround
  dsimp only
  split
  · split
    · exact hput.passAround k n
    · exact hput.postOwn n
  · exact h.postOwn n

theorem removeReason (h : s₀.Coheres s) (r : HoldReason) : s₀.Coheres (removeReason r s) := by
  have hput : s₀.Coheres (s.setSch { s.sch with hold := s.sch.hold.put r false }) := h.of_eq rfl rfl
  unfold Machine.removeReason
  dsimp only
  split
  · split
    · exact hput.pass
    · exact hput
  · exact h

theorem insertAndPass (h : s₀.Coheres s) (e : Entry) : s₀.Coheres (insertAndPass e s) := by
  have hin : s₀.Coheres (s.setSch (s.sch.insertNew e)) := h.of_eq rfl rfl
  unfold Machine.insertAndPass passIfDue
  split
  · exact hin.pass
  · exact hin

theorem setValidity (h : s₀.Coheres s) (v : Validity) (c : ValidityCause) (k : Nat) : s₀.Coheres (setValidity v c k s) := by
  have hset : s₀.Coheres (s.setTmb { s.tmb with validity := v }) := h.of_eq rfl rfl
  unfold Machine.setValidity
  dsimp only
  split
  · exact h
  · split
    · exact (hset.postOwn _).addReason _
    · split
      · exact hset.removeReasonAround _ _ _
      · exact hset.postOwn _

/-- A step ends the outlier run, and passes (R15, R61, R123). -/
theorem stepWith (h : s₀.Coheres s) (new : Instant) (c : StepCause) (d : Option ValidityChange) (k : Nat) :
    s₀.Coheres (stepWith new c d k s) := by
  have hrds : (stepShifted new c d k s).rds = { s.rds with run := 0 } := by
    unfold stepShifted beforePass postGone
    dsimp only
    split <;> simp [stepReported, refStepEvent]
  have hshift : s₀.Coheres (stepShifted new c d k s) := h.change (fun n => by rw [stepShifted_lin]; exact .refl _) fun hr => by
    rw [hrds]; exact hr
  rw [stepWith_eq_passAround]
  exact hshift.passAround _ _

theorem advanceInstant (h : s₀.Coheres s) (k : Nat) : s₀.Coheres (advanceInstant k s) := by
  have hset : s₀.Coheres (s.setTmb s.tmb.advance.settled) := h.of_eq rfl rfl
  have hrep : s₀.Coheres (reportAdvance k s) := by
    unfold reportAdvance
    split
    · exact hset.passAround _ _
    · exact hset.postOwn _
  rw [advanceInstant_eq]
  split
  · exact hrep.addReason _
  · exact hrep

/-! ### The Capture Log and the Trigger Table -/

theorem pendingAfterStore (h : s₀.Coheres s) : s₀.Coheres (pendingAfterStore s) := by
  unfold Machine.pendingAfterStore
  split
  · exact h.of_eq rfl rfl
  · exact h

theorem captureEdge (h : s₀.Coheres s) (e : EdgeReport) : s₀.Coheres (captureEdge e s) := by
  have hcap : ∀ x, s₀.Coheres (s.setCap x) := fun _ => h.of_eq rfl rfl
  unfold Machine.captureEdge
  dsimp only
  split
  · exact (hcap _).pendingAfterStore
  · split
    · exact hcap _
    · exact (hcap _).pendingAfterStore

theorem edgeToLog (h : s₀.Coheres s) (e : EdgeReport) : s₀.Coheres (edgeToLog e s) := by
  unfold Machine.edgeToLog
  split
  · exact h.captureEdge e
  · exact h

theorem installCaptureConfig (h : s₀.Coheres s) (p : CapPolicy) (m : Nat) : s₀.Coheres (installCaptureConfig p m s) := by
  unfold Machine.installCaptureConfig
  dsimp only
  split_ifs <;> exact h.of_eq rfl rfl

theorem fireTrigger (h : s₀.Coheres s) (n : TrigNo) (t : Trigger) (e : EdgeReport) : s₀.Coheres (fireTrigger n t e s) := by
  by_cases hroom : s.sch.entries.length < 128
  · have hin := h.insertAndPass (t.entry n e)
    rw [fireTrigger_of_room hroom]
    split <;> exact hin.of_eq rfl rfl
  · rw [fireTrigger_of_full (by omega)]
    exact h.of_eq rfl rfl

theorem offerEdge (h : s₀.Coheres s) (e : EdgeReport) (n : TrigNo) : s₀.Coheres (offerEdge e n s) := by
  unfold Machine.offerEdge
  split
  · exact h
  · split
    · exact h.fireTrigger n _ e
    · exact h

theorem handToTriggers (h : s₀.Coheres s) (e : EdgeReport) (order : EdgeOrder) : s₀.Coheres (handToTriggers e order s) := by
  refine foldl_keeps (f := fun x n => Machine.offerEdge e n (logAt n e order x)) (fun n u hu => ?_) _ s h
  refine offerEdge (s := logAt n e order u) ?_ e n
  unfold logAt
  split
  · exact hu.edgeToLog e
  · exact hu

/-! ### The Reference Discipline -/

theorem claimHoldover (h : s₀.Coheres s) (c : ValidityCause) : s₀.Coheres (claimHoldover c s) := h.of_eq (by simp) (by simp)

theorem claimStep (h : s₀.Coheres s) (d : Int) (k : Nat) : s₀.Coheres (claimStep d k s) := by
  unfold Machine.claimStep
  split
  · exact h
  · exact h.stepWith _ _ _ _

theorem claimSlew (h : s₀.Coheres s) (v : Int) : s₀.Coheres (claimSlew v s) := by
  unfold Machine.claimSlew
  split
  · exact h
  · exact h.of_eq rfl rfl

theorem claimTracking (h : s₀.Coheres s) (c : ValidityCause) : s₀.Coheres (claimTracking c s) := by
  unfold Machine.claimTracking
  split
  · exact h
  · exact h.setValidity _ _ _

theorem settleSample (h : s₀.Coheres s) (offset : Int) (g : W16) (k : Nat) : s₀.Coheres (settleSample offset g k s).1 := by
  have hrun : ∀ n, s₀.Coheres (s.setRds { s.rds with run := n }) := fun n => h.setRds id
  unfold Machine.settleSample
  split
  · exact h
  · split
    · split
      · exact ((hrun 0).claimSlew _).claimTracking _
      · unfold steerOutlier
        dsimp only
        split
        · exact hrun _
        · exact ((hrun _).claimStep _ _).setRds id
    · exact h
    · exact h

theorem referenceEdge (h : s₀.Coheres s) (e : EdgeReport) (k : Nat) : s₀.Coheres (referenceEdge e k s) := by
  unfold Machine.referenceEdge
  split
  · exact h
  · rename_i hedge
    have hi : s.rds.state ≠ .idle := fun hc => hedge (.inl hc)
    have hactive : s₀.Coheres (s.setRds { s.rds with count := 0, state := .active }) :=
      h.setRds fun hr => hr.watching hi (.inl rfl) (Nat.zero_le _)
    exact (hactive.settleSample _ _ k).setRds fun hr => hr.recorded _

theorem referenceTick (h : s₀.Coheres s) : s₀.Coheres (referenceTick s) := by
  have hcount : s₀.Coheres (s.setRds { s.rds with count := s.rds.counted }) := h.setRds Rds.ok.counted
  unfold Machine.referenceTick
  dsimp only
  split
  · rename_i hlose
    have hi : s.rds.state ≠ .idle := fun hc => by simp [Rds.losing, hc] at hlose
    have hlost : s₀.Coheres ((s.setRds { s.rds with count := s.rds.counted }).setRds
        { s.rds with count := s.rds.counted, state := .lost, run := 0 }) :=
      hcount.setRds fun hr => by
        obtain ⟨-, -, hk, -⟩ := id hr
        exact hr.watching hi (.inr rfl) hk
    unfold declareLoss
    dsimp only
    refine post ?_ _
    split
    · exact hlost.claimHoldover _
    · exact hlost
  · exact hcount

theorem installRefConfig (h : s₀.Coheres s) (c : RefConfig) : s₀.Coheres (installRefConfig c s) := by
  have hlin : (if s.rds.config.mode = .steer ∧ c.mode ≠ .steer then Machine.claimHoldover .refOff s else s).lin = s.lin := by
    split <;> simp
  rw [installRefConfig_eq]
  refine h.change (fun n => ?_) fun hr => hr.installed c
  simp only [State.setRds_lin, hlin]
  exact .refl _

theorem refRemoved (h : s₀.Coheres s) : s₀.Coheres (refRemoved s) := by
  have hidle : s₀.Coheres (s.setRds { s.rds with line := none, run := 0, state := .idle, count := 0 }) := h.setRds fun hr => by
    obtain ⟨-, -, -, hhist⟩ := hr
    exact ⟨by simp, fun _ => rfl, Nat.zero_le _, hhist⟩
  unfold Machine.refRemoved
  dsimp only
  split
  · exact hidle.claimHoldover _
  · exact hidle

theorem refAssigned (h : s₀.Coheres s) (n : LineNo) : s₀.Coheres (refAssigned n s) := by
  unfold Machine.refAssigned
  split
  · rename_i hm
    refine h.setRds fun ⟨hidle, hzero, hcount, hhist⟩ => ⟨?_, hzero, hcount, hhist⟩
    simpa [hm] using hidle
  · rename_i hm
    refine h.setRds fun ⟨_, _, _, hhist⟩ => ⟨?_, fun _ => rfl, Nat.zero_le _, hhist⟩
    simpa using hm

end State.Coheres


/-! ### The Line Unit -/

/-- The run of a line that has reached its acceptance length (R81). -/
theorem State.completed_eq_some {s : State} {n : LineNo} {f : Filter} {r : Run} : s.completed n = some (f, r) ↔
    (s.lin[n]).input = some f ∧ f.run = some r ∧ (s.lin[n]).config.acceptance ≤ r.count := by
  unfold State.completed
  split
  · rename_i hn; simp only [hn, reduceCtorEq, false_and]
  · rename_i g hg
    simp only [hg, Filter.completed, Option.map_eq_some_iff, Option.filter_eq_some_iff, decide_eq_true_eq, Prod.mk.injEq,
      Option.some.injEq]
    constructor
    · rintro ⟨x, ⟨hx, hc⟩, rfl, rfl⟩; exact ⟨rfl, hx, hc⟩
    · rintro ⟨rfl, hx, hc⟩; exact ⟨r, ⟨hx, hc⟩, rfl, rfl⟩

/-- The Reference Discipline after its line is removed (R114). -/
theorem refRemoved_rds (s : State) :
    (refRemoved s).rds = { s.rds with line := none, run := 0, state := .idle, count := 0 } := by
  unfold refRemoved; dsimp only; split <;> simp

/-- The Reference Discipline after a line is made the reference line (R114). -/
theorem refAssigned_rds (n : LineNo) (s : State) : (refAssigned n s).rds =
    if s.rds.config.mode = .off then { s.rds with line := some n, run := 0 }
    else { s.rds with line := some n, run := 0, state := .waiting, count := 0 } := by
  unfold refAssigned; split <;> rfl

/-- The part when line `n` is configured: a reference line given up has been removed (R72 step 1, R114). -/
def State.givenUp (s : State) (n : LineNo) (c : LineConfig) : State :=
  if (s.lin[n]).config.role = .reference ∧ c.role ≠ .reference then refRemoved s else s

@[simp] theorem State.givenUp_lin (s : State) (n : LineNo) (c : LineConfig) : (s.givenUp n c).lin = s.lin := by
  unfold State.givenUp; split <;> simp

/-- The installation of a configuration: the reference line given up, the line in the state of its role, its filter restarted, and
the reference line assigned (R72). -/
theorem configureLine_eq (n : LineNo) (c : LineConfig) (s : State) :
    let u := restartFilter n ((s.givenUp n c).setLine n ((s.lin[n]).configured c))
    configureLine n c s = if c.role = .reference then refAssigned n u else u := by
  have hlin : ((s.givenUp n c).lin[n]).configured c = (s.lin[n]).configured c := by simp
  dsimp only
  rw [← hlin]
  rfl

/-- The Reference Discipline after the installation of a configuration (R72, R114). -/
theorem configureLine_rds (n : LineNo) (c : LineConfig) (s : State) : (configureLine n c s).rds =
    if c.role = .reference then (refAssigned n s).rds
    else if (s.lin[n]).config.role = .reference then (refRemoved s).rds else s.rds := by
  rw [configureLine_eq]
  by_cases hc : c.role = .reference
  · have hgiven : s.givenUp n c = s := if_neg fun h => h.2 hc
    rw [if_pos hc, if_pos hc, refAssigned_rds, refAssigned_rds, restartFilter_rds, hgiven]
    rfl
  · rw [if_neg hc, if_neg hc, restartFilter_rds, State.setLine, State.setLin_rds]
    simp only [State.givenUp, ne_eq, hc, not_false_eq_true, and_true]
    split <;> rfl

/-- The line that a restarted filter leaves, after line `n` has been replaced (R72 step 5, R81). -/
theorem restartFilter_setLine_lin (n : LineNo) (l : Line) (s : State) : (restartFilter n (s.setLine n l)).lin =
    s.lin.set n (if l.config.role.isInput then { l with input := some (Filter.restart ((s.setLine n l).raw n)) } else l) := by
  have hl : (s.setLine n l).lin[n] = l := by simp
  unfold restartFilter
  simp only [hl]
  split
  · simp
  · rfl

/-- The lines after the installation of a configuration: line `n` in the state of its new role, with the filter of an input role
restarted from the level that the pin then shows (R72). -/
theorem configureLine_lin (n : LineNo) (c : LineConfig) (s : State) : (configureLine n c s).lin =
    s.lin.set n { (s.lin[n]).configured c with
      input := if c.role.isInput then
        some (Filter.restart (((s.givenUp n c).setLine n ((s.lin[n]).configured c)).raw n)) else none } := by
  have hassigned : ∀ u : State, (if c.role = .reference then refAssigned n u else u).lin = u.lin := by
    intro u; split <;> simp
  rw [configureLine_eq, hassigned, restartFilter_setLine_lin]
  simp only [State.givenUp_lin]
  congr 1
  cases hi : c.role.isInput <;> simp [Line.configured, hi]

namespace State.Coheres

variable {s₀ s : State}

theorem handOn (h : s₀.Coheres s) (e : EdgeReport) (order : EdgeOrder) : s₀.Coheres (handOn e order s) := by
  have htrig := h.handToTriggers e order
  unfold Machine.handOn
  split
  · dsimp only
    split
    · exact htrig.edgeToLog e
    · exact htrig
  · split
    · exact (h.edgeToLog e).referenceEdge e _
    · exact (h.referenceEdge e _).edgeToLog e
  all_goals exact h.edgeToLog e

theorem acceptRun (h : s₀.Coheres s) (n : LineNo) (order : EdgeOrder) : s₀.Coheres (acceptRun n order s) := by
  cases hc : s.complete n with
  | false => rw [acceptRun_of_incomplete hc]; exact h
  | true =>
    obtain ⟨⟨f, r⟩, hfr⟩ := Option.isSome_iff_exists.1 hc
    obtain ⟨hf, -, -⟩ := State.completed_eq_some.1 hfr
    rw [acceptRun_of_complete hfr]
    exact (h.setLine (Line.coheres_accepted _ hf rfl)).handOn _ order

theorem configureLine (h : s₀.Coheres s) (n : LineNo) (c : LineConfig) : s₀.Coheres (configureLine n c s) := by
  refine h.change (fun m => ?_) fun hr => ?_
  · simp only [configureLine_lin]
    exact set_line (Line.coheres_configured _ c _) m
  · rw [configureLine_rds]
    split
    · exact ((refl s).refAssigned n).rds hr
    · split
      · exact (refl s).refRemoved.rds hr
      · exact hr

theorem installLines (h : s₀.Coheres s) (cs : Vector LineConfig 16) : s₀.Coheres (installLines cs s) :=
  foldl_keeps (f := fun x (n : LineNo) => Machine.configureLine n cs[n] x) (fun n _ hu => hu.configureLine n _) _ s h

theorem allLinesOff (h : s₀.Coheres s) : s₀.Coheres (allLinesOff s) := by
  have hoff : s₀.Coheres (s.setLin (s.lin.map fun l => l.configured LineConfig.off)) := h.setLin fun n => by
    rw [Fin.getElem_fin, Fin.getElem_fin, Vector.getElem_map]
    exact Line.coheres_configured _ LineConfig.off .low
  unfold Machine.allLinesOff
  dsimp only
  split
  · exact hoff.refRemoved
  · exact hoff

theorem changePin (h : s₀.Coheres s) (pin : Pin) (drive : PinDrive) : s₀.Coheres (changePin pin drive s) := by
  have hext : ∀ (n : LineNo) x, s₀.Coheres (s.setLine n { s.lin[n] with ext := x }) := fun n x => h.setLine ⟨id, id⟩
  unfold Machine.changePin
  split
  · exact hext _ _
  · exact hext _ _
  all_goals exact h.of_eq rfl rfl

/-! ### The main reset and the parts of a tick -/

/-- Whatever was before, a main reset leaves the lines OFF and the Reference Discipline IDLE (R87, R127). -/
theorem mainReset (h : s₀.Coheres s) (c : StartCause) : s₀.Coheres (mainReset c s) := by
  obtain ⟨-, -, -, -, -, hrds, -, -, -, -, -, -, hlin⟩ := mainReset_blocks c s
  have hline : ∀ n : LineNo, (Machine.mainReset c s).lin[n] = Line.fresh (s.lin[n]).ext := fun n => by
    rw [Fin.getElem_fin, Fin.getElem_fin]; simp [hlin, resetBlocks]
  refine h.change (fun n => ?_) fun _ => ?_
  · rw [hline]
    refine ⟨fun _ => ⟨rfl, rfl, by simp [Line.fresh], by simp [Line.fresh], Nat.zero_le _⟩, fun _ f r hf => ?_⟩
    cases hf
  · rw [hrds]
    exact ⟨by simp [resetBlocks, Rds.fresh], fun _ => rfl, Nat.zero_le _, Nat.zero_le _⟩

theorem leaseTick (h : s₀.Coheres s) : s₀.Coheres (leaseTick s) := by
  have hlsm : ∀ x, s₀.Coheres (s.setLsm x) := fun _ => h.of_eq rfl rfl
  have hexp : s₀.Coheres (expireLease s) := by
    unfold expireLease applyFallback claimSafe
    refine post ?_ _
    split
    · exact hlsm _
    · exact hlsm _
    · exact (hlsm _).addReason _
    · exact (hlsm _).claimLines _ _
    · exact ((hlsm _).addReason _).claimLines _ _
  rw [leaseTick_eq]
  split
  · split
    · exact hexp.mainReset _
    · exact hexp
  · split
    · exact hlsm _
    · exact h

/-- A line's part of a tick without a filter: its pulse counts down (R77). -/
theorem outputTick (h : s₀.Coheres s) {n : LineNo} (hin : (s.lin[n]).input = none) (accept : Option EdgeOrder) :
    s₀.Coheres (lineTick n accept s) := by
  rw [lineTick_of_output hin rfl]
  exact h.setLine (Line.coheres_output _ fun _ ho => ho.tick)

end State.Coheres

/-- The run after a sample is at most one sample longer (R81). -/
theorem Filter.sample_run {f : Filter} {level : Level} {now : Instant} {gen : W16} {r : Run}
    (h : (f.sample level now gen).filter.run = some r) : r.count = 1 ∨ ∃ q, f.run = some q ∧ r.count = q.count + 1 := by
  by_cases hl : level = f.accepted
  · rw [Filter.sample_same hl] at h; cases h
  · cases hq : f.run with
    | none => rw [Filter.sample_starts hl hq] at h; cases h; exact .inl rfl
    | some q => rw [Filter.sample_grows hl hq] at h; cases h; exact .inr ⟨q, rfl, rfl⟩

/-- The line that a sample leaves (R81, R83). -/
def Line.sampled (l : Line) (x : SampleResult) : Line :=
  { l with input := some x.filter
           glitches := if x.glitch then min Config.countMax (l.glitches + 1) else l.glitches }

theorem sampleLine_lin (n : LineNo) (f : Filter) (s : State) : (sampleLine n f s).lin =
    s.lin.set n ((s.lin[n]).sampled (f.sample (s.raw n) s.tmb.instant s.tmb.generation)) := rfl

theorem Line.ok.sampled {l : Line} (h : l.ok) {f : Filter} (hf : l.input = some f) {x : SampleResult} {g : Filter}
    (hg : ∀ r, g.run = some r → 0 < r.count ∧ r.count ≤ l.config.acceptance) : ({ l.sampled x with input := some g } : Line).ok := by
  obtain ⟨-, -, -, -, hk⟩ := id h
  refine h.withFilter hf (k := (l.sampled x).glitches) ?_ hg
  unfold Line.sampled
  dsimp only
  split
  · exact min_le_left _ _
  · exact hk

/-- The run that a sample of a line leaves is at most of its acceptance length where it was short of it before (R81). -/
theorem Line.sample_run_le {l : Line} (hs : l.short) {f : Filter} (hf : l.input = some f) {level : Level}
    {now : Instant} {gen : W16} {r : Run} (hr : (f.sample level now gen).filter.run = some r) :
    0 < r.count ∧ r.count ≤ l.config.acceptance := by
  have hpos := l.config.acceptance_pos
  obtain h1 | ⟨q, hq, h1⟩ := Filter.sample_run hr
  · omega
  · have := hs f q hf hq
    omega

namespace State.Coheres

variable {s₀ s : State}

/-- The sample of a line together with the acceptance of the run that it completes (R81). -/
theorem sampleAccepted (h : s₀.Coheres s) {n : LineNo} {f : Filter} (hf : (s.lin[n]).input = some f) (order : EdgeOrder) :
    s₀.Coheres (Machine.acceptRun n order (sampleLine n f s)) := by
  have hline : (sampleLine n f s).lin[n] = (s.lin[n]).sampled (f.sample (s.raw n) s.tmb.instant s.tmb.generation) := by
    simp [sampleLine_lin]
  cases hc : (sampleLine n f s).complete n with
  | false =>
    have hshort := State.complete_eq_false.1 hc
    rw [acceptRun_of_incomplete hc]
    rw [hline] at hshort
    refine h.change (set_line ⟨fun hok => ?_, fun _ => hshort⟩) id
    refine hok.sampled hf (x := f.sample (s.raw n) s.tmb.instant s.tmb.generation) fun r hr => ⟨?_, ?_⟩
    · obtain h1 | ⟨q, -, h1⟩ := Filter.sample_run hr <;> omega
    · exact Nat.le_of_lt (hshort _ r rfl hr)
  | true =>
    obtain ⟨⟨g, r⟩, hgr⟩ := Option.isSome_iff_exists.1 hc
    rw [acceptRun_of_complete hgr]
    have hset : s₀.Coheres ((sampleLine n f s).setLine n { (sampleLine n f s).lin[n] with input := some g.changed }) := by
      refine h.change (fun m => ?_) id
      simp only [State.setLine, State.setLin_lin, hline]
      simp only [sampleLine_lin, Vector.set_set]
      refine set_line ⟨fun hok => hok.sampled hf (by simp [Filter.changed]), fun _ x q hx hq => ?_⟩ m
      cases hx; cases hq
    exact hset.handOn _ order

/-- A part of a tick, but for a sample whose run is accepted later (R2, R81). -/
theorem doPart (h : s₀.Coheres s) {p : TickPart} (hp : ∀ n, p = .line n none → (s.lin[n]).input = none) :
    s₀.Coheres (doPart p s) := by
  cases p with
  | advance k => exact h.advanceInstant k
  | trigger t => exact h.of_eq rfl rfl
  | reference => exact h.referenceTick
  | lease => exact h.leaseTick
  | line n accept =>
    cases hf : (s.lin[n]).input with
    | none => exact h.outputTick hf accept
    | some f =>
      cases accept with
      | none => rw [hp n rfl] at hf; cases hf
      | some order =>
        have hpart : Machine.doPart (.line n (some order)) s = Machine.acceptRun n order (sampleLine n f s) := by
          simp only [Machine.doPart, lineTick, hf]
        rw [hpart]
        exact h.sampleAccepted hf order

end State.Coheres


/-! ### The Profile Store -/

section
variable (s : State)

@[simp] theorem finishCommand_lin : (finishCommand s).lin = s.lin := by unfold finishCommand; split <;> rfl
@[simp] theorem finishCommand_rds : (finishCommand s).rds = s.rds := by unfold finishCommand; split <;> rfl
@[simp] theorem cutCommand_lin : (cutCommand s).lin = s.lin := by unfold cutCommand; split <;> rfl
@[simp] theorem cutCommand_rds : (cutCommand s).rds = s.rds := by unfold cutCommand; split <;> rfl

end

namespace State.Coheres

variable {s₀ s : State}

/-- Beside the flash and its own block the Profile Store changes, outside an application, nothing but the link. -/
theorem endOperation (h : s₀.Coheres s) (body : ProfileDone) : s₀.Coheres (endOperation body s) := h.of_eq rfl rfl

theorem endLoad (h : s₀.Coheres s) (body : ProfileDone) : s₀.Coheres (endLoad body s) :=
  (removeReason (s := s.setJob .idle) (h.of_eq rfl rfl) .load).post _

theorem setJob (h : s₀.Coheres s) (j : PrsJob) : s₀.Coheres (s.setJob j) := h.of_eq rfl rfl

theorem setDesc (h : s₀.Coheres s) (slot : Slot) (d : Descriptor) : s₀.Coheres (s.setDesc slot d) :=
  h.of_eq (s.setDesc_lin slot d) (s.setDesc_rds slot d)

theorem finishCommand (h : s₀.Coheres s) : s₀.Coheres (finishCommand s) := h.of_eq (finishCommand_lin s) (finishCommand_rds s)

theorem cutCommand (h : s₀.Coheres s) : s₀.Coheres (cutCommand s) := h.of_eq (cutCommand_lin s) (cutCommand_rds s)

theorem saveErased (h : s₀.Coheres s) : s₀.Coheres (saveErased s) := by
  unfold Machine.saveErased
  split
  · split
    · exact h
    · exact h.finishCommand.setJob _
  · exact h

theorem pageProgrammed (h : s₀.Coheres s) (flaws : List (Fin 256 × Byte)) : s₀.Coheres (pageProgrammed flaws s) := by
  have hcells : ∀ m, s₀.Coheres ((Machine.finishCommand s).setCells m) := fun _ => h.finishCommand.of_eq rfl rfl
  unfold Machine.pageProgrammed
  split
  · dsimp only
    split <;> exact (hcells _).setJob _
  · exact h

theorem saveVerified (h : s₀.Coheres s) : s₀.Coheres (saveVerified s) := by
  unfold Machine.saveVerified succeedSave
  split
  · split
    · split
      · exact h
      · exact (h.setDesc _ _).endOperation _
    · exact h.setJob _
  · exact h

theorem recoveryErased (h : s₀.Coheres s) : s₀.Coheres (recoveryErased s) := by
  unfold Machine.recoveryErased
  split
  · exact h.finishCommand.endOperation _
  · exact h

theorem slotErased (h : s₀.Coheres s) : s₀.Coheres (slotErased s) := by
  unfold Machine.slotErased
  split
  · exact h.finishCommand.of_eq rfl rfl
  · exact h.finishCommand.endOperation _
  · exact h

theorem flashTimedOut (h : s₀.Coheres s) : s₀.Coheres (flashTimedOut s) := by
  have hc := h.cutCommand
  unfold Machine.flashTimedOut
  split
  · exact hc.endOperation _
  · split
    · exact hc.setJob _
    · exact hc.endOperation _
  · exact hc.endOperation _
  · exact (hc.setDesc _ _).endOperation _
  · exact hc.endOperation _
  all_goals exact h

theorem scanned (h : s₀.Coheres s) : s₀.Coheres (scanned s) := by
  unfold Machine.scanned recordSlot
  split
  · exact (((h.setDesc _ _).setDesc _ _).setJob _).post _
  · exact h

theorem startUpValidated (h : s₀.Coheres s) : s₀.Coheres (startUpValidated s) := by
  have hr : s₀.Coheres (recordSlot .b (recordSlot .a s)) := (h.setDesc _ _).setDesc _ _
  unfold Machine.startUpValidated
  dsimp only
  split
  · exact hr.endLoad _
  · split
    · exact hr
    · exact hr.setJob _

theorem requestedValidated (h : s₀.Coheres s) : s₀.Coheres (requestedValidated s) := by
  have hr : ∀ slot, s₀.Coheres (recordSlot slot s) := fun _ => h.setDesc _ _
  unfold Machine.requestedValidated
  dsimp only
  split
  · exact (hr _).setJob _
  · split
    · exact ((hr _).setDesc _ _).setJob _
    · exact ((hr _).setDesc _ _).endLoad _

/-- A stage of a load (R138). -/
theorem runStage (h : s₀.Coheres s) (st : LoadStage) : s₀.Coheres (runStage st s) := by
  cases st with
  | dropTriggers | dropEntries | installTolerance _ | installTriggers _ => exact h.of_eq rfl rfl
  | linesOff => exact h.allLinesOff
  | installLines cs => exact h.installLines cs
  | installCapture p m => exact h.installCaptureConfig p m
  | installDiscipline c => exact h.installRefConfig c
  | installLease p f =>
    change s₀.Coheres (installLease p f s)
    unfold installLease
    split <;> exact h.of_eq rfl rfl
  | insertEntry e =>
    unfold Machine.runStage
    dsimp only
    split
    · exact h
    · exact h.insertAndPass _

theorem loadStep (h : s₀.Coheres s) : s₀.Coheres (loadStep s) := by
  unfold Machine.loadStep
  split
  · split
    · exact h.endLoad _
    · exact (h.runStage _).setJob _
  · exact h

theorem loadSteps (h : s₀.Coheres s) (k : Nat) : s₀.Coheres (loadSteps k s) := by
  induction k generalizing s with
  | zero => exact h
  | succ k ih => exact ih h.loadStep

theorem loadValidated (h : s₀.Coheres s) (k : Nat) : s₀.Coheres (loadValidated k s) := by
  unfold Machine.loadValidated
  split
  · exact h.startUpValidated.loadSteps k
  · exact h.requestedValidated.loadSteps k
  · exact h.loadSteps k
  · exact h

/-! ### The requests -/

/-- Every request: its refusals change nothing, and what it does otherwise is coherent. -/
theorem answer (h : s₀.Coheres s) (r : Request) (k : Nat) : s₀.Coheres (answer r k s).state := by
  unfold Machine.answer
  cases r with
  | ident | restart | timeRead | actList _ | schedStatus | capRead | trgStatus | refStatus | profStatus | leaseStatus => exact h
  | capAck _ | schedHold | profLock => exact h.of_eq rfl rfl
  | schedRelease => exact h.removeReason _
  | linkStatus clear => cases clear <;> exact h.of_eq rfl rfl
  | lineStatus clear => cases clear with
    | false => exact h.of_eq rfl rfl
    | true =>
      refine h.change (fun n => ?_) id
      simp only [answerLineStatus, Answer.ok, if_true, State.drawn_lin, clearGlitches, State.setLin_lin, Fin.getElem_fin,
        Vector.getElem_map]
      exact ⟨fun ⟨hout, hin, hpulse, hrun, _⟩ => ⟨hout, hin, hpulse, hrun, Nat.zero_le _⟩, id⟩
  | timeSet form =>
    dsimp only [answerTimeSet]
    split
    · exact h
    · exact h.stepWith _ _ _ _
  | timeAdjust mode v =>
    dsimp only [answerTimeAdjust, answerAdjustStep, answerAdjustSlew]
    repeat' split
    any_goals exact h.of_eq rfl rfl
    exact h.stepWith _ _ _ _
  | timeClear =>
    dsimp only [answerTimeClear, Answer.ok]
    split
    · exact h
    · exact (h.setTmb _).setValidity _ _ _
  | trimSet _ =>
    dsimp only [answerTrimSet]
    split <;> exact h.of_eq rfl rfl
  | actAdd p =>
    dsimp only [answerActAdd]
    repeat' split
    any_goals exact h
    exact h.insertAndPass _
  | actCancel _ =>
    dsimp only [answerActCancel]
    repeat' split
    all_goals exact h.of_eq rfl rfl
  | actPurge _ _ =>
    dsimp only [answerActPurge]
    repeat' split
    all_goals exact h.of_eq rfl rfl
  | actGet _ =>
    dsimp only [answerActGet]
    split <;> exact h
  | schedConfig _ =>
    dsimp only [answerSchedConfig]
    repeat' split
    all_goals exact h.of_eq rfl rfl
  | lineConfig line rec =>
    dsimp only [answerLineConfig]
    repeat' split
    any_goals exact h
    exact h.configureLine _ _
  | lineDrive lines action width =>
    dsimp only [answerLineDrive]
    repeat' split
    any_goals exact h
    exact h.claimLines _ _
  | capConfig policy mark =>
    dsimp only [answerCapConfig]
    repeat' split
    any_goals exact h
    exact h.installCaptureConfig _ _
  | trgSet p =>
    dsimp only [answerTrgSet]
    repeat' split
    all_goals exact h.of_eq rfl rfl
  | trgArm id count =>
    dsimp only [answerTrgArm]
    split <;> exact h.of_eq rfl rfl
  | trgDisarm id =>
    dsimp only [answerTrgDisarm]
    split <;> exact h.of_eq rfl rfl
  | trgClear id =>
    dsimp only [answerTrgClear]
    split <;> exact h.of_eq rfl rfl
  | refConfig p =>
    dsimp only [answerRefConfig]
    repeat' split
    any_goals exact h
    exact h.installRefConfig _
  | profSave =>
    dsimp only [answerProfSave]
    repeat' split
    any_goals exact h
    exact (h.setDesc _ _).of_eq rfl rfl
  | profLoad =>
    dsimp only [answerProfLoad]
    repeat' split
    all_goals exact h.of_eq rfl rfl
  | profErase =>
    dsimp only [answerProfErase]
    split <;> exact h.of_eq rfl rfl
  | leaseConfig p f =>
    dsimp only [answerLeaseConfig]
    repeat' split
    all_goals exact h.of_eq rfl rfl
  | leaseResume =>
    dsimp only [answerLeaseResume]
    split
    · exact (h.setLsm _).removeReason _
    · exact h

end State.Coheres


/-! ### The link -/

/-- A property that the work of the link keeps: any change of the link, the renewal of the lease, an owner's answer to a request and
a main reset. No part of a tick and no accepted edge belongs to it (R152, R165, R170, R175, R179). -/
structure LinkKept (P : State → Prop) : Prop where
  link   : ∀ {s} k, P s → P (s.setLnk k)
  renew  : ∀ {s}, P s → P (renewLease s)
  answer : ∀ {s} r after, P s → P (answer r after s).state
  reset  : ∀ {s} c, P s → P (mainReset c s)

namespace LinkKept

variable {P : State → Prop} (hP : LinkKept P) {s : State}
include hP

/-- A good frame by its KIND, after the renewal of the lease (R165). -/
theorem goodFrame (kind seq : Byte) (p : List Byte) (hs : P s) : P (goodFrame kind seq p s) := by
  have hr := hP.renew hs
  have hoffer : ∀ f, P (offerFrame f (renewLease s)) := by
    intro f; unfold offerFrame; split <;> exact hP.link _ hr
  have hcredit : P (creditFrame p (renewLease s)) := by
    unfold creditFrame; repeat' split
    all_goals exact hP.link _ hr
  have hreset : P (linkReset seq (renewLease s)) := by
    unfold linkReset
    split
    · exact hP.reset _ hr
    · exact hP.link _ hr
  unfold Machine.goodFrame
  dsimp only
  split
  · exact hoffer _
  · exact hoffer _
  · exact hcredit
  · split
    · exact hreset
    · exact hP.link _ hr
  · exact hP.link _ hr

/-- A byte changes the link alone, but for the frame that it may complete (R163, R165). -/
theorem receiverStep (b : Byte) (hs : P s) : P (receiverStep b s) := by
  have hone : ∀ k, P (s.setLnk k) := fun k => hP.link k hs
  have hdone : ∀ held, P (completeFrame held s) := by
    intro held
    unfold completeFrame
    dsimp only
    split
    · exact hP.goodFrame _ _ _ (hone _)
    · exact hP.link _ (hone _)
  have hafter : ∀ held, P (afterSeq held s) := by
    intro held
    unfold afterSeq
    dsimp only
    split
    · exact hP.link _ (hone _)
    · exact hone _
  unfold Machine.receiverStep
  dsimp only
  split
  · split
    · exact hone _
    · exact hs
  · split
    · exact hone _
    · exact hafter _
  · exact hone _
  · split
    · exact hone _
    · exact hdone _

/-- A taken frame by its verdict (R167 to R170). -/
theorem dealFrame (f : HostFrame) (after : Nat) (hs : P s) : P (dealFrame f after s) := by
  have hq : P (advanceSeq f.head s) := hP.link _ hs
  have hheld : P (holdForReply (advanceSeq f.head s)) := by
    unfold holdForReply
    split
    · exact hP.link _ hq
    · exact hq
  have hposted : ∀ st {u}, P u → P (settlePosted f st u) := by
    intro st u hu
    unfold settlePosted
    dsimp only
    split <;> exact hP.link _ (hP.link _ hu)
  unfold Machine.dealFrame
  split
  · unfold executeFrame runRequest runPosted
    dsimp only
    split
    · split
      · exact hP.link _ hq
      · exact hP.link _ (hP.answer _ _ hheld)
    · split
      · exact hposted _ hq
      · split
        · exact hP.reset _ hq
        · exact hposted _ (hP.answer _ _ hq)
  · unfold repeatFrame
    dsimp only
    split
    · exact hP.link _ (hP.link _ hs)
    · exact hP.link _ hs
  · exact hP.link _ hs
  · unfold gapFrame
    dsimp only
    split <;> exact hP.link _ (hP.link _ hs)

theorem takeHead (after : Nat) (hs : P s) : P (takeHead after s) := by
  unfold Machine.takeHead
  split
  · split
    · exact hs
    · exact hP.dealFrame _ _ (hP.link _ hs)
  · exact hs

theorem takeHeads (ks : Taking) (hs : P s) : P (takeHeads ks s) :=
  foldl_keeps (f := fun x k => Machine.takeHead k x) (fun k _ h => hP.takeHead k h) ks s hs

theorem takeHeadIf (p : Verdict → HostFrame → Bool) (hs : P s) : P (takeHeadIf p s) := by
  unfold Machine.takeHeadIf
  split
  · exact hs
  · split
    · exact hP.takeHead 0 hs
    · exact hs

theorem scan (k : Nat) (ts : List Taking) (hs : P s) : P (scan k ts s) := by
  induction k generalizing ts s with
  | zero => exact hs
  | succ k ih =>
    unfold Machine.scan
    split
    · exact hs
    · exact ih _ (hP.takeHeads _ (hP.receiverStep _ (hP.link _ hs)))

theorem receiveByte (b : Byte) (ts : List Taking) (hs : P s) : P (receiveByte b ts s) := hP.scan _ _ (hP.link _ hs)

theorem receiveBytes (bs : List Byte) (hs : P s) : P (receiveBytes bs s) :=
  foldl_keeps (f := fun x b => Machine.receiveByte b [] x) (fun b _ h => hP.receiveByte b [] h) bs s hs

theorem transmitted (hs : P s) : P (transmitted s) := by
  unfold Machine.transmitted
  dsimp only
  repeat' split
  · exact hP.reset _ (hP.link _ hs)
  · exact hP.link _ (hP.link _ hs)
  all_goals exact hP.link _ hs

theorem gapElapsed (hs : P s) : P (gapElapsed s) := by
  unfold Machine.gapElapsed
  split
  · exact hP.link _ (hP.link _ hs)
  · exact hs

end LinkKept

/-- The work of the link is coherent. -/
theorem linkKept_coheres (s₀ : State) : LinkKept s₀.Coheres where
  link _ h := h.of_eq rfl rfl
  renew h := h.setLsm _
  answer r k h := h.answer r k
  reset c h := h.mainReset c

/-! ### The tick -/

/-- After the acceptance of its run a line is short of the next one (R81). -/
theorem acceptRun_short (n : LineNo) (order : EdgeOrder) (s : State) : ((acceptRun n order s).lin[n]).short := by
  cases hc : s.complete n with
  | false => rw [acceptRun_of_incomplete hc]; exact State.complete_eq_false.1 hc
  | true =>
    obtain ⟨⟨f, r⟩, hfr⟩ := Option.isSome_iff_exists.1 hc
    rw [acceptRun_of_complete hfr]
    refine ((State.Coheres.refl _).handOn _ order).line n |>.short fun g q hg hq => ?_
    simp only [State.setLine, State.setLin_lin, Fin.getElem_fin, Vector.getElem_set_self] at hg
    cases hg; cases hq

/-- Once the complete runs are accepted, every line is short of an acceptance. -/
theorem acceptRuns_short (s : State) (n : LineNo) : ((acceptRuns s).lin[n]).short := by
  have key : ∀ (ns : List LineNo) (u : State), n ∈ ns ∨ (u.lin[n]).short →
      ((ns.foldl (fun x m => acceptRun m ⟨0, 0⟩ x) u).lin[n]).short := by
    intro ns
    induction ns with
    | nil => intro u h; simpa using h
    | cons m ns ih =>
      intro u h
      refine ih _ ?_
      by_cases e : n = m
      · subst e; exact .inr (acceptRun_short n _ u)
      · obtain h | h := h
        · exact .inl (by simpa [e] using h)
        · exact .inr ((((State.Coheres.refl u).acceptRun m ⟨0, 0⟩).line n).short h)
  exact key _ s (.inl (List.mem_finRange n))

/-- What holds once the complete runs are accepted, and is kept by each unit's own part, holds after `settle`. -/
theorem settle_keeps {P : State → Prop} {s : State} (hu : ∀ (u : TickUnit) x, P x → P (deal u.part x))
    (hs : P (acceptRuns s)) : P (settle s) := by
  have hall : ∀ (us : List TickUnit) (x : State), P x → P (dealAll (us.map TickUnit.part) x) := by
    intro us x hx
    unfold dealAll
    rw [List.foldl_map]
    exact foldl_keeps hu us x hx
  exact hall _ _ hs

namespace State.Coheres

variable {s₀ s : State}

theorem acceptRuns (h : s₀.Coheres s) : s₀.Coheres (acceptRuns s) :=
  foldl_keeps (f := fun x n => Machine.acceptRun n ⟨0, 0⟩ x) (fun n _ hu => hu.acceptRun n _) _ s h

/-- A part that is dealt with, but for a sample whose run is accepted later. -/
theorem deal (h : s₀.Coheres s) {p : TickPart} (hp : ∀ n, p = .line n none → (s.lin[n]).input = none) :
    s₀.Coheres (deal p s) := by
  unfold Machine.deal
  split
  · exact (h.of_eq (t := s.setOwed (s.owed.erase p.unit)) rfl rfl).doPart hp
  · exact h

/-- A unit's own part: a sample with the acceptance of the run that it completes. -/
theorem dealUnit (h : s₀.Coheres s) (u : TickUnit) : s₀.Coheres (Machine.deal u.part s) :=
  h.deal fun n hn => by cases u <;> cases hn

theorem settle (h : s₀.Coheres s) : s₀.Coheres (settle s) := by
  exact settle_keeps (P := s₀.Coheres) (fun u _ hu => hu.dealUnit u) h.acceptRuns

end State.Coheres

/-- After `settle` every line is short of an acceptance: the runs were accepted first, and the samples after them with theirs. -/
theorem settle_short (s : State) (n : LineNo) : ((settle s).lin[n]).short := by
  exact settle_keeps (P := fun x => (x.lin[n]).short) (fun u x hx => (((State.Coheres.refl x).dealUnit u).line n).short hx)
    (acceptRuns_short s n)

/-- What the parts of one tick keep from its beginning on: no unit is owed twice, and a line that has still to be sampled is short of
an acceptance, so that its sample cannot pass the acceptance length (R2, R81). -/
structure State.Sampling (s₀ s : State) : Prop where
  ok    : s₀.linesOk → s.linesOk
  rds   : s₀.rds.ok → s.rds.ok
  once  : s.owed.Nodup
  short : ∀ n, TickUnit.line n ∈ s.owed → (s.lin[n]).short

theorem tickUnits_nodup : tickUnits.Nodup := by decide

/-- One part of a tick. -/
theorem State.Sampling.deal {s₀ s : State} (h : s₀.Sampling s) (p : TickPart) : s₀.Sampling (deal p s) := by
  by_cases ho : p.unit ∈ s.owed
  swap
  · rw [deal_of_not_owed ho]; exact h
  rw [deal_of_owed ho]
  have howed := doPart_owed p (s.setOwed (s.owed.erase p.unit))
  have honce : (doPart p (s.setOwed (s.owed.erase p.unit))).owed.Nodup := (h.once.erase _).sublist howed
  have hmem : ∀ {u}, u ∈ (doPart p (s.setOwed (s.owed.erase p.unit))).owed → u ≠ p.unit ∧ u ∈ s.owed := fun hu =>
    h.once.mem_erase_iff.1 (howed.subset hu)
  by_cases hp : ∃ n f, p = .line n none ∧ (s.lin[n]).input = some f
  · obtain ⟨n, f, rfl, hf⟩ := hp
    change TickUnit.line n ∈ s.owed at ho
    change (doPart (.line n none) (s.setOwed (s.owed.erase (.line n)))).owed.Nodup at honce
    change s₀.Sampling (doPart (.line n none) (s.setOwed (s.owed.erase (.line n))))
    have hpart : doPart (.line n none) (s.setOwed (s.owed.erase (.line n))) = sampleLine n f (s.setOwed (s.owed.erase (.line n))) := by
      simp only [doPart, lineTick, State.setOwed_lin, hf]
    have hlin : ∀ m : LineNo, m ≠ n → (doPart (.line n none) (s.setOwed (s.owed.erase (.line n)))).lin[m] = s.lin[m] := by
      intro m hm
      have hne : (n : Nat) ≠ m := fun h => hm (Fin.ext h.symm)
      simp [hpart, sampleLine_lin, hne]
    refine ⟨fun hs m => ?_, fun hr => hpart ▸ h.rds hr, honce, fun m hm => ?_⟩
    · by_cases e : m = n
      · subst e
        have hself : (doPart (.line m none) (s.setOwed (s.owed.erase (.line m)))).lin[m] =
            (s.lin[m]).sampled (f.sample (s.raw m) s.tmb.instant s.tmb.generation) := by
          rw [hpart]; simp [sampleLine_lin]; rfl
        rw [hself]
        exact (h.ok hs m).sampled hf fun r hr => Line.sample_run_le (h.short m ho) hf hr
      · rw [hlin m e]; exact h.ok hs m
    · obtain ⟨hne, hmo⟩ := hmem hm
      rw [hlin m fun e => hne (e ▸ rfl)]
      exact h.short m hmo
  · have hc : s.Coheres (doPart p (s.setOwed (s.owed.erase p.unit))) := by
      refine ((State.Coheres.refl s).of_eq (t := s.setOwed (s.owed.erase p.unit)) rfl rfl).doPart fun n hn => ?_
      cases hf : (s.lin[n]).input with
      | none => exact hf
      | some f => exact absurd ⟨n, f, hn, hf⟩ hp
    exact ⟨fun hs n => (hc.line n).ok (h.ok hs n), fun hr => hc.rds (h.rds hr), honce,
      fun n hn => (hc.line n).short (h.short n (hmem hn).2)⟩

/-- A nominal tick (R2). -/
theorem nominalTick_sampling (now : List TickPart) (s : State) : s.Sampling (nominalTick now s) := by
  have hset := (State.Coheres.refl s).settle
  refine foldl_keeps (f := fun x p => deal p x) (fun p _ hu => hu.deal p) now _ ?_
  have hshort : ∀ n : LineNo, ((settle s).lin[n]).short := settle_short s
  generalize settle s = u at hset hshort ⊢
  exact ⟨fun hs n => (hset.line n).ok (hs n), hset.rds, tickUnits_nodup, fun n _ => hshort n⟩

/-- PULSE_EXPIRY: a line in the state of its role has no filter beside the pulse that expires (R73, R77). -/
theorem pulseExpiry_coherent (n : LineNo) (s : State) :
    (s.linesOk → (dealIf (s.expiring n) (.line n none) s).linesOk) ∧
    (s.rds.ok → (dealIf (s.expiring n) (.line n none) s).rds.ok) := by
  have hrds : (deal (.line n none) s).rds = s.rds := by
    unfold deal doPart lineTick
    dsimp only
    repeat' split
    all_goals rfl
  unfold dealIf
  split
  · rename_i hexp
    refine ⟨fun hs => ?_, fun hr => hrds ▸ hr⟩
    have hin : (s.lin[n]).input = none := by
      obtain ⟨hout, hin, -⟩ := hs n
      unfold State.expiring at hexp
      cases ho : (s.lin[n]).output with
      | none => rw [ho] at hexp; cases hexp
      | some o =>
        have hrole : (s.lin[n]).config.role.isInput = false := by
          rw [ho] at hout
          revert hout
          cases (s.lin[n]).config.role <;> simp [Role.isOutput, Role.isInput]
        rw [hrole] at hin
        simpa using hin
    have hc := (State.Coheres.refl s).deal (p := .line n none) fun m hm => by cases hm; exact hin
    exact fun m => (hc.line m).ok (hs m)
  · exact ⟨id, id⟩

/-! ### The commands -/

/-- Every command of a powered part keeps the lines and the Reference Discipline coherent. -/
theorem exec_coherent {i : Instr} {s t : State} (hp : s.power = true) (h : exec i s = .next t) :
    (s.linesOk → t.linesOk) ∧ (s.rds.ok → t.rds.ok) := by
  have hl := linkKept_coheres s
  have hs := State.Coheres.refl s
  have coherent : ∀ {u : State}, s.Coheres u → (s.linesOk → u.linesOk) ∧ (s.rds.ok → u.rds.ok) :=
    fun hu => ⟨fun ho n => (hu.line n).ok (ho n), hu.rds⟩
  have on : ∀ {f : State → State}, exec i s = whenPowered f s → t = f s := fun {f} hf => by
    rw [hf, whenPowered, if_pos hp] at h
    cases h; rfl
  have same : ∀ {x : State}, exec i s = .next (if s.power then s else x) → t = s := fun {x} hx => by
    rw [hx, if_pos hp] at h
    cases h; rfl
  cases hr : i.asRequest with
  | some hq => rw [on (exec_of_asRequest hr s)]; exact coherent (hl.takeHeads _ (hl.receiveBytes _ hs))
  | none =>
    match i with
    | .powerUp .. | .backupTick | .backupDomainLoss => rw [same rfl]; exact ⟨id, id⟩
    | .powerLoss => rw [on rfl]; exact ⟨fun ho n => by simpa using ho n, fun hr => by rwa [losePower_rds]⟩
    | .nrst pins =>
      rw [on (f := fun x => mainReset .pin (setPins pins x)) rfl]
      exact coherent ((hs.of_eq (t := setPins pins s) rfl rfl).mainReset _)
    | .scanDone => rw [on rfl]; exact coherent hs.scanned
    | .nominalTick now =>
      rw [exec_nominalTick hp] at h
      cases h
      have hn := nominalTick_sampling now s
      exact ⟨hn.ok, hn.rds⟩
    | .pulseExpiry n => rw [on rfl]; exact pulseExpiry_coherent n s
    | .trimCarry _ | .slewCorrection _ | .holdoffEnd _ | .refLost | .leaseExpiry =>
      rw [on rfl]
      unfold dealIf
      split
      · exact coherent (hs.deal (by simp))
      · exact coherent hs
    | .rangeEnd =>
      rw [on rfl]
      unfold dealRangeEnd
      split
      · exact coherent ((hs.deal (by simp)).of_eq rfl rfl)
      · exact coherent hs
    | .edgeAccept n order =>
      rw [on (f := fun x => if x.complete n then acceptRun n order x else dealIf (x.accepting n) (.line n (some order)) x) rfl]
      unfold dealIf
      split
      · exact coherent (hs.acceptRun n order)
      · split
        · exact coherent (hs.deal (by simp))
        · exact coherent hs
    | .byteFramingError => rw [on rfl]; exact coherent (hl.link _ (hl.link _ hs))
    | .frameTimeout => rw [on rfl]; exact coherent (hl.gapElapsed hs)
    | .frameLenDiscard .. | .frameCrcDiscard .. | .frameUnknownKind .. | .credit .. | .linkReset .. =>
      rw [on rfl]; exact coherent (hl.receiveBytes _ hs)
    | .frameEnqueue h payload take =>
      rw [on (f := fun x => takeHeads take (receiveBytes (frameBytes h.kind.byte h.seq payload) x)) rfl]
      exact coherent (hl.takeHeads _ (hl.receiveBytes _ hs))
    | .frameDuplicate | .frameOutOfTurn | .requestDecodeFail => rw [on rfl]; exact coherent (hl.takeHeadIf _ hs)
    | .transmitDone take =>
      rw [on (f := fun x => takeHeads take (transmitted x)) rfl]
      exact coherent (hl.takeHeads _ (hl.transmitted hs))
    | .loadSlotValidated k => rw [on rfl]; exact coherent (hs.loadValidated k)
    | .saveEraseDone => rw [on rfl]; exact coherent hs.saveErased
    | .pageProgramDone flaws => rw [on rfl]; exact coherent (hs.pageProgrammed flaws)
    | .verifyDone => rw [on rfl]; exact coherent hs.saveVerified
    | .flashTimeout => rw [on rfl]; exact coherent hs.flashTimedOut
    | .recoveryEraseDone => rw [on rfl]; exact coherent hs.recoveryErased
    | .slotEraseDone => rw [on rfl]; exact coherent hs.slotErased
    | .rawLevelChange pin drive => cases h; exact coherent (hs.changePin pin drive)
    | .byteReceived b takes => rw [on rfl]; exact coherent (hl.receiveByte b takes hs)

/-- Every command of a part without supply (R6, R7, R69). -/
theorem exec_unpowered_coheres {i : Instr} {s t : State} (hp : s.power = false) (h : exec i s = .next t) : s.Coheres t := by
  have hs := State.Coheres.refl s
  obtain e | e | e | ⟨pin, drive, -, e⟩ | ⟨held, pins, -, e⟩ := exec_unpowered i hp <;> rw [e] at h <;> cases h
  · exact hs
  · unfold backupAdvance
    split
    · exact hs.setTmb _
    · exact hs
  · exact hs.setTmb _
  · exact hs.changePin pin drive
  · unfold gainPower coldStart
    dsimp only
    have hpower : s.Coheres (setPins pins (s.setPower true)) := hs.of_eq rfl rfl
    split
    · exact hpower.mainReset _
    · exact (hpower.setTmb Tmb.cold).mainReset _

/-- A step keeps the lines and the Reference Discipline coherent. -/
theorem step_coherent {s t : State} (h : step s = .next t) : (s.linesOk → t.linesOk) ∧ (s.rds.ok → t.rds.ok) := by
  unfold step at h
  split at h
  · cases h; exact ⟨id, id⟩
  · rename_i c rest _
    cases hp : s.power with
    | true => exact exec_coherent (s := s.setPending rest) hp h
    | false =>
      have hc := exec_unpowered_coheres (s := s.setPending rest) hp h
      exact ⟨fun ho n => (hc.line n).ok (ho n), hc.rds⟩

/-- Settles O59: a change of the part keeps each line in the state of its role and the Reference Discipline as its configuration
says. The one change that does so under a premise alone is a sample whose run is accepted later: its line must be short of an
acceptance, and a tick accepts the complete runs before it gives out the samples. -/
theorem linesAndReferenceStayCoherent : Obligations.LinesAndReferenceStayCoherent :=
  ⟨fun _ _ hr h => (step_coherent h).2 hr, fun _ _ ho h => (step_coherent h).1 ho⟩

end Sys2Proof.Machine

/-! ## Countdowns: a pulse, a holdoff, a loss timeout and a lease -/

namespace Sys2Proof.Machine

/-- A row whose event is due deals the owed part (log entry 6). -/
theorem whenPowered_dealIf {due : Bool} {p : TickPart} {s : State} (hp : s.power = true) (ho : p.unit ∈ s.owed) (hd : due = true) :
    whenPowered (dealIf due p) s = .next (doPart p (s.setOwed (s.owed.erase p.unit))) := by
  rw [whenPowered, if_pos hp, dealIf_eq ho, if_pos hd]

/-- A change to HOLDOVER sets the validity and posts TIME-STATE (R16). -/
theorem setValidity_holdover (c : ValidityCause) (k : Nat) {s : State} (h : s.tmb.validity = .tracking) :
    setValidity .holdover c k s = post (.timeState .tracking .holdover c s.tmb.instant s.tmb.generation)
      (s.setTmb { s.tmb with validity := .holdover }) := by
  rw [setValidity_of_ne (by simp [h])]
  simp [h]

/-! ### The pulse (R77) -/

theorem Output.tick_of_last {o : Output} {p : Pulse} (hp : o.pulse = some p) (h1 : p.remainder = 1) : o.tick = ⟨p.rest, none⟩ := by
  simp [Output.tick, hp, h1]

theorem exec_pulseExpiry {n : LineNo} {o : Output} {p : Pulse} {s : State} (hp : s.power = true) (ho : TickUnit.line n ∈ s.owed)
    (hin : (s.lin[n]).input = none) (hout : (s.lin[n]).output = some o) (hpulse : o.pulse = some p) (h1 : p.remainder = 1) :
    exec (.pulseExpiry n) s = .next ((s.setOwed (s.owed.erase (.line n))).setLine n
      { s.lin[n] with output := some ⟨p.rest, none⟩ }) := by
  have hdue : s.expiring n = true := by
    unfold State.expiring Output.expiring
    rw [hout]
    dsimp only
    rw [hpulse]
    exact decide_eq_true h1.le
  have hlast : (s.lin[n]).output.map Output.tick = some ⟨p.rest, none⟩ := by
    rw [hout, Option.map_some, Output.tick_of_last hpulse h1]
  have htick : lineTick n none (s.setOwed (s.owed.erase (.line n))) =
      (s.setOwed (s.owed.erase (.line n))).setLine n { s.lin[n] with output := some ⟨p.rest, none⟩ } :=
    lineTick_of_output hin hlast
  rw [← htick]
  exact whenPowered_dealIf (p := .line n none) hp ho hdue

/-! ### The holdoff (R104) -/

theorem Trigger.tick_of_last {x : Trigger} (hx : x.state = .holdoff) (h1 : x.remainder = 1) :
    x.tick = { x with state := .armed, remainder := 0 } := by
  simp [Trigger.tick, hx, h1]

theorem exec_holdoffEnd {t : TrigNo} {x : Trigger} {s : State} (hp : s.power = true) (ho : TickUnit.trigger t ∈ s.owed)
    (ht : s.trg[t] = some x) (hx : x.state = .holdoff) (h1 : x.remainder = 1) :
    exec (.holdoffEnd t) s = .next ((s.setOwed (s.owed.erase (.trigger t))).setTrigger t
      (some { x with state := .armed, remainder := 0 })) := by
  have hdue : s.holdoffEnding t = true := by
    unfold State.holdoffEnding Trigger.holdoffEnding
    rw [ht]
    simp [hx, h1]
  have htick : triggerTick t (s.setOwed (s.owed.erase (.trigger t))) =
      (s.setOwed (s.owed.erase (.trigger t))).setTrigger t (some x.tick) := by
    unfold triggerTick
    rw [State.setOwed_trg, ht, Option.map_some]
  rw [← Trigger.tick_of_last hx h1, ← htick]
  exact whenPowered_dealIf (p := .trigger t) hp ho hdue

/-! ### The loss timeout (R122) -/

/-- A loss that is declared: LOST with the outlier run at 0, HOLDOVER in STEER mode from TRACKING, and REF-LOST. -/
theorem declareLoss_eq (s : State) : declareLoss s =
    let u := s.setRds { s.rds with state := .lost, run := 0 }
    let v := if s.rds.config.mode = .steer ∧ s.tmb.validity = .tracking then setValidity .holdover .refLoss 0 u else u
    post (.refLost s.rds.line s.rds.config.timeout v.tmb.validity ((s.rds.history.getLast?.map (·.sec)).getD 0)) v := by
  have hv : ∀ u : State, (if u.rds.config.mode = .steer then claimHoldover .refLoss u else u) =
      if u.rds.config.mode = .steer ∧ u.tmb.validity = .tracking then setValidity .holdover .refLoss 0 u else u := by
    intro u
    unfold claimHoldover
    by_cases hm : u.rds.config.mode = .steer <;> simp [hm]
  have hrds : ∀ u : State, (if u.rds.config.mode = .steer ∧ u.tmb.validity = .tracking then
      setValidity .holdover .refLoss 0 u else u).rds = u.rds := by
    intro u; split <;> simp
  unfold declareLoss
  dsimp only
  rw [hv, hrds]
  rfl

theorem exec_refLost {s : State} (hp : s.power = true) (ho : TickUnit.reference ∈ s.owed) (ha : s.rds.state = .active)
    (hc : s.rds.count < 65535) (hlate : s.rds.config.timeout * 1024 < s.rds.count + 1) :
    exec .refLost s = .next (declareLoss ((s.setOwed (s.owed.erase .reference)).setRds { s.rds with count := s.rds.count + 1 })) := by
  have hcount : s.rds.counted = s.rds.count + 1 := by
    simp only [Rds.counted, ha, Config.countMax]
    omega
  have hdue : s.rds.losing = true := by
    simp [Rds.losing, ha, hcount, Config.ticksPerSecond, hlate]
  have htick : referenceTick (s.setOwed (s.owed.erase .reference)) =
      declareLoss ((s.setOwed (s.owed.erase .reference)).setRds { s.rds with count := s.rds.count + 1 }) := by
    unfold referenceTick
    simp only [State.setOwed_rds, hcount, hdue, if_true]
  rw [← htick]
  exact whenPowered_dealIf (p := .reference) hp ho hdue

/-- Settles O41: each row deals an owed part whose count is at its last tick. -/
theorem countdownsEnd : Obligations.CountdownsEnd := by
  refine fun s hp => ⟨fun n o p ho hin hout hpulse h1 => exec_pulseExpiry hp ho hin hout hpulse h1,
    fun t x ho ht hx h1 => exec_holdoffEnd hp ho ht hx h1, fun ho ha hc hlate => ?_⟩
  dsimp only
  rw [exec_refLost hp ho ha hc hlate, declareLoss_eq]
  rfl

/-! ### The lease (R153) -/

/-- The claim of the fallback SAFE: each output at its safe level, without a pulse (R79). -/
theorem claimSafe_eq (s : State) : claimSafe s = s.setLin (s.lin.map fun l => { l with output := l.output.map fun o =>
    ⟨match l.config.safe with
      | .low => .low
      | .high => .high
      | .keep => o.commanded, none⟩ }) := by
  have hbit : ∀ n : Nat, n < 16 → (0xFFFF : W16).getLsbD n = true := by decide
  refine congrArg s.setLin (Vector.ext fun i hi => ?_)
  rw [Vector.getElem_ofFn, Vector.getElem_map, if_pos (hbit i hi)]
  rfl

theorem exec_leaseExpiry {s : State} (hp : s.power = true) (ho : TickUnit.lease ∈ s.owed) (hr : s.lsm.state = .running)
    (hl : s.lsm.period * 1024 = s.lsm.count + 1) : exec .leaseExpiry s = .next
      (let t := expireLease (s.setOwed (s.owed.erase .lease))
       if s.lsm.fallback = .restart then mainReset .lease t else t) := by
  have hdue : s.lsm.expiring = true := by
    simp [Lsm.expiring, Lsm.limit, Config.ticksPerSecond, hr, hl]
  have htick := leaseTick_eq (s.setOwed (s.owed.erase .lease))
  rw [State.setOwed_lsm, if_pos hdue] at htick
  dsimp only
  rw [← htick]
  exact whenPowered_dealIf (p := .lease) hp ho hdue

/-- Settles O45: the lease EXPIRED, then the fallback, then LEASE-EXPIRED, and a main reset with RESTART. -/
theorem leaseExpires : Obligations.LeaseExpires := by
  intro s hp ho hr hl
  have hlimit : s.lsm.limit = s.lsm.count + 1 := hl
  rw [exec_leaseExpiry hp ho hr hl]
  unfold expireLease postExpired
  simp only [State.setOwed_lsm, hlimit]
  cases hf : s.lsm.fallback with
  | notify => rfl
  | hold => rfl
  | restart => rfl
  | safe => simp only [applyFallback, claimSafe_eq]; rfl
  | safeHold => simp only [applyFallback, claimSafe_eq]; rfl

/-! ## LINE-DRIVE -/

section
variable {h : FrameHead} {s : State}

theorem exec_lineDrive (hq : Quiet h s) (lines : W16) (action : Byte) (width : W16) :
    exec (.lineDrive h lines action width) s = .next (served h (.lineDrive lines action width) 0 s) := by
  have hl : w16At (encodeParams (.lineDrive lines action width)) 0 = lines := w16At_eq rfl rfl
  have hw : w16At (encodeParams (.lineDrive lines action width)) 3 = width := w16At_eq rfl rfl
  have ha : byteAt (encodeParams (.lineDrive lines action width)) 2 = action := rfl
  refine exec_of_params rfl hq (by simp) rfl (fun _ => rfl) (by simp [encodeParams, u16, Config.payloadMax]) ?_
  calc decodeParams 0x31 (encodeParams (.lineDrive lines action width))
      = some (.lineDrive (w16At (encodeParams (.lineDrive lines action width)) 0)
          (byteAt (encodeParams (.lineDrive lines action width)) 2)
          (w16At (encodeParams (.lineDrive lines action width)) 3)) := rfl
    _ = some (.lineDrive lines action width) := by rw [hl, ha, hw]

end

/-- The claim that LINE-DRIVE asks for, by its action (R80). -/
theorem readDrive_eq (lines : W16) (action : Byte) (width : W16) : readDrive lines action width.toNat =
    if 3 < action.toNat ∨ lines = 0 ∨ (action = 3 ∧ width = 0) ∨ (action ≠ 3 ∧ width ≠ 0) then none
    else some (if action = 0 then .toLevel .high else if action = 1 then .toLevel .low else if action = 2 then .toggle
      else .pulse width.toNat) := by
  have hcode : ∀ k : Nat, k < 256 → (action = BitVec.ofNat 8 k ↔ action.toNat = k) := fun k hk => by
    rw [← BitVec.toNat_inj, BitVec.toNat_ofNat, Nat.mod_eq_of_lt hk]
  have hw : width = 0 ↔ width.toNat = 0 := by rw [← BitVec.toNat_inj]; rfl
  have h0 := hcode 0 (by decide)
  have h1 := hcode 1 (by decide)
  have h2 := hcode 2 (by decide)
  have h3 := hcode 3 (by decide)
  unfold readDrive
  by_cases hl : lines = 0
  · simp [hl]
  · simp only [hl, if_false, false_or]
    rcases ha : action.toNat with _ | _ | _ | _ | k <;> simp_all

/-- Settles O21: the claim that the action asks for, on the members of the set, and the cases of a claim. -/
theorem lineDrives : Obligations.LineDrives := by
  refine ⟨fun h lines action width s hq => ?_, fun lines c s n => ?_, fun o safe l w => ⟨rfl, rfl, rfl⟩⟩
  · rw [exec_lineDrive hq]
    simp only [served, answer, answerLineDrive, begun_loading, readDrive_eq, requestCode]
    have hrole : everyLine lines (begun h s).outputRole = true ↔ ∀ n : LineNo, lines.getLsbD n = true → s.outputRole n = true := by
      rw [everyLine_iff]; simp only [begun_outputRole]
    by_cases hl : s.loading = true
    · rw [if_pos hl, if_pos hl]; rfl
    · rw [if_neg hl, if_neg hl]
      by_cases hbad : 3 < action.toNat ∨ lines = 0 ∨ (action = 3 ∧ width = 0) ∨ (action ≠ 3 ∧ width ≠ 0)
      · rw [if_pos hbad, if_pos hbad]; rfl
      · rw [if_neg hbad, if_neg hbad]
        dsimp only
        by_cases hall : ∀ n : LineNo, lines.getLsbD n = true → s.outputRole n = true
        · rw [if_pos hall, if_pos (hrole.2 hall)]; rfl
        · rw [if_neg hall, if_neg fun hc => hall (hrole.1 hc)]; rfl
  · rw [Fin.getElem_fin, Fin.getElem_fin, claimLines_line]
    rfl


/-! ## LINE-CONFIG -/


/-! ### The codes of a line record (10.2) -/

section
variable {b : Byte}

theorem Role.ofCode_eq_none : Role.ofCode b = none ↔ 4 < b.toNat := by
  rcases h : b.toNat with _ | _ | _ | _ | _ | n <;> simp [Role.ofCode, h]

theorem SafeLevel.ofCode_eq_none : SafeLevel.ofCode b = none ↔ 2 < b.toNat := by
  rcases h : b.toNat with _ | _ | _ | n <;> simp [SafeLevel.ofCode, h]

theorem Pull.ofCode_eq_none : Pull.ofCode b = Option.none ↔ 2 < b.toNat := by
  rcases h : b.toNat with _ | _ | _ | n <;> simp [Pull.ofCode, h]

theorem CaptureEdges.ofCode_eq_none : CaptureEdges.ofCode b = Option.none ↔ 3 < b.toNat := by
  rcases h : b.toNat with _ | _ | _ | _ | n <;> simp [CaptureEdges.ofCode, h]

theorem Role.code_of_ofCode {x : Role} (h : Role.ofCode b = some x) : x.code = b.toNat := by
  unfold Role.ofCode at h; split at h <;> cases h <;> exact Eq.symm ‹_›

theorem SafeLevel.code_of_ofCode {x : SafeLevel} (h : SafeLevel.ofCode b = some x) : x.code = b.toNat := by
  unfold SafeLevel.ofCode at h; split at h <;> cases h <;> exact Eq.symm ‹_›

theorem Pull.code_of_ofCode {x : Pull} (h : Pull.ofCode b = some x) : x.code = b.toNat := by
  unfold Pull.ofCode at h; split at h <;> cases h <;> exact Eq.symm ‹_›

theorem CaptureEdges.code_of_ofCode {x : CaptureEdges} (h : CaptureEdges.ofCode b = some x) : x.code = b.toNat := by
  unfold CaptureEdges.ofCode at h; split at h <;> cases h <;> exact Eq.symm ‹_›

end

/-- A code is 0 where its byte is. -/
theorem code_eq_zero_iff {b : Byte} {k : Nat} (h : k = b.toNat) : k = 0 ↔ b = 0 := by
  rw [h, ← BitVec.toNat_inj]; rfl

/-- The byte of a code that was read from it. -/
theorem ofNat_code {b : Byte} {k : Nat} (h : k = b.toNat) : BitVec.ofNat 8 k = b := by
  rw [h, BitVec.ofNat_toNat, BitVec.setWidth_eq]

/-- A field that the role does not use is not 0 (R70). -/
theorem LineConfig.unusedZero_eq_false (c : LineConfig) : c.unusedZero = false ↔
    (c.role.code ≠ 1 ∧ c.role.code ≠ 2 ∧ (c.initial.code ≠ 0 ∨ c.safe.code ≠ 0)) ∨ (c.role.code < 2 ∧ c.pull.code ≠ 0) ∨
    (c.role.code < 3 ∧ (c.filter ≠ 0 ∨ c.capture.code ≠ 0)) := by
  have hinitial : c.initial.code = 0 ↔ c.initial = .low := by cases c.initial <;> decide
  have hsafe : c.safe.code = 0 ↔ c.safe = .low := by cases c.safe <;> decide
  have hpull : c.pull.code = 0 ↔ c.pull = .none := by cases c.pull <;> decide
  have hcapture : c.capture.code = 0 ↔ c.capture = .none := by cases c.capture <;> decide
  simp only [ne_eq, hinitial, hsafe, hpull, hcapture]
  unfold LineConfig.unusedZero
  cases c.role <;> simp [Role.code, imp_iff_not_or, or_assoc]

section
variable {rec : LineRecord}

/-- The configuration that a record with its codes in range spells, before the checks of the other fields. -/
theorem LineRecord.config_of_codes {role : Role} {initial : Level} {safe : SafeLevel} {pull : Pull} {capture : CaptureEdges}
    (hr : Role.ofCode rec.role = some role) (hi : Level.ofCode rec.initial = some initial)
    (hs : SafeLevel.ofCode rec.safe = some safe) (hp : Pull.ofCode rec.pull = some pull)
    (hc : CaptureEdges.ofCode rec.capture = some capture) : LineRecord.config rec =
      if filterLengths.contains rec.filter.toNat && (⟨role, initial, safe, pull, rec.filter.toNat, capture⟩ : LineConfig).unusedZero
      then some ⟨role, initial, safe, pull, rec.filter.toNat, capture⟩ else none := by
  simp only [LineRecord.config, hr, hi, hs, hp, hc]

theorem LineRecord.config_eq_none : LineRecord.config rec = none ↔
    4 < rec.role.toNat ∨ 1 < rec.initial.toNat ∨ 2 < rec.safe.toNat ∨ 2 < rec.pull.toNat ∨
    rec.filter.toNat ∉ [0, 1, 4, 16, 64] ∨ 3 < rec.capture.toNat ∨
    (rec.role.toNat ≠ 1 ∧ rec.role.toNat ≠ 2 ∧ (rec.initial ≠ 0 ∨ rec.safe ≠ 0)) ∨ (rec.role.toNat < 2 ∧ rec.pull ≠ 0) ∨
    (rec.role.toNat < 3 ∧ (rec.filter ≠ 0 ∨ rec.capture ≠ 0)) := by
  rw [← Role.ofCode_eq_none, ← Level.ofCode_eq_none, ← SafeLevel.ofCode_eq_none, ← Pull.ofCode_eq_none,
    ← CaptureEdges.ofCode_eq_none]
  cases hr : Role.ofCode rec.role with
  | none => simp [LineRecord.config, hr]
  | some role =>
    cases hi : Level.ofCode rec.initial with
    | none => simp [LineRecord.config, hi]
    | some initial =>
      cases hs : SafeLevel.ofCode rec.safe with
      | none => simp [LineRecord.config, hs]
      | some safe =>
        cases hp : Pull.ofCode rec.pull with
        | none => simp [LineRecord.config, hp]
        | some pull =>
          cases hc : CaptureEdges.ofCode rec.capture with
          | none => simp [LineRecord.config, hc]
          | some capture =>
            rw [LineRecord.config_of_codes hr hi hs hp hc, ite_eq_right_iff]
            simp only [reduceCtorEq, imp_false, Bool.not_eq_true, Bool.and_eq_false_iff, LineConfig.unusedZero_eq_false,
              Role.code_of_ofCode hr, ne_eq, code_eq_zero_iff (Level.code_of_ofCode hi),
              code_eq_zero_iff (SafeLevel.code_of_ofCode hs), code_eq_zero_iff (Pull.code_of_ofCode hp),
              code_eq_zero_iff (CaptureEdges.code_of_ofCode hc), code_eq_zero_iff (b := rec.filter) rfl, false_or]
            rw [← Bool.not_eq_true, List.contains_iff_mem]
            rfl

/-- A configuration is spelled by its record (10.2). -/
theorem LineRecord.record_of_config {c : LineConfig} (h : LineRecord.config rec = some c) : c.record = rec := by
  unfold LineRecord.config at h
  split at h
  · rename_i hr hi hs hp hc
    dsimp only at h
    split at h <;> cases h
    simp only [LineConfig.record, ofNat_code (Role.code_of_ofCode hr), ofNat_code (Level.code_of_ofCode hi),
      ofNat_code (SafeLevel.code_of_ofCode hs), ofNat_code (Pull.code_of_ofCode hp),
      ofNat_code (CaptureEdges.code_of_ofCode hc), ofNat_code (b := rec.filter) rfl]
  · cases h

end

/-! ### The installation (R72, R81, R113, R114) -/

section
variable (n : LineNo) (c : LineConfig) (s : State)

/-- A reference line removed: IDLE without a line, and HOLDOVER in STEER mode from TRACKING (R114). -/
theorem refRemoved_eq : refRemoved s =
    let u := s.setRds { s.rds with line := none, run := 0, state := .idle, count := 0 }
    if s.rds.config.mode = .steer ∧ s.tmb.validity = .tracking then
      post (.timeState .tracking .holdover .refOff s.tmb.instant s.tmb.generation)
        (u.setTmb { s.tmb with validity := .holdover })
    else u := by
  unfold refRemoved claimHoldover
  dsimp only
  by_cases hm : s.rds.config.mode = .steer
  · by_cases hv : s.tmb.validity = .tracking
    · rw [if_pos hm, State.setRds_tmb, if_pos hv, if_pos ⟨hm, hv⟩]
      exact setValidity_holdover _ _ hv
    · rw [if_pos hm, State.setRds_tmb, if_neg hv, if_neg fun h => hv h.2]
  · rw [if_neg hm, if_neg fun h => hm h.1]

/-- What a reference line given up leaves as it was. -/
theorem State.givenUp_frame : (s.givenUp n c).cap = s.cap ∧ (s.givenUp n c).lsm = s.lsm ∧ (s.givenUp n c).flash = s.flash ∧
    (s.givenUp n c).draws = s.draws ∧ (s.givenUp n c).power = s.power := by
  unfold State.givenUp
  rw [refRemoved_eq]
  dsimp only
  split_ifs <;> exact ⟨rfl, rfl, rfl, rfl, rfl⟩

/-- A reference line given up ends TRACKING in STEER mode, with TIME-STATE (R114, R117). -/
theorem State.givenUp_reports :
    let ends := ((s.lin[n]).config.role = .reference ∧ c.role ≠ .reference) ∧ s.rds.config.mode = .steer ∧
      s.tmb.validity = .tracking
    (s.givenUp n c).tmb = (if ends then { s.tmb with validity := .holdover } else s.tmb) ∧
    (s.givenUp n c).lnk = (if ends then
      (s.lnk.enqueue (.timeState .tracking .holdover .refOff s.tmb.instant s.tmb.generation)).choose else s.lnk) := by
  dsimp only
  unfold State.givenUp
  rw [refRemoved_eq]
  by_cases h : (s.lin[n]).config.role = .reference ∧ c.role ≠ .reference
  · rw [if_pos h]
    by_cases hst : s.rds.config.mode = .steer ∧ s.tmb.validity = .tracking
    · rw [if_pos hst, if_pos ⟨h, hst⟩, if_pos ⟨h, hst⟩]; exact ⟨rfl, rfl⟩
    · rw [if_neg hst, if_neg fun hc => hst hc.2, if_neg fun hc => hst hc.2]; exact ⟨rfl, rfl⟩
  · rw [if_neg h, if_neg fun hc => h hc.1, if_neg fun hc => h hc.1]; exact ⟨rfl, rfl⟩

/-- Beside the lines, the draws and the Reference Discipline, an installation leaves every block as the giving up of a reference line
does. -/
theorem configureLine_frame : (configureLine n c s).tmb = (s.givenUp n c).tmb ∧ (configureLine n c s).lnk = (s.givenUp n c).lnk ∧
    (configureLine n c s).cap = s.cap ∧ (configureLine n c s).lsm = s.lsm ∧ (configureLine n c s).flash = s.flash ∧
    (configureLine n c s).draws = if c.role.isInput then s.draws + 1 else s.draws := by
  have hassigned : ∀ u : State, let v := if c.role = .reference then refAssigned n u else u
      v.tmb = u.tmb ∧ v.lnk = u.lnk ∧ v.cap = u.cap ∧ v.lsm = u.lsm ∧ v.flash = u.flash ∧ v.draws = u.draws := by
    intro u
    unfold refAssigned
    dsimp only
    split_ifs <;> exact ⟨rfl, rfl, rfl, rfl, rfl, rfl⟩
  have hrestart : ∀ u : State, (restartFilter n u).lnk = u.lnk ∧ (restartFilter n u).cap = u.cap ∧
      (restartFilter n u).lsm = u.lsm ∧ (restartFilter n u).flash = u.flash ∧
      (restartFilter n u).draws = if (u.lin[n]).config.role.isInput then u.draws + 1 else u.draws := by
    intro u
    unfold restartFilter
    split <;> exact ⟨rfl, rfl, rfl, rfl, rfl⟩
  obtain ⟨hcap, hlsm, hflash, hdraws, -⟩ := s.givenUp_frame n c
  obtain ⟨hrl, hrc, hrs, hrf, hrd⟩ := hrestart ((s.givenUp n c).setLine n ((s.lin[n]).configured c))
  obtain ⟨hat, hal, hac, has, haf, had⟩ := hassigned (restartFilter n ((s.givenUp n c).setLine n ((s.lin[n]).configured c)))
  rw [configureLine_eq]
  refine ⟨hat.trans (restartFilter_tmb _ _), hal.trans hrl, (hac.trans hrc).trans hcap, (has.trans hrs).trans hlsm,
    (haf.trans hrf).trans hflash, (had.trans hrd).trans ?_⟩
  have hline : (((s.givenUp n c).setLine n ((s.lin[n]).configured c)).lin[n]).config = c := by simp [Line.configured]
  rw [hline]
  simp only [State.setLine, State.setLin_draws, hdraws]

/-- The level that the pin of a newly configured input line shows: the outside's, or the pull's, or a free one (R69, log entry 1). -/
theorem raw_configured (hi : c.role.isInput = true) : ((s.givenUp n c).setLine n ((s.lin[n]).configured c)).raw n =
    pinLevel none (s.lin[n]).ext (if s.power = false then none else match c.pull with
      | .up => some Level.high
      | .down => some Level.low
      | .none => none) (if Config.floatingHigh s.draws n then .high else .low) := by
  obtain ⟨-, -, -, hdraws, hpower⟩ := s.givenUp_frame n c
  have hline : ((s.givenUp n c).setLine n ((s.lin[n]).configured c)).lin[n] = (s.lin[n]).configured c := by simp
  have hdriven : ((s.lin[n]).configured c).driven = none := by
    unfold Line.driven Line.configured
    revert hi
    cases c.role <;> simp [Role.isInput]
  have hpulled : ((s.lin[n]).configured c).pulled = match c.pull with
      | .up => some Level.high
      | .down => some Level.low
      | .none => none := by
    unfold Line.pulled Line.configured
    revert hi
    cases c.role <;> cases c.pull <;> simp [Role.isInput]
  unfold State.raw State.driven State.pulled
  rw [hline, hdriven, hpulled, ite_self]
  simp only [State.setLine, State.setLin_power, State.setLin_draws, hdraws, hpower, Level.ofBool]
  cases s.power <;> rfl

end

/-! ### The request (R70) -/

section
variable {h : FrameHead} {s : State}

theorem exec_lineConfig (hq : Quiet h s) (line : Byte) (rec : LineRecord) :
    exec (.lineConfig h line rec) s = .next (served h (.lineConfig line rec) 0 s) :=
  exec_of_params rfl hq (by simp) rfl (fun _ => rfl) (by simp [encodeParams, LineRecord.bytes, Config.payloadMax]) rfl

theorem State.otherReference_iff (s : State) (n : LineNo) :
    s.otherReference n = true ↔ ∃ m : LineNo, m ≠ n ∧ (s.lin[m]).config.role = .reference := by
  simp [State.otherReference]

theorem State.lineInUse_iff (s : State) (n : LineNo) (role : Role) : s.lineInUse n role = true ↔
    (s.namedOutput n = true ∧ role.isOutput = false) ∨ (s.namedInput n = true ∧ role ≠ .input) := by
  simp [State.lineInUse]

theorem served_lineConfig (line : Byte) (rec : LineRecord) : served h (.lineConfig line rec) 0 s =
    if s.prs.locked then ended h 0x30 .locked [] (begun h s)
    else if s.loading then ended h 0x30 .busy [] (begun h s)
    else match lineOfByte line, LineRecord.config rec with
      | some n, some c =>
        if c.role = .reference ∧ ∃ m : LineNo, m ≠ n ∧ (s.lin[m]).config.role = .reference then
          ended h 0x30 .badValue [] (begun h s)
        else if (s.namedOutput n = true ∧ c.role.isOutput = false) ∨ (s.namedInput n = true ∧ c.role ≠ .input) then
          ended h 0x30 .lineInUse [] (begun h s)
        else ended h 0x30 .ok [] (configureLine n c (begun h s))
      | _, _ => ended h 0x30 .badValue [] (begun h s) := by
  have hother : ∀ n, (begun h s).otherReference n = s.otherReference n := fun n => by
    unfold State.otherReference; rw [begun_lin]
  have huse : ∀ n role, (begun h s).lineInUse n role = s.lineInUse n role := fun n role => by
    unfold State.lineInUse State.namedOutput State.namedInput; rw [begun_sch, begun_trg]
  simp only [served, answer, answerLineConfig, begun_prs, begun_loading, hother, huse, requestCode]
  split_ifs with hl hb
  · rfl
  · rfl
  · cases lineOfByte line with
    | none => rfl
    | some n =>
      cases LineRecord.config rec with
      | none => rfl
      | some c =>
        dsimp only
        simp only [s.otherReference_iff, s.lineInUse_iff]
        split_ifs <;> rfl

end

/-- Settles O20: the checks in their order, and the installation field by field. -/
theorem lineConfigures : Obligations.LineConfigures := by
  intro h line rec s hq
  have hexec := exec_lineConfig hq line rec
  rw [served_lineConfig] at hexec
  refine ⟨fun hl => ?_, fun hl hb => ?_, LineRecord.config_eq_none, fun c hc => LineRecord.record_of_config hc, fun hl hb hbad => ?_,
    fun n c hl hb hn hc => ⟨?_, ?_⟩⟩
  · rw [hexec, if_pos hl]
  · rw [hexec, if_neg (by simp [hl]), if_pos hb]
  · rw [hexec, if_neg (by simp [hl]), if_neg (by simp [hb])]
    rw [← or_assoc, ← lineOfByte_eq_none] at hbad
    obtain hnone | hnone := hbad
    · rw [hnone]
    · rw [hnone]; cases lineOfByte line <;> rfl
  · rw [hexec, if_neg (by simp [hl]), if_neg (by simp [hb]), lineOfByte_eq_some.2 hn, hc]
  · obtain ⟨htmb, hlnk, hcap, hlsm, hflash, hdraws⟩ := configureLine_frame n c s
    obtain ⟨hgiventmb, hgivenlnk⟩ := s.givenUp_reports n c
    have hself : (configureLine n c s).lin[n] = { (s.lin[n]).configured c with
        input := if c.role.isInput then
          some (Filter.restart (((s.givenUp n c).setLine n ((s.lin[n]).configured c)).raw n)) else none } := by
      rw [configureLine_lin]; simp
    have hothers : ∀ m : LineNo, m ≠ n → (configureLine n c s).lin[m] = s.lin[m] := fun m hm => by
      have hne : (n : Nat) ≠ m := fun h => hm (Fin.ext h.symm)
      rw [configureLine_lin]; simp [hne]
    dsimp only
    rw [hself]
    refine ⟨rfl, rfl, ?_, hdraws, ⟨?_, ?_, ?_⟩, rfl, rfl, hothers, hcap, configureLine_trg _ _ _, configureLine_prs _ _ _, hlsm, hflash,
      configureLine_sch _ _ _⟩
    · cases hi : c.role.isInput with
      | false => rfl
      | true => exact congrArg (fun l => some (Filter.restart l)) (raw_configured n c s hi)
    · rw [configureLine_rds, refAssigned_rds, refRemoved_rds]
      split_ifs <;> tauto
    · exact htmb.trans hgiventmb
    · exact hlnk.trans hgivenlnk

end Sys2Proof.Machine

/-! ## The acceptance of an edge -/

namespace Sys2Proof.Machine

/-! ### The receivers of an edge leave the configurations of the lines (R84) -/

section
variable (e : EdgeReport) (s : State) (m : LineNo)

theorem captureEdge_lin : (captureEdge e s).lin = s.lin := by
  have hpending : ∀ u : State, (pendingAfterStore u).lin = u.lin := fun u => by unfold pendingAfterStore; split <;> rfl
  unfold captureEdge
  dsimp only
  split
  · rw [hpending]; rfl
  · split
    · rfl
    · rw [hpending]; rfl

theorem offerEdge_line_config (n : TrigNo) : ((offerEdge e n s).lin[m]).config = (s.lin[m]).config := by
  have hfire : ∀ t, ((fireTrigger n t e s).lin[m]).config = (s.lin[m]).config := by
    intro t
    by_cases hroom : s.sch.entries.length < 128
    · have hin : ((insertAndPass (t.entry n e) s).lin[m]).config = (s.lin[m]).config := by simp
      rw [fireTrigger_of_room hroom]
      split <;> exact hin
    · rw [fireTrigger_of_full (by omega)]; rfl
  unfold offerEdge
  split
  · rfl
  · split
    · exact hfire _
    · rfl

theorem settleSample_line_config (offset : Int) (g : W16) (k : Nat) :
    ((settleSample offset g k s).1.lin[m]).config = (s.lin[m]).config := by
  have hstep : ∀ (d : Int) (u : State), u.lin = s.lin → ((claimStep d k u).lin[m]).config = (s.lin[m]).config := fun d u hu => by
    unfold claimStep; split <;> simp [hu]
  have haccepted : ((steerAccepted offset s).lin[m]).config = (s.lin[m]).config := by
    unfold steerAccepted claimTracking claimSlew
    dsimp only
    split_ifs <;> simp
  have houtlier : ((steerOutlier offset k s).1.lin[m]).config = (s.lin[m]).config := by
    unfold steerOutlier
    dsimp only
    split
    · rfl
    · exact hstep _ (s.setRds { s.rds with run := s.rds.run + 1 }) rfl
  unfold settleSample
  split
  · rfl
  · split
    · split
      · exact haccepted
      · exact houtlier
    · rfl
    · rfl

theorem referenceEdge_line_config (k : Nat) : ((referenceEdge e k s).lin[m]).config = (s.lin[m]).config := by
  unfold referenceEdge
  dsimp only
  split
  · rfl
  · exact settleSample_line_config _ m _ _ k

end

/-! ### The handing on (R84, R101, R173) -/

/-- The Capture Log where a capture-edge setting takes the edge (R84). -/
def logWhere (c : CaptureEdges) (e : EdgeReport) (s : State) : State := if c.takes e.edge then captureEdge e s else s

section
variable {e : EdgeReport} {s : State} {c : LineConfig}

theorem edgeToLog_eq (h : (s.lin[e.line]).config = c) : edgeToLog e s = logWhere c.capture e s := by
  unfold edgeToLog logWhere; rw [h]

theorem logWhere_line_config (h : (s.lin[e.line]).config = c) (x : CaptureEdges) :
    ((logWhere x e s).lin[e.line]).config = c := by
  unfold logWhere
  split
  · simpa only [captureEdge_lin] using h
  · exact h

/-- The triggers in rising id, with the Capture Log before the one that the order names: the line keeps its setting meanwhile. -/
theorem handToTriggers_eq (h : (s.lin[e.line]).config = c) (order : EdgeOrder) :
    let v := (List.finRange 8).foldl (fun y m => offerEdge e m (if order.logAfter = m.val then logWhere c.capture e y else y)) s
    handToTriggers e order s = v ∧ (v.lin[e.line]).config = c := by
  have key : ∀ (ms : List TrigNo) (y : State), (y.lin[e.line]).config = c →
      ms.foldl (fun x m => offerEdge e m (logAt m e order x)) y =
        ms.foldl (fun y m => offerEdge e m (if order.logAfter = m.val then logWhere c.capture e y else y)) y ∧
      ((ms.foldl (fun y m => offerEdge e m (if order.logAfter = m.val then logWhere c.capture e y else y)) y).lin[e.line]).config =
        c := by
    intro ms
    induction ms with
    | nil => exact fun y hy => ⟨rfl, hy⟩
    | cons m ms ih =>
      intro y hy
      have hlog : logAt m e order y = if order.logAfter = m.val then logWhere c.capture e y else y := by
        unfold logAt; rw [edgeToLog_eq hy]
      have hkeep : ((if order.logAfter = m.val then logWhere c.capture e y else y).lin[e.line]).config = c := by
        split
        · exact logWhere_line_config hy _
        · exact hy
      simp only [List.foldl_cons, hlog]
      exact ih _ (by rw [offerEdge_line_config, hkeep])
  exact key _ s h

/-- An edge by the role and the setting that its line has when it is accepted (R84). -/
theorem handOn_eq (h : (s.lin[e.line]).config = c) (order : EdgeOrder) : handOn e order s =
    if c.role = .input then
      let v := (List.finRange 8).foldl (fun y m => offerEdge e m (if order.logAfter = m.val then logWhere c.capture e y else y)) s
      if 8 ≤ order.logAfter then logWhere c.capture e v else v
    else if c.role = .reference then
      if order.logAfter = 0 then referenceEdge e order.stateAfter (logWhere c.capture e s)
      else logWhere c.capture e (referenceEdge e order.stateAfter s)
    else logWhere c.capture e s := by
  obtain ⟨htrig, hkeep⟩ := handToTriggers_eq h order
  have href : edgeToLog e (referenceEdge e order.stateAfter s) = logWhere c.capture e (referenceEdge e order.stateAfter s) :=
    edgeToLog_eq (by rw [referenceEdge_line_config, h])
  unfold handOn
  dsimp only
  rw [htrig, edgeToLog_eq hkeep, href, edgeToLog_eq h, h]
  cases c.role <;> rfl

end

/-! ### The row (R81, log entry 7) -/

theorem Edge.ofLevel_eq (l : Level) : Edge.ofLevel l = if l = .high then .rise else .fall := by cases l <;> rfl

theorem Level.eq_inv_of_ne {l m : Level} (h : l ≠ m) : l = m.inv := by
  revert h; cases l <;> cases m <;> simp [Level.inv]

/-- The run that a sample of the inverse level leaves, from the run that stood (R81). -/
def Filter.grown (f : Filter) (now : Instant) (gen : W16) : Run :=
  match f.run with
  | none => ⟨1, now, gen⟩
  | some r => { r with count := r.count + 1 }

theorem Filter.sample_grown {f : Filter} {level : Level} (h : level ≠ f.accepted) (now : Instant) (gen : W16) :
    f.sample level now gen = ⟨⟨f.accepted, some (f.grown now gen)⟩, false⟩ := by
  unfold Filter.grown
  split <;> rename_i hr
  · exact Filter.sample_starts h hr
  · exact Filter.sample_grows h hr

section
variable {n : LineNo} {order : EdgeOrder} {f : Filter} {s : State}

/-- A sample of the inverse level leaves the line with the grown run, and its glitch count as it was (R81, R83). -/
theorem sampleLine_grown (hraw : s.raw n ≠ f.accepted) : (sampleLine n f s).lin = s.lin.set n { s.lin[n] with
    input := some ⟨f.accepted, some (f.grown s.tmb.instant s.tmb.generation)⟩ } := by
  rw [sampleLine_lin, Filter.sample_grown hraw]; rfl

/-- A sample whose run reaches the acceptance length is accepted with the run's onset (R81, R82). -/
theorem acceptRun_sampleLine (hraw : s.raw n ≠ f.accepted)
    (hacc : (f.grown s.tmb.instant s.tmb.generation).count = (s.lin[n]).config.acceptance) :
    let run := f.grown s.tmb.instant s.tmb.generation
    acceptRun n order (sampleLine n f s) =
      handOn { line := n, edge := Edge.ofLevel (s.raw n), onset := run.onset, generation := run.generation } order
        ((s.setDraws (s.draws + 1)).setLin (s.lin.set n { s.lin[n] with input := some ⟨s.raw n, none⟩ })) := by
  have hself : (sampleLine n f s).lin[n] = { s.lin[n] with
      input := some ⟨f.accepted, some (f.grown s.tmb.instant s.tmb.generation)⟩ } := by
    rw [sampleLine_grown hraw]; simp
  have hcompleted : (sampleLine n f s).completed n = some (⟨f.accepted, some (f.grown s.tmb.instant s.tmb.generation)⟩,
      f.grown s.tmb.instant s.tmb.generation) := by
    rw [State.completed_eq_some, hself]
    exact ⟨rfl, rfl, hacc.ge⟩
  have hset : (sampleLine n f s).setLine n { (sampleLine n f s).lin[n] with input := some ⟨s.raw n, none⟩ } =
      (s.setDraws (s.draws + 1)).setLin (s.lin.set n { s.lin[n] with input := some ⟨s.raw n, none⟩ }) := by
    rw [hself, State.setLine, sampleLine_grown hraw, Vector.set_set]
    rfl
  dsimp only
  rw [← hset, acceptRun_of_complete hcompleted]
  simp only [Filter.changed, ← Level.eq_inv_of_ne hraw]

/-- A run one sample short of its acceptance is due at the next sample, and not complete before it. -/
theorem State.accepting_of_grown (hf : (s.lin[n]).input = some f) (hraw : s.raw n ≠ f.accepted)
    (hacc : (f.grown s.tmb.instant s.tmb.generation).count = (s.lin[n]).config.acceptance) :
    s.complete n = false ∧ s.accepting n = true := by
  have hcount : f.runCount + 1 = (s.lin[n]).config.acceptance := by
    rw [← hacc]; unfold Filter.runCount Filter.grown; cases f.run <;> rfl
  refine ⟨State.complete_eq_false.2 fun g r hg hr => ?_, ?_⟩
  · rw [hf] at hg; cases hg
    simp only [Filter.runCount, hr] at hcount
    omega
  · unfold State.accepting
    rw [hf]
    dsimp only
    rw [decide_eq_true hcount.ge, Bool.and_true]
    exact bne_iff_ne.2 hraw

theorem exec_edgeAccept (hp : s.power = true) : exec (.edgeAccept n order) s = .next
    (if s.complete n then acceptRun n order s else dealIf (s.accepting n) (.line n (some order)) s) := by
  change whenPowered (fun x => if x.complete n then acceptRun n order x else
    dealIf (x.accepting n) (.line n (some order)) x) s = _
  rw [whenPowered, if_pos hp]

/-- The owed sample that completes a run is an acceptance with the run's onset. -/
theorem exec_edgeAccept_sample (hp : s.power = true) (hf : (s.lin[n]).input = some f) (ho : TickUnit.line n ∈ s.owed)
    (hraw : s.raw n ≠ f.accepted)
    (hacc : (f.grown s.tmb.instant s.tmb.generation).count = (s.lin[n]).config.acceptance) :
    exec (.edgeAccept n order) s = .next
      (let run := f.grown s.tmb.instant s.tmb.generation
       handOn { line := n, edge := Edge.ofLevel (s.raw n), onset := run.onset, generation := run.generation } order
        (((s.setOwed (s.owed.erase (.line n))).setDraws (s.draws + 1)).setLin
          (s.lin.set n { s.lin[n] with input := some { accepted := s.raw n, run := none } }))) := by
  obtain ⟨hincomplete, hdue⟩ := State.accepting_of_grown hf hraw hacc
  have hpart : doPart (.line n (some order)) (s.setOwed (s.owed.erase (.line n))) =
      acceptRun n order (sampleLine n f (s.setOwed (s.owed.erase (.line n)))) := by
    simp only [doPart, lineTick, State.setOwed_lin, hf]
  rw [exec_edgeAccept hp, if_neg (by simp [hincomplete]), dealIf_eq (p := .line n (some order)) ho, if_pos hdue]
  exact congrArg Host.Outcome.next
    (hpart.trans (acceptRun_sampleLine (s := s.setOwed (s.owed.erase (.line n))) hraw hacc))

/-- A run that stands complete is accepted without a sample (log entry 7). -/
theorem exec_edgeAccept_complete {r : Run} (hp : s.power = true) (hf : (s.lin[n]).input = some f) (hr : f.run = some r)
    (hacc : (s.lin[n]).config.acceptance ≤ r.count) :
    exec (.edgeAccept n order) s = .next
      (handOn { line := n, edge := Edge.ofLevel f.accepted.inv, onset := r.onset, generation := r.generation } order
        (s.setLin (s.lin.set n { s.lin[n] with input := some { accepted := f.accepted.inv, run := none } }))) := by
  have hcompleted : s.completed n = some (f, r) := State.completed_eq_some.2 ⟨hf, hr, hacc⟩
  have hcomplete : s.complete n = true := by rw [State.complete, hcompleted]; rfl
  rw [exec_edgeAccept hp, if_pos hcomplete, acceptRun_of_complete hcompleted]
  rfl

end

/-- Settles O42: a sample that completes a run, or a run that stands complete, is handed on by the line's configuration, which the
receivers leave as it is. -/
theorem edgesAreAccepted : Obligations.EdgesAreAccepted := by
  intro n order f s hp hf
  have hconfig : ∀ (x : State) (i : Option Filter),
      ((x.setLin (s.lin.set n { s.lin[n] with input := i })).lin[n]).config = (s.lin[n]).config := fun x i => by simp
  refine ⟨fun ho hraw => ⟨fun hr hacc => ?_, fun r hr hacc => ?_⟩, fun r hr hacc => ?_⟩
  · have hgrown : f.grown s.tmb.instant s.tmb.generation = ⟨1, s.tmb.instant, s.tmb.generation⟩ := by
      unfold Filter.grown; rw [hr]
    rw [exec_edgeAccept_sample hp hf ho hraw (by rw [hgrown, hacc]), hgrown]
    dsimp only
    rw [handOn_eq (hconfig _ _), Edge.ofLevel_eq]
    rfl
  · have hgrown : f.grown s.tmb.instant s.tmb.generation = { r with count := r.count + 1 } := by
      unfold Filter.grown; rw [hr]
    rw [exec_edgeAccept_sample hp hf ho hraw (by rw [hgrown, ← hacc]), hgrown]
    dsimp only
    rw [handOn_eq (hconfig _ _), Edge.ofLevel_eq]
    rfl
  · rw [exec_edgeAccept_complete hp hf hr hacc, handOn_eq (hconfig _ _), Edge.ofLevel_eq]
    rfl

end Sys2Proof.Machine

/-! ## A profile load, step by step -/

namespace Sys2Proof.Machine

/-! ### The steps of an application (R138) -/

/-- The power is one of the fields that a load lets stand. -/
theorem steady_power (x : Bool) : SteadyStore fun u => u.power = x where
  cap _ h := h
  trg _ h := h
  rds _ h := h
  flash _ h := h
  lnk _ h := h
  draws _ h := h
  sch _ _ h := h
  lines _ _ h := h
  prs _ _ h := h
  finish h := by simpa using h
  holdover c h := by unfold claimHoldover; split <;> simpa using h
  tracking c h := by unfold claimTracking; split <;> simpa using h
  stepBy d k h := by unfold claimStep; split <;> simpa using h
  lease p f h := by unfold installLease; split <;> exact h

section
variable {s : State}

theorem exec_loadSlotValidated (hp : s.power = true) (k : Nat) : exec (.loadSlotValidated k) s = .next (loadValidated k s) := by
  change whenPowered (loadValidated k) s = _
  rw [whenPowered, if_pos hp]

/-- No validation stands before the application: it runs, or no load does. -/
def State.validated (s : State) : Prop := ∀ su, s.prs.job ≠ .loading su .validating

theorem loadStep_of_idle (h : s.applying = false) : loadStep s = s := by
  unfold State.applying at h
  unfold loadStep
  split
  · rename_i hj; rw [hj] at h; cases h
  · rfl

theorem loadSteps_of_idle (h : s.applying = false) (k : Nat) : loadSteps k s = s := by
  induction k with
  | zero => rfl
  | succ k ih => rw [loadSteps, loadStep_of_idle h, ih]

theorem loadValidated_of_validated (h : s.validated) (k : Nat) : loadValidated k s = loadSteps k s := by
  unfold loadValidated
  split
  · rename_i hj; exact absurd hj (h _)
  · rename_i hj; exact absurd hj (h _)
  · rfl
  · rename_i hj
    refine (loadSteps_of_idle ?_ k).symm
    unfold State.applying
    split
    · rename_i hc; exact absurd hc (hj _ _ _ _ _ _ _)
    · rfl

theorem State.validated_of_applying (h : s.applying = true) : s.validated := fun su hj => by
  unfold State.applying at h
  rw [hj] at h
  cases h

theorem endLoad_validated (body : ProfileDone) (s : State) : (endLoad body s).validated := fun su hj => by
  simp [endLoad, State.setJob] at hj

theorem beginApply_validated (su : Bool) (slot : Slot) (v : Nat × Profile) (fb : Bool) (s : State) :
    (beginApply su slot v fb s).validated := fun x hj => by
  simp [beginApply, State.setJob] at hj

theorem loadStep_validated (h : s.validated) : (loadStep s).validated := by
  unfold loadStep
  split
  · split
    · exact endLoad_validated _ _
    · exact fun x hj => by simp [State.setJob] at hj
  · exact h

theorem requestedValidated_validated (s : State) : (requestedValidated s).validated := by
  unfold requestedValidated
  dsimp only
  split
  · exact beginApply_validated _ _ _ _ _
  · split
    · exact beginApply_validated _ _ _ _ _
    · exact endLoad_validated _ _

/-- The slot that becomes current holds a valid profile (R134, R135). -/
theorem validateSlot_of_current {m : List Host.Cell} {slot : Slot}
    (h : currentSlot (describe (validateSlot m .a)) (describe (validateSlot m .b)) = some slot) : validateSlot m slot ≠ none := by
  have hvalid : ∀ x, (describe x).valid = true → x ≠ none := by
    intro x hx hn; rw [hn] at hx; cases hx
  unfold currentSlot at h
  split at h
  · rename_i ha
    split at h <;> cases h
    · rename_i hb; exact hvalid _ (Bool.and_eq_true_iff.1 hb).1
    · exact hvalid _ ha
  · split at h <;> cases h
    rename_i hb; exact hvalid _ hb

theorem startUpValidated_validated (s : State) : (startUpValidated s).validated := by
  unfold startUpValidated
  dsimp only
  split
  · exact endLoad_validated _ _
  · rename_i slot hslot
    split
    · rename_i hnone; exact absurd hnone (validateSlot_of_current hslot)
    · exact beginApply_validated _ _ _ _ _

/-- The validation of a waiting load, and then the steps of the application (log entry 11). -/
theorem loadValidated_zero (h : s.loading = true) : (loadValidated 0 s).validated ∧
    ∀ k, loadValidated k s = loadSteps k (loadValidated 0 s) := by
  unfold loadValidated
  split
  · exact ⟨startUpValidated_validated s, fun _ => rfl⟩
  · exact ⟨requestedValidated_validated s, fun _ => rfl⟩
  · rename_i hj
    have hval : s.validated := fun su hc => by rw [hj] at hc; cases hc
    exact ⟨hval, fun _ => rfl⟩
  · rename_i hstart hreq happ
    unfold State.loading PrsJob.isLoading at h
    split at h
    · rename_i su work hj
      cases work with
      | validating =>
        cases su
        · exact absurd hj hreq
        · exact absurd hj hstart
      | applying => exact absurd hj (happ _ _ _ _ _ _ _)
    · cases h

theorem loadValidated_power (k : Nat) : (loadValidated k s).power = s.power := by
  have hs := steady_power s.power
  have hsteps : ∀ k (u : State), u.power = s.power → (loadSteps k u).power = s.power := by
    intro k
    induction k with
    | zero => exact fun _ hu => hu
    | succ k ih => exact fun u hu => ih _ (hs.loadStep hu)
  unfold loadValidated
  split
  · rename_i hj; exact hsteps k _ (hs.startUpValidated (by rw [hj]; rfl) rfl)
  · rename_i hj; exact hsteps k _ (hs.requestedValidated (by rw [hj]; rfl) rfl)
  · exact hsteps k _ rfl
  · rfl

/-! ### The validation of a requested load (R134, R137) -/

theorem loadValidated_requested (hj : s.prs.job = .loading false .validating) : loadValidated 0 s = requestedValidated s := by
  unfold loadValidated; rw [hj]; rfl

theorem requestedValidated_of_first {v : Nat × Profile} (h : validateSlot s.flash.cells (rankedFirst s.flash.cells) = some v) :
    requestedValidated s = beginApply false (rankedFirst s.flash.cells) v false (recordSlot (rankedFirst s.flash.cells) s) := by
  unfold requestedValidated; dsimp only; rw [h]

theorem requestedValidated_of_other {v : Nat × Profile} (h : validateSlot s.flash.cells (rankedFirst s.flash.cells) = none)
    (h' : validateSlot s.flash.cells (rankedFirst s.flash.cells).other = some v) : requestedValidated s =
      beginApply false (rankedFirst s.flash.cells).other v true
        (recordSlot (rankedFirst s.flash.cells).other (recordSlot (rankedFirst s.flash.cells) s)) := by
  unfold requestedValidated; dsimp only; rw [h, h']

theorem requestedValidated_of_none (h : validateSlot s.flash.cells (rankedFirst s.flash.cells) = none)
    (h' : validateSlot s.flash.cells (rankedFirst s.flash.cells).other = none) : requestedValidated s =
      endLoad (.plain .load .noneValid)
        (recordSlot (rankedFirst s.flash.cells).other (recordSlot (rankedFirst s.flash.cells) s)) := by
  unfold requestedValidated; dsimp only; rw [h, h']

theorem recordSlot_other (slot slot' : Slot) (s : State) : recordSlot slot' (recordSlot slot s) =
    (s.setDesc slot (describe (validateSlot s.flash.cells slot))).setDesc slot' (describe (validateSlot s.flash.cells slot')) := by
  unfold recordSlot; rw [State.setDesc_flash]

/-! ### One step (R138) -/

theorem loadValidated_one (h : s.applying = true) : loadValidated 1 s = loadStep s :=
  loadValidated_of_validated (State.validated_of_applying h) 1

theorem State.applying_of_job {su : Bool} {slot : Slot} {gen : Nat} {fb : Bool} {sts : List LoadStage} {ins drop : Nat}
    (hj : s.prs.job = .loading su (.applying slot gen fb sts ins drop)) : s.applying = true := by
  unfold State.applying; rw [hj]

/-- An entry that is judged away is counted as dropped, every other as inserted (R138, R139). -/
theorem LoadStage.counts_insertEntry (e : StoredEntry) (s : State) : (LoadStage.insertEntry e).counts s =
    (if e.judge s.tmb.validity s.now = none then 0 else 1, if e.judge s.tmb.validity s.now = none then 1 else 0) := by
  unfold LoadStage.counts
  dsimp only
  cases e.judge s.tmb.validity s.now <;> simp

end

/-! ### The stages -/

section
variable (s : State)

theorem allLinesOff_eq : allLinesOff s =
    let off := s.setLin (s.lin.map fun l => l.configured LineConfig.off)
    if ∃ n : LineNo, (s.lin[n]).config.role = .reference then refRemoved off else off := by
  have hhad : (s.lin.toList.any fun l => l.config.role == .reference) = true ↔
      ∃ n : LineNo, (s.lin[n]).config.role = .reference := by
    simp only [List.any_eq_true, beq_iff_eq, Vector.mem_toList_iff, Vector.mem_iff_getElem]
    constructor
    · rintro ⟨l, ⟨i, hi, rfl⟩, hr⟩; exact ⟨⟨i, hi⟩, hr⟩
    · rintro ⟨n, hr⟩; exact ⟨_, ⟨n, n.isLt, rfl⟩, hr⟩
  unfold allLinesOff
  dsimp only
  simp only [hhad]

/-- All lines OFF: a reference line among them is removed, and nothing else changes (R138, R114). -/
theorem allLinesOff_cases :
    let t := allLinesOff s
    let had := ∃ n : LineNo, (s.lin[n]).config.role = .reference
    let ends := had ∧ s.rds.config.mode = .steer ∧ s.tmb.validity = .tracking
    (∀ n : LineNo, t.lin[n] = { s.lin[n] with config := LineConfig.off, output := none, input := none }) ∧
    (had → t.rds = { s.rds with line := none, run := 0, state := .idle, count := 0 }) ∧ (¬had → t.rds = s.rds) ∧
    (ends → t.tmb = { s.tmb with validity := .holdover } ∧
      t.lnk = (s.lnk.enqueue (.timeState .tracking .holdover .refOff s.tmb.instant s.tmb.generation)).choose) ∧
    (¬ends → t.tmb = s.tmb ∧ t.lnk = s.lnk) ∧
    t.sch = s.sch ∧ t.cap = s.cap ∧ t.trg = s.trg ∧ t.prs = s.prs ∧ t.lsm = s.lsm ∧ t.draws = s.draws := by
  have hoff : ∀ n : LineNo, (s.lin.map fun l => l.configured LineConfig.off)[n] =
      { s.lin[n] with config := LineConfig.off, output := none, input := none } := fun n => by
    rw [Fin.getElem_fin, Fin.getElem_fin, Vector.getElem_map]; rfl
  have hlin : (allLinesOff s).lin = s.lin.map fun l => l.configured LineConfig.off := by
    rw [allLinesOff_eq]; dsimp only; split <;> simp
  dsimp only
  rw [hlin]
  refine ⟨hoff, ?_⟩
  rw [allLinesOff_eq]
  dsimp only
  rw [refRemoved_eq]
  dsimp only
  by_cases hhad : ∃ n : LineNo, (s.lin[n]).config.role = .reference
  · by_cases hst : s.rds.config.mode = .steer ∧ s.tmb.validity = .tracking
    · rw [if_pos hhad, State.setLin_rds, State.setLin_tmb, if_pos hst]
      exact ⟨fun _ => rfl, absurd hhad, fun _ => ⟨rfl, rfl⟩, absurd ⟨hhad, hst⟩, rfl, rfl, rfl, rfl, rfl, rfl⟩
    · rw [if_pos hhad, State.setLin_rds, State.setLin_tmb, if_neg hst]
      exact ⟨fun _ => rfl, absurd hhad, fun h => absurd h.2 hst, fun _ => ⟨rfl, rfl⟩, rfl, rfl, rfl, rfl, rfl, rfl⟩
  · rw [if_neg hhad]
    exact ⟨fun h => absurd h hhad, fun _ => rfl, fun h => absurd h.1 hhad, fun _ => ⟨rfl, rfl⟩, rfl, rfl, rfl, rfl, rfl, rfl⟩

theorem installRefConfig_claims (c : RefConfig) :
    (if s.rds.config.mode = .steer ∧ c.mode ≠ .steer then claimHoldover .refOff s else s) =
      if s.rds.config.mode = .steer ∧ c.mode ≠ .steer ∧ s.tmb.validity = .tracking then setValidity .holdover .refOff 0 s else s := by
  unfold claimHoldover
  by_cases hm : s.rds.config.mode = .steer ∧ c.mode ≠ .steer
  · by_cases hv : s.tmb.validity = .tracking <;> simp [hm, hv]
  · rw [if_neg hm, if_neg fun h => hm ⟨h.1, h.2.1⟩]

theorem installLease_eq (period : Nat) (fallback : Fallback) : installLease period fallback s = s.setLsm
    (if s.lsm.state = .expired then { s.lsm with period := period, fallback := fallback }
     else { period := period, fallback := fallback, state := if period = 0 then .disabled else .running, count := 0 }) := by
  unfold installLease Lsm.install
  cases s.lsm.state <;> rfl

theorem runStage_insertEntry (e : StoredEntry) :
    (e.judge s.tmb.validity s.now = none → runStage (.insertEntry e) s = s) ∧
    (∀ x, e.judge s.tmb.validity s.now = some x → runStage (.insertEntry e) s = insertAndPass x s) := by
  unfold runStage
  dsimp only
  exact ⟨fun h => by rw [h], fun x h => by rw [h]⟩

end

/-- Settles O47: the validation of a requested load, its stages as equations, and a run of steps as one step after another. -/
theorem loadsApplyTheRankedSlot : Obligations.LoadsApplyTheRankedSlot := by
  intro s hp
  have hexec : ∀ k, exec (.loadSlotValidated k) s = .next (loadValidated k s) := exec_loadSlotValidated hp
  have hrequested : s.prs.job = .loading false .validating → exec (.loadSlotValidated 0) s = .next (requestedValidated s) :=
    fun hj => by rw [hexec, loadValidated_requested hj]
  have hstep : s.applying = true → exec (.loadSlotValidated 1) s = .next (loadStep s) := fun h => by
    rw [hexec, loadValidated_one h]
  have hagain : ∀ j k t, exec (.loadSlotValidated j) s = .next t → (loadValidated j s).validated →
      exec (.loadSlotValidated k) t = .next (loadSteps k (loadValidated j s)) := by
    intro j k t ht hval
    rw [hexec] at ht
    cases ht
    rw [exec_loadSlotValidated (by rw [loadValidated_power, hp]), loadValidated_of_validated hval]
  refine ⟨fun v hj hv => ?_, fun v hj hn hv => ?_, fun hj hn hn' => ?_, fun su slot gen fb ins drop hj => ?_,
    fun su slot gen fb st rest ins drop hj => ?_, fun _ => rfl, rfl, rfl, allLinesOff_cases s, fun _ => rfl, fun _ => rfl,
    fun policy mark => rfl, fun c => ?_, installLease_eq s, runStage_insertEntry s, fun ts => ?_, fun k t hl ht => ?_,
    fun k t happ ht => ?_⟩
  · rw [hrequested hj, requestedValidated_of_first hv]; rfl
  · rw [hrequested hj, requestedValidated_of_other hn hv, recordSlot_other]; rfl
  · rw [hrequested hj, requestedValidated_of_none hn hn', recordSlot_other]; rfl
  · rw [hstep (State.applying_of_job hj), loadStep, hj]; rfl
  · rw [hstep (State.applying_of_job hj), loadStep, hj]
    dsimp only
    cases st with
    | insertEntry e => rw [LoadStage.counts_insertEntry]
    | _ => rfl
  · change installRefConfig c s = _
    rw [installRefConfig_eq, installRefConfig_claims]
  · refine ⟨ts.map fun t => t.map Trigger.ofStored, rfl, fun n => ?_⟩
    rw [Fin.getElem_fin, Fin.getElem_fin, Vector.getElem_map]
    cases ts[(n : Nat)] <;> rfl
  · obtain ⟨hval, hrun⟩ := loadValidated_zero hl
    rw [hexec, hrun, hagain 0 k t ht hval]
  · have hone := loadValidated_one happ
    have hval := State.validated_of_applying happ
    rw [hexec, loadValidated_of_validated hval, hagain 1 k t ht (hone ▸ loadStep_validated hval), hone]
    rfl

end Sys2Proof.Machine

/-! ## The Capture Log: storing, configuring, acknowledging -/

namespace Sys2Proof.Machine

/-! ### The storing of an edge (R91, R92, R95) -/

/-- A log put in place of the one there is, with CAPTURE-PENDING and the flag no where it stands at the mark with the flag yes
(R95). -/
theorem pendingAfterStore_setCap (c : Cap) (s : State) : pendingAfterStore (s.setCap c) =
    if c.mark ≤ c.log.length ∧ c.armed = true then
      post (.capturePending c.log.length c.lost c.lastSerial) (s.setCap { c with armed := false })
    else s.setCap c := rfl

section
variable {e : EdgeReport} {s : State}

/-- A log with room stores the edge (R91). -/
theorem captureEdge_of_room (h : s.cap.log.length < 256) :
    captureEdge e s = pendingAfterStore (s.setCap (s.cap.store e s.tmb.validity)) := if_pos h

/-- A full log that keeps the oldest records loses the edge (R92). -/
theorem captureEdge_of_keepOldest (h : 256 ≤ s.cap.log.length) (hp : s.cap.policy = .keepOldest) :
    captureEdge e s = s.setCap s.cap.lose := by
  unfold captureEdge
  rw [if_neg (Nat.not_lt.2 h), hp]

/-- A full log that keeps the newest records loses its oldest one to the edge (R92). -/
theorem captureEdge_of_keepNewest (h : 256 ≤ s.cap.log.length) (hp : s.cap.policy = .keepNewest) :
    captureEdge e s =
      pendingAfterStore (s.setCap (Cap.store { s.cap with log := s.cap.log.tail } e s.tmb.validity).lose) := by
  unfold captureEdge
  rw [if_neg (Nat.not_lt.2 h), hp]

end

/-- Settles O43: an edge by the room in the log and its policy; a stored record is compared with the mark. -/
theorem edgesAreCaptured : Obligations.EdgesAreCaptured := by
  refine fun e s => ⟨fun hroom => ?_, fun hfull hp => ?_, fun hfull hp => ?_⟩
  · rw [captureEdge_of_room hroom, pendingAfterStore_setCap]
    simp only [Cap.store, List.length_append, List.length_singleton]
  · rw [captureEdge_of_keepOldest hfull hp]
    rfl
  · rw [captureEdge_of_keepNewest hfull hp, pendingAfterStore_setCap]
    simp only [Cap.store, Cap.lose, List.length_append, List.length_singleton]

/-! ### CAP-CONFIG and CAP-ACK (R94, R96) -/

/-- A policy and a mark put in, and the count compared with the mark (R96). -/
theorem installCaptureConfig_eq (p : CapPolicy) (m : Nat) (s : State) : installCaptureConfig p m s =
    (let c : Cap := { s.cap with policy := p, mark := m }
     if s.cap.log.length < m then s.setCap { c with armed := true }
     else if s.cap.armed = true then
       post (.capturePending s.cap.log.length s.cap.lost s.cap.lastSerial) (s.setCap { c with armed := false })
     else s.setCap c) := rfl

/-- A policy and a mark that CAP-CONFIG takes: a policy of the set, and a mark of 1 to 256 (R96). -/
theorem readCapConfig_eq (policy : Byte) (mark : Nat) : readCapConfig policy mark =
    match CapPolicy.ofCode policy, decide (1 ≤ mark ∧ mark ≤ 256) with
    | some p, true => some (p, mark)
    | _, _ => none := by
  unfold readCapConfig
  by_cases hm : 1 ≤ mark ∧ mark ≤ 256
  · rw [decide_eq_true hm]; cases CapPolicy.ofCode policy <;> simp [hm]
  · rw [decide_eq_false hm]; cases CapPolicy.ofCode policy <;> simp [hm]

section
variable {h : FrameHead} {s : State}

theorem exec_capConfig (hq : Quiet h s) (policy : Byte) (mark : W16) :
    exec (.capConfig h policy mark) s = .next (served h (.capConfig policy mark) 0 s) :=
  exec_of_params rfl hq (by simp) rfl (fun _ => rfl) (by simp [encodeParams, u16, Config.payloadMax])
    (congrArg (fun x => some (Request.capConfig policy x)) (w16At_eq (p := policy :: u16 mark.toNat) (i := 1) rfl rfl))

theorem exec_capAck (hq : Quiet h s) (w : W32) : exec (.capAck h w) s = .next (served h (.capAck w) 0 s) :=
  exec_of_params rfl hq (by simp) rfl (fun _ => rfl) (by simp [encodeParams, u32, Config.payloadMax])
    (congrArg (some ∘ Request.capAck) (w32At_eq (p := u32 w.toNat) (i := 0) rfl rfl rfl rfl))

end

/-- Settles O22: the checks of CAP-CONFIG and the comparison with the mark; what CAP-ACK takes off the oldest end. -/
theorem captureConfiguresAndAcknowledges : Obligations.CaptureConfiguresAndAcknowledges := by
  refine fun h s hq => ⟨fun policy mark => ?config, fun w => ?ack⟩
  case config =>
    rw [exec_capConfig hq]
    simp only [served, answer, answerCapConfig, begun_loading, begun_cap, readCapConfig_eq, requestCode]
    by_cases hl : s.loading = true
    · rw [if_pos hl, if_pos hl]; rfl
    · rw [if_neg hl, if_neg hl]
      cases CapPolicy.ofCode policy with
      | none => rfl
      | some p =>
        cases decide (1 ≤ mark.toNat ∧ mark.toNat ≤ 256) with
        | false => rfl
        | true => simp only [installCaptureConfig_eq, begun_cap]; rfl
  case ack =>
    rw [exec_capAck hq]
    simp only [served, answer, answerCapAck, begun_cap, requestCode, Cap.acknowledge, Answer.ok, Nat.pos_iff_ne_zero,
      List.length_drop, ← List.length_eq_zero_iff]
    rfl

end Sys2Proof.Machine

/-! ## The requests of the Trigger Table -/

namespace Sys2Proof.Machine

/-! ### Its fields (R106 check 2) -/

section
variable {b : Byte}

theorem TrigEdge.ofCode_eq_none : TrigEdge.ofCode b = none ↔ 2 < b.toNat := by
  rcases h : b.toNat with _ | _ | _ | n <;> simp [TrigEdge.ofCode, h]

theorem TrigEdge.code_of_ofCode {e : TrigEdge} (h : TrigEdge.ofCode b = some e) : e.code = b.toNat := by
  unfold TrigEdge.ofCode at h; split at h <;> cases h <;> exact Eq.symm ‹_›

theorem trigOfByte_eq_none : trigOfByte b = none ↔ b.toNat < 1 ∨ 8 < b.toNat := by
  unfold trigOfByte; split <;> simp <;> omega

theorem trigOfByte_eq_some {t : TrigNo} : trigOfByte b = some t ↔ b.toNat = t.val + 1 := by
  have := t.isLt
  unfold trigOfByte
  split <;> simp [Fin.ext_iff] <;> omega

/-- A line set and a width that do not make a template: MARK is no kind of it (R99, R106). -/
theorem Kind.templateFits_eq_false {k : Kind} {l w : W16} (h : Kind.ofCode b = some k) :
    (k != .mark && k.fits l w.toNat) = false ↔ 3 < b.toNat ∨ l = 0 ∨ (b = 3 ∧ w = 0) ∨ (b ≠ 3 ∧ w ≠ 0) := by
  have hb := Kind.code_of_ofCode h
  have h4 : b ≠ 4 ↔ k ≠ .mark := by
    rw [Ne, ← BitVec.toNat_inj, ← hb]
    cases k <;> simp [Kind.code]
  have h3 : 3 < b.toNat ↔ k = .mark := by
    rw [← hb]
    cases k <;> simp [Kind.code]
  rw [Bool.and_eq_false_iff, Kind.fits_eq_false h, h3, bne_eq_false_iff_eq]
  tauto

end

section
variable {source edge kind late : Byte} {delay holdoff : Nat} {lines w : W16} {notify : Bool}

/-- With its codes in range TRG-SET asks for a definition unless one of the other field checks fails. -/
theorem readTrigDef_eq_none_of_codes {n : LineNo} {e : TrigEdge} {k : Kind} {l : LatePolicy} (hn : lineOfByte source = some n)
    (he : TrigEdge.ofCode edge = some e) (hk : Kind.ofCode kind = some k) (hl : LatePolicy.ofCode late = some l) :
    readTrigDef source edge delay holdoff kind lines w.toNat late notify = none ↔
      (k != .mark && k.fits lines w.toNat) = false ∨ 1048575 < delay := by
  unfold readTrigDef
  rw [hn, he, hk, hl]
  dsimp only
  cases k != .mark && k.fits lines w.toNat <;> simp

/-- The field checks of TRG-SET, the id apart (R106 check 2). -/
theorem readTrigDef_eq_none : readTrigDef source edge delay holdoff kind lines w.toNat late notify = none ↔
    source.toNat < 1 ∨ 16 < source.toNat ∨ 2 < edge.toNat ∨ 3 < kind.toNat ∨ 1 < late.toNat ∨ 1048575 < delay ∨
    lines = 0 ∨ (kind = 3 ∧ w = 0) ∨ (kind ≠ 3 ∧ w ≠ 0) := by
  rw [← or_assoc, ← lineOfByte_eq_none, ← TrigEdge.ofCode_eq_none, ← LatePolicy.ofCode_eq_none]
  cases hn : lineOfByte source with
  | none => simp [readTrigDef, hn]
  | some n =>
    cases he : TrigEdge.ofCode edge with
    | none => simp [readTrigDef, he]
    | some e =>
      cases hl : LatePolicy.ofCode late with
      | none => simp [readTrigDef, hl]
      | some l =>
        cases hk : Kind.ofCode kind with
        | none =>
          have h4 := Kind.ofCode_eq_none.1 hk
          have h3 : 3 < kind.toNat := by omega
          simp [readTrigDef, hk, h3]
        | some k =>
          rw [readTrigDef_eq_none_of_codes hn he hk hl, Kind.templateFits_eq_false hk]
          simp only [reduceCtorEq, false_or]
          tauto

/-- The definition that TRG-SET asks for, field by field (R106). -/
theorem readTrigDef_fields {d : TrigDef} {width : Nat}
    (h : readTrigDef source edge delay holdoff kind lines width late notify = some d) :
    d.source.val + 1 = source.toNat ∧ d.edge.code = edge.toNat ∧ d.delay = delay ∧ d.holdoff = holdoff ∧
    d.template.kind.code = kind.toNat ∧ d.template.lines = lines ∧ d.template.width = width ∧
    d.template.late.code = late.toNat ∧ d.template.notify = notify := by
  unfold readTrigDef at h
  split at h
  · rename_i n e k l hn he hk hl
    split at h <;> cases h
    exact ⟨(lineOfByte_eq_some.1 hn).symm, TrigEdge.code_of_ofCode he, rfl, rfl, Kind.code_of_ofCode hk, rfl, rfl,
      LatePolicy.code_of_ofCode hl, rfl⟩
  · cases h

end

/-! ### The requests -/

/-- The 16 parameter bytes of TRG-SET one by one (10.3). -/
theorem encodeTrgSet_eq (p : TrgSetParams) : encodeTrgSet p =
    [p.id, p.source, p.edge, BitVec.ofNat 8 p.delay.toNat, BitVec.ofNat 8 (p.delay.toNat / 256),
     BitVec.ofNat 8 (p.delay.toNat / 65536), BitVec.ofNat 8 (p.delay.toNat / 16777216), BitVec.ofNat 8 p.holdoff.toNat,
     BitVec.ofNat 8 (p.holdoff.toNat / 256), p.kind, BitVec.ofNat 8 p.lines.toNat, BitVec.ofNat 8 (p.lines.toNat / 256),
     BitVec.ofNat 8 p.width.toNat, BitVec.ofNat 8 (p.width.toNat / 256), p.late, if p.notify then 1 else 0] := by
  simp only [encodeTrgSet, u16, u32, flag, List.cons_append, List.nil_append]

theorem encodeTrgSet_length (p : TrgSetParams) : (encodeTrgSet p).length = 16 := by rw [encodeTrgSet_eq]; rfl

theorem decodeTrgSet_encodeTrgSet (p : TrgSetParams) : decodeTrgSet (encodeTrgSet p) = some p := by
  have delay : w32At (encodeTrgSet p) 3 = p.delay := by rw [encodeTrgSet_eq]; exact w32At_eq rfl rfl rfl rfl
  have holdoff : w16At (encodeTrgSet p) 7 = p.holdoff := by rw [encodeTrgSet_eq]; exact w16At_eq rfl rfl
  have lines : w16At (encodeTrgSet p) 10 = p.lines := by rw [encodeTrgSet_eq]; exact w16At_eq rfl rfl
  have width : w16At (encodeTrgSet p) 12 = p.width := by rw [encodeTrgSet_eq]; exact w16At_eq rfl rfl
  have notify : flagAt (encodeTrgSet p) 15 = some p.notify := by rw [encodeTrgSet_eq]; exact flagAt_eq rfl
  have kind : byteAt (encodeTrgSet p) 9 = p.kind := by rw [encodeTrgSet_eq]; rfl
  have late : byteAt (encodeTrgSet p) 14 = p.late := by rw [encodeTrgSet_eq]; rfl
  unfold decodeTrgSet
  rw [notify, delay, holdoff, lines, width, kind, late]
  rfl

section
variable {h : FrameHead} {s : State}

theorem exec_trgSet (hq : Quiet h s) (p : TrgSetParams) : exec (.trgSet h p) s = .next (served h (.trgSet p) 0 s) :=
  exec_of_params rfl hq (by simp) rfl (fun _ => rfl)
    (by simp only [encodeParams, encodeTrgSet_length, Config.payloadMax]; omega)
    (by simp only [requestCode, encodeParams, decodeParams, encodeTrgSet_length, if_true, decodeTrgSet_encodeTrgSet,
          Option.map_some])

theorem exec_trgArm (hq : Quiet h s) (id count : Byte) :
    exec (.trgArm h id count) s = .next (served h (.trgArm id count) 0 s) :=
  exec_of_params rfl hq (by simp) rfl (fun _ => rfl) (by simp [encodeParams, Config.payloadMax]) rfl

theorem exec_trgDisarm (hq : Quiet h s) (id : Byte) : exec (.trgDisarm h id) s = .next (served h (.trgDisarm id) 0 s) :=
  exec_of_params rfl hq (by simp) rfl (fun _ => rfl) (by simp [encodeParams, Config.payloadMax]) rfl

theorem exec_trgClear (hq : Quiet h s) (id : Byte) : exec (.trgClear h id) s = .next (served h (.trgClear id) 0 s) :=
  exec_of_params rfl hq (by simp) rfl (fun _ => rfl) (by simp [encodeParams, Config.payloadMax]) rfl

/-- What TRG-SET answers once its id and its fields make a trigger (R106 check 3). -/
theorem exec_trgSet_of_some {p : TrgSetParams} {t : TrigNo} {d : TrigDef} (hq : Quiet h s) (hl : s.loading = false)
    (ht : trigOfByte p.id = some t)
    (hd : readTrigDef p.source p.edge p.delay.toNat p.holdoff.toNat p.kind p.lines p.width.toNat p.late p.notify = some d) :
    exec (.trgSet h p) s = .next
      (if d.rolesFit s = true then
        ended h 0x48 .ok (flag (s.trg[t]).isSome) ((begun h s).setTrg (s.trg.set t (some (Trigger.ofDef d))))
       else ended h 0x48 .badLine [] (begun h s)) := by
  have hr : d.rolesFit (begun h s) = d.rolesFit s :=
    Bool.eq_iff_iff.2 (by simp only [TrigDef.rolesFit_iff, begun_outputRole, begun_inputRole])
  rw [exec_trgSet hq]
  simp only [served, answer, answerTrgSet, begun_loading, begun_trg, hl, ht, hd, hr, State.setTrigger, requestCode,
    Bool.false_eq_true, if_false]
  split_ifs <;> rfl

/-! ### Arming, disarming and clearing (R107, R108) -/

@[simp] theorem begun_namedTrigger (id : Byte) : (begun h s).namedTrigger id = s.namedTrigger id := by
  unfold State.namedTrigger; rw [begun_loading, begun_trg]

/-- An id that names no present trigger that may change (R107, R108). -/
theorem State.namedTrigger_eq_error {id : Byte} {st : Status} : s.namedTrigger id = .error st ↔
    (s.loading = true ∧ st = .busy) ∨ (s.loading = false ∧ (id.toNat < 1 ∨ 8 < id.toNat) ∧ st = .badValue) ∨
    (s.loading = false ∧ ∃ t : TrigNo, id.toNat = t.val + 1 ∧ s.trg[t] = none ∧ st = .notFound) := by
  simp only [← trigOfByte_eq_none, ← trigOfByte_eq_some]
  unfold State.namedTrigger
  cases s.loading with
  | true => simp [eq_comm]
  | false =>
    cases trigOfByte id with
    | none => simp [eq_comm]
    | some t =>
      simp only [reduceCtorEq, Bool.false_eq_true, false_and, true_and, false_or, Option.some.injEq, exists_eq_left', if_false]
      cases s.trg[t] <;> simp [eq_comm]

/-- A present trigger named by its id (R107, R108). -/
theorem State.namedTrigger_eq_ok {id : Byte} {t : TrigNo} {x : Trigger} (hl : s.loading = false)
    (ht : id.toNat = t.val + 1) (hx : s.trg[t] = some x) : s.namedTrigger id = .ok (t, x) := by
  unfold State.namedTrigger
  rw [hl, trigOfByte_eq_some.2 ht]
  simp only [Bool.false_eq_true, if_false, hx]

end

/-- Settles O23: the checks of TRG-SET in their order and the trigger it defines; the requests that name a present trigger. -/
theorem triggerRequests : Obligations.TriggerRequests := by
  refine fun h s hq => ⟨fun p hl => ?busy, fun p => ⟨readTrigDef_eq_none, fun hl hbad => ?badValue⟩,
    fun p t d hl ht hd => ⟨readTrigDef_fields hd, ?accepted⟩, fun id count st href => ?refused,
    fun id count t x hl ht hx => ?named⟩
  case busy =>
    rw [exec_trgSet hq]
    simp only [served, answer, answerTrgSet, begun_loading, hl, if_true]
    rfl
  case badValue =>
    rw [← or_assoc, ← trigOfByte_eq_none] at hbad
    rw [exec_trgSet hq]
    simp only [served, answer, answerTrgSet, begun_loading, hl, Bool.false_eq_true, if_false]
    obtain hnone | hnone := hbad
    · rw [hnone]; rfl
    · rw [hnone]; cases trigOfByte p.id <;> rfl
  case accepted =>
    have hlines : d.template.lines = p.lines := by
      obtain ⟨-, -, -, -, -, h, -⟩ := readTrigDef_fields hd
      exact h
    rw [exec_trgSet_of_some hq hl (trigOfByte_eq_some.2 ht) hd]
    simp only [TrigDef.rolesFit_iff, hlines, and_comm]
    rfl
  case refused =>
    have herr := State.namedTrigger_eq_error.2 href
    rw [exec_trgArm hq, exec_trgDisarm hq, exec_trgClear hq]
    simp only [served, answer, answerTrgArm, answerTrgDisarm, answerTrgClear, begun_namedTrigger, herr]
    exact ⟨rfl, rfl, rfl⟩
  case named =>
    have hok := State.namedTrigger_eq_ok hl ht hx
    rw [exec_trgArm hq, exec_trgDisarm hq, exec_trgClear hq]
    simp only [served, answer, answerTrgArm, answerTrgDisarm, answerTrgClear, begun_namedTrigger, hok, State.setTrigger,
      begun_trg]
    exact ⟨rfl, rfl, rfl⟩

end Sys2Proof.Machine

/-! ## The Capture Log and the flash stay canonical -/

namespace Sys2Proof.Machine

/-! ### Consecutive serials (R89) -/

theorem serialsFrom_append (q : W32) (l : List CapRecord) (r : CapRecord) : serialsFrom q (l ++ [r]) =
    (serialsFrom q l && r.serial == q + BitVec.ofNat 32 l.length + 1) := by
  induction l generalizing q with
  | nil => simp [serialsFrom]
  | cons x l ih =>
    have hq : q + 1 + BitVec.ofNat 32 l.length = q + BitVec.ofNat 32 (x :: l).length := by
      rw [List.length_cons, BitVec.ofNat_add, BitVec.add_assoc, BitVec.add_comm (BitVec.ofNat 32 l.length)]
      rfl
    rw [List.cons_append, serialsFrom, ih, hq, serialsFrom, Bool.and_assoc]

theorem serialsFrom_drop {q : W32} {l : List CapRecord} (h : serialsFrom q l = true) (k : Nat) :
    serialsFrom (q + BitVec.ofNat 32 k) (l.drop k) = true := by
  induction k generalizing q l with
  | zero => simpa using h
  | succ k ih =>
    cases l with
    | nil => simp [serialsFrom]
    | cons r l =>
      simp only [serialsFrom, Bool.and_eq_true] at h
      have hq : q + BitVec.ofNat 32 (k + 1) = q + 1 + BitVec.ofNat 32 k := by
        rw [BitVec.ofNat_add, BitVec.add_assoc, BitVec.add_comm (BitVec.ofNat 32 k)]
        rfl
      rw [hq]
      exact ih h.2

/-- The serials of a log end at the last serial without a gap (R89). -/
def Cap.consecutive (c : Cap) : Prop := serialsFrom (c.lastSerial - BitVec.ofNat 32 c.log.length) c.log = true

/-- A record with the next serial goes on from the last one (R91). -/
theorem Cap.consecutive.store {c : Cap} (h : c.consecutive) (e : EdgeReport) (v : Validity) : (c.store e v).consecutive := by
  have hstart : c.lastSerial + 1 - BitVec.ofNat 32 (c.log.length + 1) = c.lastSerial - BitVec.ofNat 32 c.log.length := by
    rw [BitVec.ofNat_add]
    exact add_sub_add_right_eq_sub _ _ _
  have hlast : c.lastSerial + 1 = c.lastSerial - BitVec.ofNat 32 c.log.length + BitVec.ofNat 32 c.log.length + 1 := by
    rw [BitVec.sub_add_cancel]
  unfold Cap.consecutive Cap.store
  dsimp only
  rw [List.length_append, List.length_singleton, hstart, serialsFrom_append, Bool.and_eq_true]
  exact ⟨h, beq_iff_eq.2 hlast⟩

/-- The records that are left at the newest end still end at the last serial (R94). -/
theorem Cap.consecutive.drop {c : Cap} (h : c.consecutive) (k : Nat) :
    ({ c with log := c.log.drop k } : Cap).consecutive := by
  unfold Cap.consecutive at h ⊢
  dsimp only
  by_cases hk : k ≤ c.log.length
  · have hstart : c.lastSerial - BitVec.ofNat 32 (c.log.drop k).length =
        c.lastSerial - BitVec.ofNat 32 c.log.length + BitVec.ofNat 32 k := by
      have hlen : BitVec.ofNat 32 c.log.length = BitVec.ofNat 32 (c.log.drop k).length + BitVec.ofNat 32 k := by
        rw [← BitVec.ofNat_add, List.length_drop, Nat.sub_add_cancel hk]
      rw [hlen, sub_add_eq_sub_sub, sub_add_cancel]
    rw [hstart]
    exact serialsFrom_drop h k
  · rw [List.drop_eq_nil_of_le (by omega)]
    rfl

/-! ### The Capture Log after each of its operations (R89, R92, R94 to R96) -/

/-- What of `Cap.ok` does not concern the flag: room, consecutive serials, no loss counted while empty (R89, R92, R94). -/
def Cap.recorded (c : Cap) : Prop :=
  c.log.length ≤ Config.captureMax ∧ c.consecutive ∧ (c.log = [] → c.lost = 0) ∧ c.lost ≤ Config.countMax

/-- The flag is no from the mark on, but for an empty log (R95). -/
def Cap.flagged (c : Cap) : Prop := c.armed = true → c.log.length < c.mark ∨ c.log = []

theorem Cap.ok_iff {c : Cap} : c.ok ↔ c.recorded ∧ c.flagged := by
  unfold Cap.ok Cap.recorded Cap.flagged Cap.consecutive
  tauto

/-- A log with room after the storing of a record. -/
theorem Cap.store_recorded {c : Cap} (hroom : c.log.length < Config.captureMax) (hserials : c.consecutive)
    (hlost : c.lost ≤ Config.countMax) (e : EdgeReport) (v : Validity) : (c.store e v).recorded := by
  refine ⟨?_, hserials.store e v, fun h => ?_, hlost⟩
  · simp only [Cap.store, List.length_append, List.length_singleton]
    omega
  · simp [Cap.store] at h

/-- A log that holds a record after a loss (R92). -/
theorem Cap.recorded.lose {c : Cap} (h : c.recorded) (hne : c.log ≠ []) : c.lose.recorded := by
  obtain ⟨hroom, hserials, -, -⟩ := h
  exact ⟨hroom, hserials, fun h0 => absurd h0 hne, min_le_left _ _⟩

/-- An acknowledgement keeps the log (R94, R95). -/
theorem Cap.ok.acknowledge {c : Cap} (h : c.ok) (n : W32) : (c.acknowledge n).ok := by
  obtain ⟨⟨hroom, hserials, hempty, hlost⟩, hflag⟩ := Cap.ok_iff.1 h
  have hlen : (c.log.drop (c.acknowledged n)).length ≤ c.log.length := by
    rw [List.length_drop]
    omega
  unfold Cap.acknowledge
  refine Cap.ok_iff.2 ⟨⟨hlen.trans hroom, hserials.drop _, fun h0 => ?_, ?_⟩, fun harm => ?_⟩
  · dsimp only at h0 ⊢
    by_cases hk : c.acknowledged n = 0
    · rw [hk, List.drop_zero] at h0
      rw [if_neg fun hc => hc.1 hk]
      exact hempty h0
    · rw [if_pos ⟨hk, List.length_eq_zero_iff.2 h0⟩]
  · dsimp only
    split
    · exact Nat.zero_le _
    · exact hlost
  · dsimp only at harm ⊢
    by_cases hlt : (c.log.drop (c.acknowledged n)).length < c.mark
    · exact .inl hlt
    · rw [if_neg hlt] at harm
      obtain hlt' | h0 := hflag harm
      · exact .inl (hlen.trans_lt hlt')
      · exact .inr (by rw [h0, List.drop_nil])

/-! ### What a change of the part keeps -/

/-- The part after a change has a consistent Capture Log and canonical flash cells, wherever it had them before (R89, R94, R95,
R129). -/
structure State.Stores (s t : State) : Prop where
  cap   : s.cap.ok → t.cap.ok
  cells : Memory.wf s.flash.cells = true → Memory.wf t.flash.cells = true

namespace State.Stores

variable {s₀ s : State}

theorem refl (s : State) : s.Stores s := ⟨id, id⟩

/-- A change that concerns neither the Capture Log nor the flash cells. -/
theorem of_eq (h : s₀.Stores s) {t : State} (hc : t.cap = s.cap) (hf : t.flash.cells = s.flash.cells) : s₀.Stores t :=
  ⟨fun h0 => hc ▸ h.cap h0, fun h0 => hf ▸ h.cells h0⟩

/-- The same where the whole flash is as it was. -/
theorem of_frame (h : s₀.Stores s) {t : State} (ht : t.cap = s.cap ∧ t.flash = s.flash) : s₀.Stores t :=
  h.of_eq ht.1 (congrArg Flash.cells ht.2)

theorem setCap (h : s₀.Stores s) {c : Cap} (hc : s.cap.ok → c.ok) : s₀.Stores (s.setCap c) := ⟨hc ∘ h.cap, h.cells⟩

theorem setCells (h : s₀.Stores s) {m : List Host.Cell} (hm : Memory.wf s.flash.cells = true → Memory.wf m = true) :
    s₀.Stores (s.setCells m) := ⟨h.cap, hm ∘ h.cells⟩

theorem post (h : s₀.Stores s) (n : Notice) : s₀.Stores (Machine.post n s) := h.of_eq rfl rfl

/-! ### The Capture Log -/

/-- A log that keeps its records is compared with the mark, which sets the flag right (R95). -/
theorem pendingAfterStore (h : s₀.Stores s) {c : Cap} (hc : s.cap.ok → c.recorded) :
    s₀.Stores (pendingAfterStore (s.setCap c)) := by
  have hno : ({ c with armed := false } : Cap).flagged := fun harm => absurd harm Bool.false_ne_true
  rw [pendingAfterStore_setCap]
  split
  · exact (h.setCap (c := { c with armed := false }) fun hs => Cap.ok_iff.2 ⟨hc hs, hno⟩).post _
  · rename_i hmark
    refine h.setCap fun hs => Cap.ok_iff.2 ⟨hc hs, fun harm => .inl ?_⟩
    exact not_le.1 fun hle => hmark ⟨hle, harm⟩

theorem captureEdge (h : s₀.Stores s) (e : EdgeReport) : s₀.Stores (captureEdge e s) := by
  by_cases hroom : s.cap.log.length < 256
  · rw [captureEdge_of_room hroom]
    refine h.pendingAfterStore fun hs => ?_
    obtain ⟨⟨-, hserials, -, hlost⟩, -⟩ := Cap.ok_iff.1 hs
    exact Cap.store_recorded hroom hserials hlost _ _
  · have hfull : 256 ≤ s.cap.log.length := not_lt.1 hroom
    have hne : s.cap.log ≠ [] := fun h0 => by simp [h0] at hfull
    cases hp : s.cap.policy with
    | keepOldest =>
      rw [captureEdge_of_keepOldest hfull hp]
      refine h.setCap fun hs => ?_
      obtain ⟨hrec, hflag⟩ := Cap.ok_iff.1 hs
      exact Cap.ok_iff.2 ⟨hrec.lose hne, hflag⟩
    | keepNewest =>
      rw [captureEdge_of_keepNewest hfull hp]
      refine h.pendingAfterStore fun hs => ?_
      obtain ⟨⟨hlen, hserials, -, hlost⟩, -⟩ := Cap.ok_iff.1 hs
      have hroom : s.cap.log.tail.length < Config.captureMax := by
        simp only [List.length_tail, Config.captureMax] at hlen ⊢
        omega
      have htail : ({ s.cap with log := s.cap.log.tail } : Cap).consecutive := List.drop_one ▸ hserials.drop 1
      exact (Cap.store_recorded hroom htail hlost _ _).lose (by simp [Cap.store])

/-- A mark put in is compared with the count, which sets the flag right (R96). -/
theorem installCaptureConfig (h : s₀.Stores s) (p : CapPolicy) (m : Nat) : s₀.Stores (installCaptureConfig p m s) := by
  have hset : ∀ a : Bool, (a = true → s.cap.log.length < m) →
      s₀.Stores (s.setCap { s.cap with policy := p, mark := m, armed := a }) := by
    refine fun a ha => h.setCap fun hs => ?_
    obtain ⟨hrec, -⟩ := Cap.ok_iff.1 hs
    exact Cap.ok_iff.2 ⟨hrec, fun harm => .inl (ha harm)⟩
  rw [installCaptureConfig_eq]
  dsimp only
  split
  · exact hset true fun _ => ‹_›
  · split
    · exact (hset false (nomatch ·)).post _
    · exact hset s.cap.armed (absurd · ‹_›)

theorem edgeToLog (h : s₀.Stores s) (e : EdgeReport) : s₀.Stores (edgeToLog e s) := by
  unfold Machine.edgeToLog
  split
  · exact h.captureEdge e
  · exact h

/-! ### The flash -/

theorem finishCommand (h : s₀.Stores s) : s₀.Stores (finishCommand s) := by
  unfold Machine.finishCommand
  split
  · exact h
  · exact h.setCells (FlashCommand.run_wf _)

theorem cutCommand (h : s₀.Stores s) : s₀.Stores (cutCommand s) := by
  unfold Machine.cutCommand
  split
  · exact h
  · exact (h.setCells (FlashCommand.runCut_wf _ _)).of_eq rfl rfl

theorem lossCommand (h : s₀.Stores s) : s₀.Stores (lossCommand s) := by
  unfold Machine.lossCommand Prs.lossCells
  split
  · exact h
  · refine (h.setCells fun hm => ?_).of_eq rfl rfl
    split
    · exact FlashCommand.runCut_wf _ _ hm
    · exact FlashCommand.run_wf _ hm

theorem abandonCommand (h : s₀.Stores s) : s₀.Stores (abandonCommand s) := by
  unfold Machine.abandonCommand
  split
  · exact h
  · split
    · exact (h.setCells (FlashCommand.run_wf _)).of_eq rfl rfl
    · exact h.of_eq rfl rfl

/-- A main reset leaves the Capture Log empty, and the flash as an abandoned command leaves it (R98, R149). -/
theorem mainReset (h : s₀.Stores s) (c : StartCause) : s₀.Stores (mainReset c s) := by
  obtain ⟨-, -, -, hcap, -, -, -, hflash, -⟩ := mainReset_blocks c s
  refine ⟨fun _ => ?_, fun h0 => ?_⟩
  · rw [hcap]
    exact ⟨Nat.zero_le _, rfl, fun _ => rfl, Nat.zero_le _, fun _ => .inr rfl⟩
  · rw [hflash]
    exact h.abandonCommand.cells h0

/-! ### The Trigger Table and the Reference Discipline -/

theorem insertAndPass (h : s₀.Stores s) (e : Entry) : s₀.Stores (insertAndPass e s) := h.of_frame ⟨by simp, by simp⟩

theorem offerEdge (h : s₀.Stores s) (e : EdgeReport) (n : TrigNo) : s₀.Stores (offerEdge e n s) := by
  have hfire : ∀ t, s₀.Stores (fireTrigger n t e s) := by
    intro t
    by_cases hroom : s.sch.entries.length < 128
    · rw [fireTrigger_of_room hroom]
      split <;> exact (h.insertAndPass _).of_eq rfl rfl
    · rw [fireTrigger_of_full (not_lt.1 hroom)]
      exact h.of_eq rfl rfl
  unfold Machine.offerEdge
  split
  · exact h
  · split
    · exact hfire _
    · exact h

theorem handToTriggers (h : s₀.Stores s) (e : EdgeReport) (order : EdgeOrder) : s₀.Stores (handToTriggers e order s) := by
  refine foldl_keeps (f := fun x n => Machine.offerEdge e n (logAt n e order x)) (fun n u hu => ?_) _ s h
  have hlog : s₀.Stores (logAt n e order u) := by
    unfold logAt
    split
    · exact hu.edgeToLog e
    · exact hu
  exact hlog.offerEdge e n

end State.Stores

section
variable (s : State)

@[simp] theorem claimHoldover_cap (c : ValidityCause) : (claimHoldover c s).cap = s.cap := by
  unfold claimHoldover; split <;> simp
@[simp] theorem claimHoldover_flash (c : ValidityCause) : (claimHoldover c s).flash = s.flash := by
  unfold claimHoldover; split <;> simp
@[simp] theorem claimTracking_cap (c : ValidityCause) : (claimTracking c s).cap = s.cap := by
  unfold claimTracking; split <;> simp
@[simp] theorem claimTracking_flash (c : ValidityCause) : (claimTracking c s).flash = s.flash := by
  unfold claimTracking; split <;> simp
@[simp] theorem claimStep_cap (d : Int) (k : Nat) : (claimStep d k s).cap = s.cap := by unfold claimStep; split <;> simp
@[simp] theorem claimStep_flash (d : Int) (k : Nat) : (claimStep d k s).flash = s.flash := by
  unfold claimStep; split <;> simp
@[simp] theorem claimSlew_cap (v : Int) : (claimSlew v s).cap = s.cap := by unfold claimSlew; split <;> rfl
@[simp] theorem claimSlew_flash (v : Int) : (claimSlew v s).flash = s.flash := by unfold claimSlew; split <;> rfl

/-- A sample of the reference reaches the Time Base and its own block alone (R116 to R120). -/
theorem settleSample_frame (offset : Int) (g : W16) (k : Nat) :
    (settleSample offset g k s).1.cap = s.cap ∧ (settleSample offset g k s).1.flash = s.flash := by
  unfold settleSample
  split
  · exact ⟨rfl, rfl⟩
  · split
    · split
      · simp [steerAccepted]
      · unfold steerOutlier
        dsimp only
        split <;> simp
    all_goals exact ⟨rfl, rfl⟩

theorem referenceEdge_frame (e : EdgeReport) (k : Nat) :
    (referenceEdge e k s).cap = s.cap ∧ (referenceEdge e k s).flash = s.flash := by
  unfold referenceEdge
  split
  · exact ⟨rfl, rfl⟩
  · exact settleSample_frame (s.setRds { s.rds with count := 0, state := .active }) _ _ k

theorem referenceTick_frame : (referenceTick s).cap = s.cap ∧ (referenceTick s).flash = s.flash := by
  unfold referenceTick declareLoss
  dsimp only
  split
  · split <;> simp
  · exact ⟨rfl, rfl⟩

theorem installRefConfig_frame (c : RefConfig) :
    (installRefConfig c s).cap = s.cap ∧ (installRefConfig c s).flash = s.flash := by
  rw [installRefConfig_eq]
  split <;> simp

end

/-! ### The lines, the lease and the tick -/

namespace State.Stores

variable {s₀ s : State}

theorem handOn (h : s₀.Stores s) (e : EdgeReport) (order : EdgeOrder) : s₀.Stores (handOn e order s) := by
  have href : ∀ {u : State}, s₀.Stores u → s₀.Stores (referenceEdge e order.stateAfter u) := fun {u} hu =>
    hu.of_frame (referenceEdge_frame u e _)
  have htrig := h.handToTriggers e order
  unfold Machine.handOn
  split
  · dsimp only
    split
    · exact htrig.edgeToLog e
    · exact htrig
  · split
    · exact href (h.edgeToLog e)
    · exact (href h).edgeToLog e
  all_goals exact h.edgeToLog e

theorem acceptRun (h : s₀.Stores s) (n : LineNo) (order : EdgeOrder) : s₀.Stores (acceptRun n order s) := by
  have hset : ∀ l, s₀.Stores (s.setLine n l) := fun _ => h.of_eq rfl rfl
  unfold Machine.acceptRun
  split
  · exact h
  · exact (hset _).handOn _ order

theorem lineTick (h : s₀.Stores s) (n : LineNo) (accept : Option EdgeOrder) : s₀.Stores (lineTick n accept s) := by
  have hsample : ∀ f, s₀.Stores (sampleLine n f s) := fun _ => h.of_eq rfl rfl
  unfold Machine.lineTick
  split
  · split
    · exact hsample _
    · exact (hsample _).acceptRun n _
  · exact h.of_eq rfl rfl

/-- The expiry of the lease reaches the schedule, the lines and the link, but for a RESTART (R153, R154). -/
theorem leaseTick (h : s₀.Stores s) : s₀.Stores (leaseTick s) := by
  have hexp : s₀.Stores (expireLease s) := by
    unfold expireLease applyFallback
    refine post ?_ _
    split <;> exact h.of_eq rfl rfl
  rw [leaseTick_eq]
  split
  · split
    · exact hexp.mainReset _
    · exact hexp
  · split <;> exact h.of_eq rfl rfl

theorem doPart (h : s₀.Stores s) (p : TickPart) : s₀.Stores (doPart p s) := by
  cases p with
  | advance k =>
    obtain ⟨-, -, hcap, -, -, -, -, hflash⟩ := advanceInstant_frame k s
    exact h.of_frame ⟨hcap, hflash⟩
  | line n accept => exact h.lineTick n accept
  | trigger t => exact h.of_eq rfl rfl
  | reference => exact h.of_frame (referenceTick_frame s)
  | lease => exact h.leaseTick

theorem configureLine (h : s₀.Stores s) (n : LineNo) (c : LineConfig) : s₀.Stores (configureLine n c s) := by
  obtain ⟨-, -, hcap, -, hflash, -⟩ := configureLine_frame n c s
  exact h.of_frame ⟨hcap, hflash⟩

theorem installLines (h : s₀.Stores s) (cs : Vector LineConfig 16) : s₀.Stores (installLines cs s) :=
  foldl_keeps (f := fun x (n : LineNo) => Machine.configureLine n cs[n] x) (fun n _ hu => hu.configureLine n _) _ s h

theorem allLinesOff (h : s₀.Stores s) : s₀.Stores (allLinesOff s) := by
  have hoff : s₀.Stores (s.setLin (s.lin.map fun l => l.configured LineConfig.off)) := h.of_eq rfl rfl
  unfold Machine.allLinesOff
  dsimp only
  split
  · rw [refRemoved_eq]
    dsimp only
    split <;> exact hoff.of_eq rfl rfl
  · exact hoff

/-! ### The Profile Store -/

theorem setJob (h : s₀.Stores s) (j : PrsJob) : s₀.Stores (s.setJob j) := h.of_eq rfl rfl

theorem setDesc (h : s₀.Stores s) (slot : Slot) (d : Descriptor) : s₀.Stores (s.setDesc slot d) :=
  h.of_frame ⟨s.setDesc_cap slot d, s.setDesc_flash slot d⟩

theorem endOperation (h : s₀.Stores s) (body : ProfileDone) : s₀.Stores (endOperation body s) := h.of_eq rfl rfl

theorem removeReason (h : s₀.Stores s) (r : HoldReason) : s₀.Stores (removeReason r s) := h.of_frame ⟨by simp, by simp⟩

theorem endLoad (h : s₀.Stores s) (body : ProfileDone) : s₀.Stores (endLoad body s) :=
  ((h.setJob .idle).removeReason .load).post _

theorem saveErased (h : s₀.Stores s) : s₀.Stores (saveErased s) := by
  unfold Machine.saveErased
  split
  · split
    · exact h
    · exact h.finishCommand.setJob _
  · exact h

theorem pageProgrammed (h : s₀.Stores s) (flaws : List (Fin 256 × Byte)) : s₀.Stores (pageProgrammed flaws s) := by
  have hcells : ∀ a, s₀.Stores
      ((Machine.finishCommand s).setCells (applyFlaws a flaws (Machine.finishCommand s).flash.cells)) :=
    fun a => h.finishCommand.setCells (applyFlaws_wf a flaws)
  unfold Machine.pageProgrammed
  split
  · dsimp only
    split <;> exact (hcells _).setJob _
  · exact h

theorem saveVerified (h : s₀.Stores s) : s₀.Stores (saveVerified s) := by
  unfold Machine.saveVerified succeedSave
  split
  · split
    · split
      · exact h
      · exact (h.setDesc _ _).endOperation _
    · exact h.setJob _
  · exact h

theorem recoveryErased (h : s₀.Stores s) : s₀.Stores (recoveryErased s) := by
  unfold Machine.recoveryErased
  split
  · exact h.finishCommand.endOperation _
  · exact h

theorem slotErased (h : s₀.Stores s) : s₀.Stores (slotErased s) := by
  unfold Machine.slotErased
  split
  · exact h.finishCommand.of_eq rfl rfl
  · exact h.finishCommand.endOperation _
  · exact h

theorem flashTimedOut (h : s₀.Stores s) : s₀.Stores (flashTimedOut s) := by
  have hc := h.cutCommand
  unfold Machine.flashTimedOut
  split
  · exact hc.endOperation _
  · split
    · exact hc.setJob _
    · exact hc.endOperation _
  · exact hc.endOperation _
  · exact (hc.setDesc _ _).endOperation _
  · exact hc.endOperation _
  all_goals exact h

theorem scanned (h : s₀.Stores s) : s₀.Stores (scanned s) := by
  unfold Machine.scanned recordSlot
  split
  · exact (((h.setDesc _ _).setDesc _ _).setJob _).post _
  · exact h

theorem startUpValidated (h : s₀.Stores s) : s₀.Stores (startUpValidated s) := by
  have hr : s₀.Stores (recordSlot .b (recordSlot .a s)) := (h.setDesc _ _).setDesc _ _
  unfold Machine.startUpValidated
  dsimp only
  split
  · exact hr.endLoad _
  · split
    · exact hr
    · exact hr.setJob _

theorem requestedValidated (h : s₀.Stores s) : s₀.Stores (requestedValidated s) := by
  have hr : ∀ slot, s₀.Stores (recordSlot slot s) := fun _ => h.setDesc _ _
  unfold Machine.requestedValidated
  dsimp only
  split
  · exact (hr _).setJob _
  · split
    · exact ((hr _).setDesc _ _).setJob _
    · exact ((hr _).setDesc _ _).endLoad _

/-- A stage of a load (R138). -/
theorem runStage (h : s₀.Stores s) (st : LoadStage) : s₀.Stores (runStage st s) := by
  cases st with
  | dropTriggers | dropEntries | installTolerance _ | installTriggers _ => exact h.of_eq rfl rfl
  | linesOff => exact h.allLinesOff
  | installLines cs => exact h.installLines cs
  | installCapture p m => exact h.installCaptureConfig p m
  | installDiscipline c => exact h.of_frame (installRefConfig_frame s c)
  | installLease p f =>
    change s₀.Stores (installLease p f s)
    unfold installLease
    split <;> exact h.of_eq rfl rfl
  | insertEntry e =>
    unfold Machine.runStage
    dsimp only
    split
    · exact h
    · exact h.insertAndPass _

theorem loadStep (h : s₀.Stores s) : s₀.Stores (loadStep s) := by
  unfold Machine.loadStep
  split
  · split
    · exact h.endLoad _
    · exact (h.runStage _).setJob _
  · exact h

/-! ### The requests -/

/-- Every request: CAP-CONFIG and CAP-ACK change the Capture Log, and none changes the flash. -/
theorem answer (h : s₀.Stores s) (r : Request) (k : Nat) : s₀.Stores (answer r k s).state := by
  have hstep : ∀ new c d j, s₀.Stores (stepWith new c d j s) := fun _ _ _ _ => h.of_frame ⟨by simp, by simp⟩
  unfold Machine.answer
  cases r with
  | ident | restart | timeRead | actList _ | schedStatus | capRead | trgStatus | refStatus | profStatus | leaseStatus => exact h
  | schedHold | profLock => exact h.of_eq rfl rfl
  | capAck n => exact h.setCap fun hs => hs.acknowledge n
  | schedRelease => exact h.removeReason _
  | linkStatus clear | lineStatus clear => cases clear <;> exact h.of_eq rfl rfl
  | timeSet _ =>
    dsimp only [answerTimeSet]
    split
    · exact h
    · exact hstep _ _ _ _
  | timeAdjust _ _ =>
    dsimp only [answerTimeAdjust, answerAdjustStep, answerAdjustSlew]
    repeat' split
    any_goals exact h.of_eq rfl rfl
    exact hstep _ _ _ _
  | timeClear =>
    dsimp only [answerTimeClear, Answer.ok]
    split
    · exact h
    · exact h.of_frame ⟨by simp, by simp⟩
  | actAdd _ =>
    dsimp only [answerActAdd]
    repeat' split
    any_goals exact h
    exact h.insertAndPass _
  | lineConfig _ _ =>
    dsimp only [answerLineConfig]
    repeat' split
    any_goals exact h
    exact h.configureLine _ _
  | capConfig _ _ =>
    dsimp only [answerCapConfig]
    repeat' split
    any_goals exact h
    exact h.installCaptureConfig _ _
  | refConfig _ =>
    dsimp only [answerRefConfig]
    repeat' split
    any_goals exact h
    exact h.of_frame (installRefConfig_frame s _)
  | profSave =>
    dsimp only [answerProfSave]
    repeat' split
    any_goals exact h
    exact (h.setDesc _ _).of_eq rfl rfl
  | leaseResume =>
    dsimp only [answerLeaseResume]
    split
    · exact h.of_frame ⟨by simp [Answer.ok], by simp [Answer.ok]⟩
    · exact h
  | trimSet _ | actCancel _ | actPurge _ _ | actGet _ | schedConfig _ | lineDrive _ _ _ | trgSet _ | trgArm _ _
  | trgDisarm _ | trgClear _ | profLoad | profErase | leaseConfig _ _ =>
    dsimp only [answerTrimSet, answerActCancel, answerActPurge, answerActGet, answerSchedConfig, answerLineDrive,
      answerTrgSet, answerTrgArm, answerTrgDisarm, answerTrgClear, answerProfLoad, answerProfErase, answerLeaseConfig]
    repeat' split
    all_goals exact h.of_eq rfl rfl

/-! ### The supply -/

theorem losePower (h : s₀.Stores s) : s₀.Stores (losePower s) := by
  refine h.lossCommand.of_frame ⟨?_, losePower_flash s⟩
  unfold Machine.losePower
  dsimp only
  split <;> rfl

theorem gainPower (h : s₀.Stores s) (held : Bool) (pins : StartPins) : s₀.Stores (gainPower held pins s) := by
  have hpins : s₀.Stores (setPins pins (s.setPower true)) := h.of_eq rfl rfl
  have hcold : s₀.Stores ((setPins pins (s.setPower true)).setTmb Tmb.cold) := hpins.of_eq rfl rfl
  unfold Machine.gainPower coldStart
  dsimp only
  split
  · exact hpins.mainReset _
  · exact hcold.mainReset _

theorem changePin (h : s₀.Stores s) (pin : Pin) (drive : PinDrive) : s₀.Stores (changePin pin drive s) := by
  obtain ⟨-, -, hcap, -, -, -, -, -, hcells, -⟩ := changePin_frame pin drive s
  exact h.of_eq hcap hcells

end State.Stores

/-- Every operation keeps the Capture Log and the flash cells. -/
theorem kept_stores (s₀ : State) : Kept s₀.Stores where
  link _ _ h := h.of_eq rfl rfl
  renew _ h := h.of_eq rfl rfl
  answer r k _ h := h.answer r k
  reset c _ h := h.mainReset c
  pins _ _ h := h.of_eq rfl rfl
  pin pin drive _ h := h.changePin pin drive
  owed _ _ h := h.of_eq rfl rfl
  draw _ h := h.of_eq rfl rfl
  elapsed _ _ h := h.of_eq rfl rfl
  part p _ h := h.doPart p
  accept n order _ h := h.acceptRun n order
  scanned _ h := h.scanned
  startUp _ _ h := h.startUpValidated
  requested _ _ h := h.requestedValidated
  stage _ h := h.loadStep
  erased _ h := h.saveErased
  page flaws _ h := h.pageProgrammed flaws
  verified _ h := h.saveVerified
  timeout _ h := h.flashTimedOut
  recovered _ h := h.recoveryErased
  slot _ h := h.slotErased

/-- Every step keeps the Capture Log and the flash cells. -/
theorem step_stores {s t : State} (h : step s = .next t) : s.Stores t := by
  refine step_keeps (kept_stores s) (fun _ _ hu => hu) (fun _ hu => hu) (fun _ hu => hu.losePower)
    (fun held pins _ hu => hu.gainPower held pins) (fun u _ hu => ?_) (fun _ hu => hu.of_eq rfl rfl)
    (fun pin drive _ hu => hu.changePin pin drive) (fun _ _ hu => hu.of_eq rfl rfl) (.refl s) h
  unfold backupAdvance
  split
  · exact hu.of_eq rfl rfl
  · exact hu

/-- Settles O56: what a step does to the Capture Log goes through its own operations, and what it does to the flash cells through
the flash commands, the flaws of a page program among them. -/
theorem storedDataStaysCanonical : Obligations.StoredDataStaysCanonical :=
  ⟨fun _ _ hs h => (step_stores h).cap hs, fun _ _ hs h => (step_stores h).cells hs⟩

end Sys2Proof.Machine

/-! ## REF-CONFIG -/

namespace Sys2Proof.Machine

/-! ### Its fields (R124 check 2) -/

section
variable {b : Byte}

theorem RefMode.ofCode_eq_none : RefMode.ofCode b = none ↔ 2 < b.toNat := by
  rcases h : b.toNat with _ | _ | _ | n <;> simp [RefMode.ofCode, h]

theorem Edge.ofCode_eq_none : Edge.ofCode b = none ↔ 1 < b.toNat := by
  rcases h : b.toNat with _ | _ | n <;> simp [Edge.ofCode, h]

theorem RefMode.code_of_ofCode {m : RefMode} (h : RefMode.ofCode b = some m) : m.code = b.toNat := by
  unfold RefMode.ofCode at h; split at h <;> cases h <;> exact Eq.symm ‹_›

theorem Edge.code_of_ofCode {e : Edge} (h : Edge.ofCode b = some e) : e.code = b.toNat := by
  unfold Edge.ofCode at h; split at h <;> cases h <;> exact Eq.symm ‹_›

end

section
variable {mode edge limit timeout : Byte} {window : Nat}

/-- The field checks of REF-CONFIG (R124 check 2). -/
theorem readRefConfig_eq_none : readRefConfig mode edge window limit timeout = none ↔
    2 < mode.toNat ∨ 1 < edge.toNat ∨ window < 1 ∨ 512 < window ∨ limit.toNat < 1 ∨ 15 < limit.toNat ∨
    timeout.toNat < 2 ∨ 60 < timeout.toNat := by
  rw [← RefMode.ofCode_eq_none, ← Edge.ofCode_eq_none]
  cases hm : RefMode.ofCode mode with
  | none => simp [readRefConfig, hm]
  | some m =>
    cases he : Edge.ofCode edge with
    | none => simp [readRefConfig, he]
    | some e =>
      simp only [readRefConfig, hm, he, ite_eq_right_iff, reduceCtorEq, imp_false, false_or]
      omega

/-- The configuration that REF-CONFIG asks for, field by field (R124). -/
theorem readRefConfig_fields {c : RefConfig} (h : readRefConfig mode edge window limit timeout = some c) :
    c.mode.code = mode.toNat ∧ c.edge.code = edge.toNat ∧ c.window = window ∧ c.limit = limit.toNat ∧
    c.timeout = timeout.toNat := by
  unfold readRefConfig at h
  split at h
  · rename_i m e hm he
    split at h <;> cases h
    exact ⟨RefMode.code_of_ofCode hm, Edge.code_of_ofCode he, rfl, rfl, rfl⟩
  · cases h

end

/-! ### The request -/

theorem exec_refConfig {h : FrameHead} {s : State} (hq : Quiet h s) (p : RefConfigParams) :
    exec (.refConfig h p) s = .next (served h (.refConfig p) 0 s) :=
  exec_of_params rfl hq (by simp) rfl (fun _ => rfl) (by simp [encodeParams, encodeRefConfig, u16, Config.payloadMax])
    (congrArg (fun x => some (Request.refConfig { p with window := x }))
      (w16At_eq (p := encodeRefConfig p) (i := 2) rfl rfl))

/-- Settles O24: the checks of REF-CONFIG in their order, and the configuration it installs with the state that follows. -/
theorem refConfigures : Obligations.RefConfigures := by
  refine fun h p s hq => ⟨fun hl => ?busy, fun hl hnone => ?badValue, readRefConfig_eq_none,
    fun c hc => readRefConfig_fields hc, fun c hl hc => ?accepted⟩
  case busy =>
    rw [exec_refConfig hq]
    simp only [served, answer, answerRefConfig, begun_loading, hl, if_true]
    rfl
  case badValue =>
    rw [exec_refConfig hq]
    simp only [served, answer, answerRefConfig, begun_loading, hl, Bool.false_eq_true, if_false, hnone]
    rfl
  case accepted =>
    rw [exec_refConfig hq]
    simp only [served, answer, answerRefConfig, begun_loading, hl, Bool.false_eq_true, if_false, hc]
    rw [installRefConfig_eq, installRefConfig_claims, begun_rds, begun_tmb]
    rfl

end Sys2Proof.Machine

/-! ## The samples of the reference -/

namespace Sys2Proof.Machine

/-! ### A sample by its mode and its offset (R117 to R120) -/

section
variable {s : State} {offset : Int} {g : W16} {k : Nat}

/-- A sample of an UNSET Time Base or of another generation is ignored (R117). -/
theorem settleSample_ignored (h : s.tmb.validity = .unset ∨ g ≠ s.tmb.generation) :
    settleSample offset g k s = (s, .ignored) := if_pos h

/-- Below STEER a sample claims nothing (R118). -/
theorem settleSample_of_not_steer (hv : s.tmb.validity ≠ .unset) (hg : g = s.tmb.generation)
    (hm : s.rds.config.mode ≠ .steer) : settleSample offset g k s =
      (s, if offset.natAbs ≤ s.rds.config.window then .accepted else .outlier) := by
  unfold settleSample
  rw [if_neg (not_or.2 ⟨hv, not_not.2 hg⟩)]
  cases hmode : s.rds.config.mode with
  | off => rfl
  | observe => rfl
  | steer => exact absurd hmode hm

/-- In STEER a sample is accepted inside the window and an outlier outside it (R119, R120). -/
theorem settleSample_of_steer (hv : s.tmb.validity ≠ .unset) (hg : g = s.tmb.generation)
    (hm : s.rds.config.mode = .steer) : settleSample offset g k s =
      if offset.natAbs ≤ s.rds.config.window then (steerAccepted offset s, .accepted) else steerOutlier offset k s := by
  unfold settleSample
  rw [if_neg (not_or.2 ⟨hv, not_not.2 hg⟩), hm]

theorem settleSample_of_accepted (hv : s.tmb.validity ≠ .unset) (hg : g = s.tmb.generation)
    (hm : s.rds.config.mode = .steer) (hin : offset.natAbs ≤ s.rds.config.window) :
    settleSample offset g k s = (steerAccepted offset s, .accepted) := by
  rw [settleSample_of_steer hv hg hm, if_pos hin]

theorem settleSample_of_outlier (hv : s.tmb.validity ≠ .unset) (hg : g = s.tmb.generation)
    (hm : s.rds.config.mode = .steer) (hout : s.rds.config.window < offset.natAbs) :
    settleSample offset g k s = steerOutlier offset k s := by
  rw [settleSample_of_steer hv hg hm, if_neg (Nat.not_le.2 hout)]

@[simp] theorem claimTracking_rds (c : ValidityCause) : (claimTracking c s).rds = s.rds := by
  unfold claimTracking; split <;> simp

@[simp] theorem steerAccepted_rds : (steerAccepted offset s).rds = { s.rds with run := 0 } := by
  unfold steerAccepted claimSlew
  split <;> simp

/-- An accepted sample replaces the slew by the correction and sets TRACKING (R119). -/
theorem steerAccepted_tmb (hv : s.tmb.validity ≠ .unset) :
    (steerAccepted offset s).tmb = { s.tmb with slew := correctionOf offset, validity := .tracking } := by
  simp [steerAccepted, claimTracking, claimSlew, hv]

/-- An outlier whose run stays below the limit is counted, and nothing else (R120). -/
theorem steerOutlier_of_lt (h : s.rds.run + 1 < s.rds.config.limit) :
    steerOutlier offset k s = (s.setRds { s.rds with run := s.rds.run + 1 }, .outlier) := if_pos h

/-- An outlier that brings the run to its limit steps the time by the correction and ends the run (R120). -/
theorem steerOutlier_of_le (hv : s.tmb.validity ≠ .unset) (h : s.rds.config.limit ≤ s.rds.run + 1) :
    (steerOutlier offset k s).2 = .stepped ∧ (steerOutlier offset k s).1.rds = { s.rds with run := 0 } ∧
    (steerOutlier offset k s).1.tmb =
      s.tmb.stepped (stepTarget s.now (correctionOf offset)) (some ⟨.tracking, .refStep⟩) := by
  unfold steerOutlier
  dsimp only
  rw [if_neg (Nat.not_lt.2 h)]
  simp [claimStep, hv, State.now]

/-- Of its own block a sample changes the outlier run alone (R117 to R120). -/
theorem settleSample_rds (offset : Int) (g : W16) (k : Nat) (s : State) :
    ∃ n, (settleSample offset g k s).1.rds = { s.rds with run := n } := by
  by_cases hi : s.tmb.validity = .unset ∨ g ≠ s.tmb.generation
  · exact ⟨s.rds.run, by rw [settleSample_ignored hi]⟩
  · obtain ⟨hv, hg⟩ := not_or.1 hi
    by_cases hm : s.rds.config.mode = .steer
    · rw [settleSample_of_steer hv (not_not.1 hg) hm]
      split
      · exact ⟨0, steerAccepted_rds⟩
      · by_cases hrun : s.rds.run + 1 < s.rds.config.limit
        · exact ⟨s.rds.run + 1, by rw [steerOutlier_of_lt hrun]; rfl⟩
        · obtain ⟨-, hrds, -⟩ := steerOutlier_of_le (offset := offset) (k := k) hv (Nat.not_lt.1 hrun)
          exact ⟨0, hrds⟩
    · exact ⟨s.rds.run, by rw [settleSample_of_not_steer hv (not_not.1 hg) hm]⟩

end

/-! ### The edge (R115, R121) -/

/-- The state that a sample finds: the edge count restarted and the reference ACTIVE (R115). -/
def State.refSeen (s : State) : State := s.setRds { s.rds with count := 0, state := .active }

section
variable {e : EdgeReport} {s : State}

theorem referenceEdge_of_not_sampled (k : Nat) (h : s.rds.state = .idle ∨ e.edge ≠ s.rds.config.edge) :
    referenceEdge e k s = s := if_pos h

/-- An edge in the configured direction is settled as a sample and recorded (R115, R121). -/
theorem referenceEdge_of_sampled (k : Nat) (hi : s.rds.state ≠ .idle) (he : e.edge = s.rds.config.edge) :
    let r := settleSample (offsetOf e.onset.tick) e.generation k s.refSeen
    referenceEdge e k s = recordSample ⟨e.onset.sec, offsetOf e.onset.tick, r.2⟩ r.1 :=
  if_neg (not_or.2 ⟨hi, not_not.2 he⟩)

@[simp] theorem recordSample_tmb (x : Sample) : (recordSample x s).tmb = s.tmb := rfl
@[simp] theorem recordSample_rds_run (x : Sample) : (recordSample x s).rds.run = s.rds.run := rfl

theorem recordSample_last (x : Sample) : (recordSample x s).rds.history.getLast? = some x := List.getLast?_concat

end

/-- Settles O25: the sample of an edge by generation, mode, window and outlier run; any other edge changes nothing. -/
theorem referenceEdgesAreSampled : Obligations.ReferenceEdgesAreSampled := by
  refine fun e k s _ => ⟨referenceEdge_of_not_sampled k, fun hi he => ?_⟩
  intro t offset
  have ht : t = recordSample ⟨e.onset.sec, offset, (settleSample offset e.generation k s.refSeen).2⟩
      (settleSample offset e.generation k s.refSeen).1 := referenceEdge_of_sampled k hi he
  generalize hr : settleSample offset e.generation k s.refSeen = r at ht
  obtain ⟨n, hrds⟩ : ∃ n, r.1.rds = { s.refSeen.rds with run := n } := hr ▸ settleSample_rds _ _ _ _
  have hlast : t.rds.history.getLast? = some ⟨e.onset.sec, offset, r.2⟩ := ht ▸ recordSample_last _
  clear_value t offset
  subst ht
  have hconfig : r.1.rds.config = s.rds.config := by rw [hrds]; rfl
  have hline : r.1.rds.line = s.rds.line := by rw [hrds]; rfl
  refine ⟨congrArg Rds.count hrds, congrArg Rds.state hrds, hconfig, hline, r.2, hlast,
    fun hignored => ?ignored, fun hv hg hm => ?observed, fun hv hg hm hin => ?accepted, fun hv hg hm hout hlt => ?outlier,
    fun hv hg hm hout hle => ?stepped⟩
  case ignored =>
    obtain rfl := hr.symm.trans (settleSample_ignored (s := s.refSeen) hignored)
    exact ⟨rfl, rfl, rfl, rfl, rfl, rfl⟩
  case observed =>
    obtain rfl := hr.symm.trans (settleSample_of_not_steer (s := s.refSeen) hv hg hm)
    exact ⟨rfl, rfl, rfl, rfl⟩
  case accepted =>
    obtain rfl := hr.symm.trans (settleSample_of_accepted (s := s.refSeen) hv hg hm hin)
    rw [recordSample_rds_run, recordSample_tmb, steerAccepted_rds]
    exact ⟨rfl, rfl, steerAccepted_tmb (s := s.refSeen) hv⟩
  case outlier =>
    obtain rfl := hr.symm.trans ((settleSample_of_outlier (s := s.refSeen) hv hg hm hout).trans (steerOutlier_of_lt hlt))
    exact ⟨rfl, rfl, rfl, rfl, rfl⟩
  case stepped =>
    obtain ⟨hstepped, hrun, htmb⟩ := steerOutlier_of_le (s := s.refSeen) (offset := offset) (k := k) hv hle
    obtain rfl := hr.symm.trans (settleSample_of_outlier (s := s.refSeen) hv hg hm hout)
    rw [recordSample_rds_run, recordSample_tmb, hrun, htmb]
    exact ⟨hstepped, rfl, rfl, rfl, rfl, rfl⟩

end Sys2Proof.Machine

/-! ## Stored entries, judged -/

namespace Sys2Proof.Machine

section
variable {e : StoredEntry} {v : Validity} {now : Nat}

/-- A due still ahead, and any due while the part knows no time, stands as it was stored (R139). -/
theorem StoredEntry.judge_of_ahead (h : v = .unset ∨ now < e.due.ticks) : e.judge v now = some (e.entry e.due e.remaining) :=
  if_pos h

/-- A single occurrence in the past is dropped (R139). -/
theorem StoredEntry.judge_of_single (hv : v ≠ .unset) (hd : e.due.ticks ≤ now) (hp : e.period = none) : e.judge v now = none := by
  unfold StoredEntry.judge
  rw [if_neg (not_or.2 ⟨hv, not_lt.2 hd⟩), hp]

/-- A repeat whose due has come moves on by the periods that have passed (R139). -/
theorem StoredEntry.judge_of_repeat {p : Nat} (hv : v ≠ .unset) (hd : e.due.ticks ≤ now) (hp : e.period = some p) :
    let k := periodsDue (now - e.due.ticks) p
    e.judge v now =
      if Instant.top.ticks < e.due.ticks + k * p ∨ (e.remaining ≠ 0 ∧ e.remaining ≤ k) then none
      else some (e.entry (Instant.ofTicks (e.due.ticks + k * p)) (e.remaining - k)) := by
  intro k
  unfold StoredEntry.judge
  rw [if_neg (not_or.2 ⟨hv, not_lt.2 hd⟩), hp]
  change (if Instant.top.ticks < e.due.ticks + k * p then none else _) = _
  by_cases htop : Instant.top.ticks < e.due.ticks + k * p
  · rw [if_pos htop, if_pos (.inl htop)]
  · rw [if_neg htop]
    by_cases hzero : e.remaining = 0
    · rw [if_pos hzero, if_neg (by simp [htop, hzero]), hzero, Nat.zero_sub]
    · by_cases hk : k < e.remaining
      · rw [if_neg hzero, if_pos hk, if_neg (by omega)]
      · rw [if_neg hzero, if_neg hk, if_pos (.inr ⟨hzero, not_lt.1 hk⟩)]

end

/-- Settles O48: the number of periods passed is the one that brings the first due later than the instant. -/
theorem storedEntriesAreJudged : Obligations.StoredEntriesAreJudged := by
  refine fun e v now => ⟨StoredEntry.judge_of_ahead, StoredEntry.judge_of_single, fun p hv hd hp hpos => ?_⟩
  have hlast := (lt_periodsDue_iff hpos (now - e.due.ticks) (periodsDue (now - e.due.ticks) p - 1)).1 (by simp [periodsDue])
  have hnext := (lt_periodsDue_iff hpos (now - e.due.ticks) (periodsDue (now - e.due.ticks) p)).not.1 (lt_irrefl _)
  exact ⟨periodsDue (now - e.due.ticks) p, Nat.succ_pos _, by omega, by omega, StoredEntry.judge_of_repeat hv hd hp⟩

end Sys2Proof.Machine

/-! ## The validation at start-up -/

namespace Sys2Proof.Machine

/-- A valid slot has a right header that gives its generation (R133). -/
theorem validateSlot_head {m : List Host.Cell} {slot : Slot} {v : Nat × Profile} (h : validateSlot m slot = some v) :
    headerRight (slotHead m slot) = true ∧ u32At (slotHead m slot) 8 = v.1 := by
  unfold validateSlot at h
  dsimp only at h
  split at h
  · rename_i hhead
    split at h
    · obtain ⟨p, -, rfl⟩ := Option.map_eq_some_iff.1 h
      simp only [headerInRange, Bool.and_eq_true] at hhead
      obtain ⟨⟨⟨hright, -⟩, -⟩, -⟩ := hhead
      exact ⟨hright, rfl⟩
    · cases h
  · cases h

/-- Two valid slots are ranked by their generations (R134). -/
theorem rankedFirst_of_valid {m : List Host.Cell} {a b : Nat × Profile} (ha : validateSlot m .a = some a)
    (hb : validateSlot m .b = some b) : rankedFirst m = if a.1 < b.1 then .b else .a := by
  obtain ⟨hra, hga⟩ := validateSlot_head ha
  obtain ⟨hrb, hgb⟩ := validateSlot_head hb
  unfold rankedFirst
  simp only [hra, hrb, hga, hgb, Bool.not_true, Bool.false_or, Bool.true_and, decide_eq_true_eq]

/-- The current slot is ranked first, unless the slot ranked first is invalid (R134, R135). -/
theorem rankedFirst_eq_iff_of_current {m : List Host.Cell} {slot : Slot} {v : Nat × Profile} (hv : validateSlot m slot = some v)
    (hother : ∀ w, validateSlot m slot.other = some w → w.1 < v.1 ∨ (w.1 = v.1 ∧ slot = .a)) :
    slot = rankedFirst m ↔ validateSlot m (rankedFirst m) ≠ none := by
  constructor
  · rintro rfl; rw [hv]; exact Option.some_ne_none v
  · intro hfirst
    cases hw : validateSlot m slot.other with
    | none =>
      have hne : rankedFirst m ≠ slot.other := fun e => hfirst (e ▸ hw)
      revert hne
      cases slot <;> cases rankedFirst m <;> simp [Slot.other]
    | some w =>
      have hlt := hother w hw
      cases slot with
      | a => rw [rankedFirst_of_valid hv hw, if_neg (by omega)]
      | b => rw [rankedFirst_of_valid hw hv, if_pos (by simpa using hlt)]

/-- The current slot of two descriptors is the valid one with the higher generation, slot A where they are equal (R134). -/
theorem currentSlot_of_highest {d : Slot → Descriptor} {slot : Slot} (hv : (d slot).valid = true)
    (hother : (d slot.other).valid = true →
      (d slot.other).generation < (d slot).generation ∨ ((d slot.other).generation = (d slot).generation ∧ slot = .a)) :
    currentSlot (d .a) (d .b) = some slot := by
  cases slot with
  | a =>
    have hnot : ((d .b).valid && decide ((d .a).generation < (d .b).generation)) = false := by
      rw [Bool.and_eq_false_imp]
      intro hb
      have := hother hb
      simp only [Slot.other] at this
      simp only [decide_eq_false_iff_not]
      omega
    simp [currentSlot, hv, hnot]
  | b =>
    cases ha : (d .a).valid with
    | false => simp [currentSlot, ha, hv]
    | true =>
      have hlt : (d .a).generation < (d .b).generation := by simpa [Slot.other] using hother ha
      simp [currentSlot, ha, hv, hlt]

section
variable {s : State}

theorem loadValidated_startUp (hj : s.prs.job = .loading true .validating) : loadValidated 0 s = startUpValidated s := by
  unfold loadValidated; rw [hj]; rfl

theorem describe_eq (x : Option (Nat × Profile)) : describe x = match x with
    | none => ⟨false, 0⟩
    | some v => ⟨true, v.1⟩ := by cases x <;> rfl

/-- Both slots recorded (R134). -/
theorem recordSlot_both (s : State) : recordSlot .b (recordSlot .a s) = s.setPrs { s.prs with
    descA := describe (validateSlot s.flash.cells .a), descB := describe (validateSlot s.flash.cells .b) } := rfl

theorem startUpValidated_of_none (ha : (describe (validateSlot s.flash.cells .a)).valid = false)
    (hb : (describe (validateSlot s.flash.cells .b)).valid = false) :
    startUpValidated s = endLoad (.plain .load .noneValid) (recordSlot .b (recordSlot .a s)) := by
  have hcur : currentSlot (describe (validateSlot s.flash.cells .a)) (describe (validateSlot s.flash.cells .b)) = none := by
    simp [currentSlot, ha, hb]
  unfold startUpValidated
  rw [recordSlot_both]
  dsimp only [State.setPrs_prs]
  rw [hcur]

theorem startUpValidated_of_current {slot : Slot} {v : Nat × Profile}
    (hcur : currentSlot (describe (validateSlot s.flash.cells .a)) (describe (validateSlot s.flash.cells .b)) = some slot)
    (hv : validateSlot s.flash.cells slot = some v) : startUpValidated s =
      beginApply true slot v (slot != rankedFirst s.flash.cells) (recordSlot .b (recordSlot .a s)) := by
  unfold startUpValidated
  rw [recordSlot_both]
  dsimp only [State.setPrs_prs]
  rw [hcur]
  dsimp only
  rw [hv]

end

/-- Settles O46: both slots are recorded, and the current one is applied. -/
theorem startUpReadsTheSlots : Obligations.StartUpReadsTheSlots := by
  refine fun s hp => ⟨fun hj => ?scan, fun hj => ?load⟩
  case scan =>
    change whenPowered scanned s = _
    rw [whenPowered, if_pos hp, scanned, hj]
    dsimp only
    rw [recordSlot_both, describe_eq, describe_eq]
    rfl
  case load =>
    intro a b u
    rw [exec_loadSlotValidated hp, loadValidated_startUp hj]
    refine ⟨fun ha hb => ?_, fun slot v hv hother => ?_⟩
    · rw [startUpValidated_of_none ha hb]; rfl
    · have hcur : currentSlot a b = some slot :=
        currentSlot_of_highest (d := fun x => describe (validateSlot s.flash.cells x)) (by simp [hv, describe]) fun ho => by
          cases hw : validateSlot s.flash.cells slot.other with
          | none => simp [hw, describe, Descriptor.invalid] at ho
          | some w => simpa [hv, describe] using hother w hw
      have hfb : (slot != rankedFirst s.flash.cells) =
          decide (validateSlot s.flash.cells (rankedFirst s.flash.cells) = none) := by
        have := rankedFirst_eq_iff_of_current hv hother
        rw [Bool.eq_iff_iff]
        simp [this]
      rw [startUpValidated_of_current hcur hv, hfb]
      rfl

end Sys2Proof.Machine

/-! ## A flash command that runs past its limit -/

namespace Sys2Proof.Machine

/-- A flash command leaves this byte alone: it lies outside the slot that an erase clears, or outside the bytes that a program
sends (R129). -/
def FlashCommand.spares (x : Nat) : FlashCommand → Prop
  | .erase slot => slot.holds x = false
  | .program a bs => ¬(a ≤ x ∧ x < a + bs.length)

/-- A command cut short leaves the bytes outside its reach (R129, R144). -/
theorem FlashCommand.read_runCut {x : Nat} {c : FlashCommand} (hc : c.spares x) (draw : Nat) {m : List Host.Cell}
    (h : Memory.wf m = true) : Memory.read (c.runCut draw m) x = Memory.read m x := by
  cases c with
  | erase slot =>
    obtain hr | ⟨hx, -⟩ := Memory.read_eraseCut draw slot h x
    · exact hr
    · rw [FlashCommand.spares, hx] at hc; cases hc
  | program a bs =>
    obtain hr | ⟨hx, b, hb, -⟩ := Memory.read_writeCut draw bs a h x
    · exact hr
    · obtain ⟨hlt, -⟩ := List.getElem?_eq_some_iff.1 hb
      exact absurd ⟨hx, by omega⟩ hc

theorem cutCommand_of_some {s : State} {c : FlashCommand} (h : s.prs.command = some c) :
    cutCommand s = (s.setCells (c.runCut s.draws s.flash.cells)).setDraws (s.draws + 1) := by
  rw [cutCommand, h]; rfl

/-- Settles O50: the cells are those of the command cut short, and the operation goes on or ends as its stage says. -/
theorem timeoutsEndTheOperation : Obligations.TimeoutsEndTheOperation := by
  intro s hp hne
  obtain ⟨c, hc⟩ := Option.ne_none_iff_exists'.1 hne
  refine ⟨c.runCut s.draws s.flash.cells, fun x herase hprogram hwf => ?_, ?_⟩
  · refine FlashCommand.read_runCut ?_ s.draws hwf
    cases c with
    | erase slot => exact herase slot hc
    | program a bs => exact hprogram a bs hc
  · intro u fin
    have hcut : cutCommand s = u := cutCommand_of_some hc
    change whenPowered flashTimedOut s = _
    rw [whenPowered, if_pos hp, flashTimedOut, hcut]
    cases hj : s.prs.job with
    | saveProgram page rest => dsimp only; split <;> rfl
    | _ => rfl

end Sys2Proof.Machine

/-! ## The requests of the Profile Store -/

namespace Sys2Proof.Machine

/-! ### The snapshot (R142) -/

/-- What a save stores of a trigger: HOLDOFF as ARMED, SPENT as DISARMED with arm count 0 (R111). -/
theorem Trigger.stored_eq (x : Trigger) : x.stored =
    { defn := x.defn, armCount := if x.state = .spent then 0 else x.armCount,
      armed := decide (x.state = .armed ∨ x.state = .holdoff) } := by
  unfold Trigger.stored
  cases x.state <;> rfl

/-- The snapshot line by line and trigger by trigger. -/
theorem snapshot_lines (s : State) (n : LineNo) : (snapshot s).lines[n] = (s.lin[n]).config := by
  simp [snapshot]

theorem snapshot_triggers (s : State) (n : TrigNo) : (snapshot s).triggers[n] = match s.trg[n] with
    | none => none
    | some x => some { defn := x.defn, armCount := if x.state = .spent then 0 else x.armCount,
                       armed := decide (x.state = .armed ∨ x.state = .holdoff) } := by
  have hmap : (snapshot s).triggers[n] = (s.trg[n]).map Trigger.stored := by simp [snapshot]
  rw [hmap]
  cases s.trg[n] with
  | none => rfl
  | some x => exact congrArg some x.stored_eq

/-- The renewal of the lease changes nothing that a snapshot holds (R142, R152). -/
@[simp] theorem snapshot_begun (h : FrameHead) (s : State) : snapshot (begun h s) = snapshot s := by
  have hrenew : s.lsm.renew.period = s.lsm.period ∧ s.lsm.renew.fallback = s.lsm.fallback := by
    unfold Lsm.renew; split <;> exact ⟨rfl, rfl⟩
  obtain ⟨hperiod, hfallback⟩ := hrenew
  simp only [snapshot, begun_sch, begun_cap, begun_rds, begun_lsm, begun_lin, begun_trg, hperiod, hfallback]

/-! ### The requests -/

/-- The refusals that PROF-SAVE, PROF-LOAD and PROF-ERASE share (R136, R141, R145). -/
theorem Prs.refusal_eq_some {p : Prs} {st : Status} : p.refusal = some st ↔
    (p.present = false ∧ st = .noFlash) ∨ (p.present = true ∧ p.locked = true ∧ st = .locked) ∨
    (p.present = true ∧ p.locked = false ∧ p.job ≠ .idle ∧ st = .busy) := by
  unfold Prs.refusal
  cases p.present <;> cases p.locked <;> simp [eq_comm]

theorem Prs.refusal_eq_none {p : Prs} (hpresent : p.present = true) (hlocked : p.locked = false) (hjob : p.job = .idle) :
    p.refusal = none := by
  simp [Prs.refusal, hpresent, hlocked, hjob]

/-- The target of a save is the slot that is not current (R141). -/
theorem Prs.saveTarget_eq (p : Prs) : p.saveTarget = match currentSlot p.descA p.descB with
    | some .a => Slot.b
    | some .b => Slot.a
    | none => Slot.a := by
  unfold Prs.saveTarget
  obtain - | - | - := currentSlot p.descA p.descB <;> rfl

/-- What an accepted PROF-SAVE begins (R141, R142). -/
theorem beginSave_eq (s : State) :
    let gen := currentGeneration s.prs.descA s.prs.descB
    let slot := s.prs.saveTarget
    beginSave s = s.setPrs { s.prs with
      job := .saveErase
      target := some slot
      image := some ⟨gen + 1, slotImage (gen + 1) (snapshot s)⟩
      descA := if slot = .a then ⟨false, 0⟩ else s.prs.descA
      descB := if slot = .b then ⟨false, 0⟩ else s.prs.descB } := by
  unfold beginSave
  dsimp only
  cases s.prs.saveTarget <;> rfl

section
variable {h : FrameHead} {s : State}

theorem exec_profSave (hq : Quiet h s) : exec (.profSave h) s = .next (served h .profSave 0 s) :=
  exec_of_params rfl hq (by simp) rfl (fun _ => rfl) (by simp [encodeParams]) rfl

theorem exec_profLoad (hq : Quiet h s) : exec (.profLoad h) s = .next (served h .profLoad 0 s) :=
  exec_of_params rfl hq (by simp) rfl (fun _ => rfl) (by simp [encodeParams]) rfl

theorem exec_profErase (hq : Quiet h s) : exec (.profErase h) s = .next (served h .profErase 0 s) :=
  exec_of_params rfl hq (by simp) rfl (fun _ => rfl) (by simp [encodeParams]) rfl

theorem exec_profLock (hq : Quiet h s) : exec (.profLock h) s = .next (served h .profLock 0 s) :=
  exec_of_params rfl hq (by simp) rfl (fun _ => rfl) (by simp [encodeParams]) rfl

theorem served_profSave_of_free (hr : s.prs.refusal = none) : served h .profSave 0 s =
    if currentGeneration s.prs.descA s.prs.descB = 0xFFFFFFFE then ended h 0x60 .state [] (begun h s)
    else ended h 0x60 .accepted [] (beginSave (begun h s)) := by
  unfold served
  simp only [answer, answerProfSave, begun_prs, hr, requestCode]
  split_ifs <;> rfl

theorem served_profLoad_of_free (hr : s.prs.refusal = none) : served h .profLoad 0 s =
    if s.sch.hold.host = true then
      ended h 0x61 .accepted [] (addReason .load ((begun h s).setJob (.loading false .validating)))
    else ended h 0x61 .state [] (begun h s) := by
  unfold served
  simp only [answer, answerProfLoad, begun_prs, begun_sch, hr, requestCode]
  split_ifs <;> rfl

theorem served_profErase_of_free (hr : s.prs.refusal = none) : served h .profErase 0 s =
    ended h 0x62 .accepted [] ((begun h s).setPrs { s.prs with
      job := .eraseA s.prs.descB, target := some .a, descA := ⟨false, 0⟩, descB := ⟨false, 0⟩ }) := by
  unfold served
  simp only [answer, answerProfErase, begun_prs, hr, requestCode]
  rfl

end

/-- Settles O26: what a snapshot gathers, the refusals in their order, and what each accepted request begins. -/
theorem profileRequests : Obligations.ProfileRequests := by
  refine ⟨fun s => ⟨rfl, rfl, rfl, rfl, rfl, rfl, snapshot_lines s, snapshot_triggers s, rfl⟩,
    fun h s hq => ⟨fun st href => ?refused, fun hpresent hlocked hjob => ⟨?save, ?load, ?erase⟩, ?lock⟩⟩
  case refused =>
    have hr := Prs.refusal_eq_some.2 href
    rw [exec_profSave hq, exec_profLoad hq, exec_profErase hq]
    simp only [served, answer, answerProfSave, answerProfLoad, answerProfErase, begun_prs, hr]
    exact ⟨rfl, rfl, rfl⟩
  case save =>
    intro gen slot
    have hslot : slot = s.prs.saveTarget := s.prs.saveTarget_eq.symm
    rw [exec_profSave hq, served_profSave_of_free (Prs.refusal_eq_none hpresent hlocked hjob), beginSave_eq, hslot]
    simp only [begun_prs, snapshot_begun]
    rfl
  case load =>
    rw [exec_profLoad hq, served_profLoad_of_free (Prs.refusal_eq_none hpresent hlocked hjob)]
    simp only [addReason, State.setJob, begun_prs, State.setPrs_sch, begun_sch]
    rfl
  case erase =>
    rw [exec_profErase hq, served_profErase_of_free (Prs.refusal_eq_none hpresent hlocked hjob)]
  case lock =>
    rw [exec_profLock hq]
    simp only [served, answer, answerProfLock, begun_prs, requestCode]
    rfl

end Sys2Proof.Machine

/-! ## The stages of a save and of an erase -/

namespace Sys2Proof.Machine

/-! ### The flash command in hand (R143, R145) -/

section
variable {s : State}

theorem finishCommand_of_some {c : FlashCommand} (h : s.prs.command = some c) :
    finishCommand s = s.setCells (c.run s.flash.cells) := by
  rw [finishCommand, h]

variable {slot : Slot}

theorem command_of_saveErase (hj : s.prs.job = .saveErase) (ht : s.prs.target = some slot) :
    s.prs.command = some (.erase slot) := by
  simp [Prs.command, hj, ht]

theorem command_of_saveRecover {cause : FailCause} (hj : s.prs.job = .saveRecover cause) (ht : s.prs.target = some slot) :
    s.prs.command = some (.erase slot) := by
  simp [Prs.command, hj, ht]

theorem command_of_eraseA {d : Descriptor} (hj : s.prs.job = .eraseA d) : s.prs.command = some (.erase .a) := by
  simp [Prs.command, hj]

theorem command_of_eraseB (hj : s.prs.job = .eraseB) : s.prs.command = some (.erase .b) := by
  simp [Prs.command, hj]

theorem targetBase_of_target (ht : s.prs.target = some slot) : s.prs.targetBase = slot.base := by
  simp [Prs.targetBase, ht]

theorem imageBytes_of_image {img : SlotImage} (hi : s.prs.image = some img) : s.prs.imageBytes = img.bytes := by
  simp [Prs.imageBytes, hi]

theorem command_of_saveProgram {page : Nat} {rest : List Nat} {img : SlotImage} (hj : s.prs.job = .saveProgram page rest)
    (ht : s.prs.target = some slot) (hi : s.prs.image = some img) :
    s.prs.command = some (.program (slot.base + 256 * page) ((img.bytes.drop (256 * page)).take 256)) := by
  simp [Prs.command, hj, targetBase_of_target ht, imageBytes_of_image hi, imagePage]

/-- The read-back compare of a save (R143). -/
theorem verified_iff {img : SlotImage} (ht : s.prs.target = some slot) (hi : s.prs.image = some img) :
    s.prs.verified s.flash.cells = true ↔ Memory.readAll s.flash.cells slot.base img.bytes.length = img.bytes := by
  simp [Prs.verified, targetBase_of_target ht, imageBytes_of_image hi, SpiCommand.cells]

/-! ### The ends of the stages (R143 to R145) -/

theorem saveErased_of_command (hj : s.prs.job = .saveErase) (ht : s.prs.target = some slot) :
    ∃ page rest, page :: rest = programOrder s.prs.imageBytes ∧
      saveErased s = (s.setCells (Memory.erase s.flash.cells slot)).setJob (.saveProgram page rest) := by
  obtain ⟨page, rest, h⟩ := List.exists_cons_of_ne_nil
    (List.append_ne_nil_of_right_ne_nil (List.range ((s.prs.imageBytes.length + 255) / 256)).tail (List.cons_ne_nil 0 []))
  refine ⟨page, rest, h.symm, ?_⟩
  unfold saveErased programOrder
  rw [hj, h, finishCommand_of_some (command_of_saveErase hj ht)]
  rfl

/-- What follows a page: the next one, or the verify (R143). -/
def PrsJob.afterPage : List Nat → PrsJob
  | [] => .saveVerify
  | q :: qs => .saveProgram q qs

theorem pageProgrammed_of_command {page : Nat} {rest : List Nat} {img : SlotImage} (flaws : List (Fin 256 × Byte))
    (hj : s.prs.job = .saveProgram page rest) (ht : s.prs.target = some slot) (hi : s.prs.image = some img) :
    pageProgrammed flaws s = (s.setCells (applyFlaws (slot.base + 256 * page) flaws
      (Memory.writeAll s.flash.cells (slot.base + 256 * page) ((img.bytes.drop (256 * page)).take 256)))).setJob (.afterPage rest) := by
  unfold pageProgrammed
  rw [hj, finishCommand_of_some (command_of_saveProgram hj ht hi), targetBase_of_target ht]
  cases rest <;> rfl

/-- The end of a save that verified (R143). -/
theorem succeedSave_eq {img : SlotImage} (ht : s.prs.target = some slot) (hi : s.prs.image = some img) :
    succeedSave s = post (.profileDone
      { op := .save, outcome := if slot = .a then .savedA else .savedB, fallback := false, cause := none,
        slot := some slot, generation := img.generation, inserted := 0, dropped := 0 })
      (s.setPrs { s.prs with
        job := .idle, target := none, image := none
        descA := if slot = .a then ⟨true, img.generation⟩ else s.prs.descA
        descB := if slot = .b then ⟨true, img.generation⟩ else s.prs.descB }) := by
  unfold succeedSave
  rw [ht, hi]
  cases slot <;> rfl

theorem saveVerified_of_match (hj : s.prs.job = .saveVerify) (hv : s.prs.verified s.flash.cells = true) :
    saveVerified s = succeedSave s := by
  unfold saveVerified
  rw [hj]
  exact if_pos hv

theorem saveVerified_of_mismatch (hj : s.prs.job = .saveVerify) (hv : s.prs.verified s.flash.cells ≠ true) :
    saveVerified s = s.setJob (.saveRecover .verify) := by
  unfold saveVerified
  rw [hj]
  exact if_neg hv

theorem recoveryErased_of_command {cause : FailCause} (hj : s.prs.job = .saveRecover cause) (ht : s.prs.target = some slot) :
    recoveryErased s = post (.profileDone (.failed .save cause (some slot)))
      ((s.setCells (Memory.erase s.flash.cells slot)).setPrs { s.prs with job := .idle, target := none, image := none }) := by
  unfold recoveryErased
  rw [hj, finishCommand_of_some (command_of_saveRecover hj ht), ← ht]
  rfl

theorem slotErased_of_eraseA {d : Descriptor} (hj : s.prs.job = .eraseA d) :
    slotErased s = (s.setCells (Memory.erase s.flash.cells .a)).setPrs { s.prs with job := .eraseB, target := some .b } := by
  unfold slotErased
  rw [hj, finishCommand_of_some (command_of_eraseA hj)]
  rfl

theorem slotErased_of_eraseB (hj : s.prs.job = .eraseB) :
    slotErased s = post (.profileDone (.plain .erase .erased))
      ((s.setCells (Memory.erase s.flash.cells .b)).setPrs { s.prs with job := .idle, target := none, image := none }) := by
  unfold slotErased
  rw [hj, finishCommand_of_some (command_of_eraseB hj)]
  rfl

/-! ### The SPI port (R129) -/

/-- The byte of a slot's addresses that tells the two slots apart (R129, R131). -/
theorem addressBytes_page (slot : Slot) {page : Nat} (hp : page ≤ 15) :
    addressBytes (slot.base + 256 * page) = [0x00, (if slot = .a then 0x00 else 0x10) + BitVec.ofNat 8 page, 0x00] := by
  have hbase : slot.base = 4096 * (if slot = .a then 0 else 1) := by cases slot <;> rfl
  have hhigh : (slot.base + 256 * page) / 65536 = 0 := by
    rw [hbase]; split <;> omega
  have hmid : (slot.base + 256 * page) / 256 = slot.base / 256 + page := Nat.add_mul_div_left _ _ (by norm_num)
  have hlow : BitVec.ofNat 8 (slot.base + 256 * page) = 0 := by
    apply BitVec.eq_of_toNat_eq
    rw [BitVec.toNat_ofNat, hbase]
    change _ = 0
    split <;> omega
  rw [addressBytes, hhigh, hmid, hlow]
  cases slot <;> simp [Slot.base, slotSize, BitVec.ofNat_add]

theorem addressBytes_base (slot : Slot) : addressBytes slot.base = [0x00, if slot = .a then 0x00 else 0x10, 0x00] := by
  cases slot <;> rfl

/-- An erase or a program in hand goes over the port (R129, R143, R145). -/
theorem port_of_command {c : FlashCommand} (h : s.prs.command = some c) : s.port = c.transfers := by
  unfold State.port
  cases hj : s.prs.job with
  | idle | scanning | saveVerify => simp [Prs.command, hj] at h
  | loading su work => simp [Prs.command, hj] at h
  | saveErase | saveProgram _ _ | saveRecover _ | eraseA _ | eraseB => simp [h]

theorem port_of_erase (h : s.prs.command = some (.erase slot)) :
    s.port.map SpiCommand.bytes = [[0x06], [0x20, 0x00, if slot = .a then 0x00 else 0x10, 0x00], [0x05]] := by
  rw [port_of_command h]
  simp only [FlashCommand.transfers, writeCycle, List.map_cons, List.map_nil, SpiCommand.bytes, addressBytes_base]

theorem port_of_program {page : Nat} {bs : List Byte} (h : s.prs.command = some (.program (slot.base + 256 * page) bs))
    (hp : page ≤ 15) : s.port.map SpiCommand.bytes =
      [[0x06], [0x02, 0x00, (if slot = .a then 0x00 else 0x10) + BitVec.ofNat 8 page, 0x00] ++ bs, [0x05]] := by
  rw [port_of_command h]
  simp only [FlashCommand.transfers, writeCycle, List.map_cons, List.map_nil, SpiCommand.bytes, addressBytes_page slot hp]
  rfl

theorem port_of_verify (hj : s.prs.job = .saveVerify) (ht : s.prs.target = some slot) :
    s.port.map SpiCommand.bytes = [[0x03, 0x00, if slot = .a then 0x00 else 0x10, 0x00]] := by
  unfold State.port
  rw [hj]
  simp only [targetBase_of_target ht, List.map_cons, List.map_nil, SpiCommand.bytes, addressBytes_base]

theorem port_of_idle (hj : s.prs.job = .idle) : s.port = [] := by
  unfold State.port
  rw [hj]

/-- The flash is busy in every stage that erases or programs (R129). -/
theorem flashBusy_eq (s : State) : s.flashBusy = match s.prs.job with
    | .idle | .scanning | .loading .. | .saveVerify => false
    | .saveErase | .saveRecover _ => s.prs.target.isSome
    | .saveProgram .. | .eraseA _ | .eraseB => true := by
  unfold State.flashBusy Prs.command
  cases s.prs.job <;> simp

end

/-- Settles O49: each stage by the flash command in hand, each command by its bytes, and the pins bit by bit. -/
theorem savesAndErasesGoThroughTheirStages : Obligations.SavesAndErasesGoThroughTheirStages := by
  intro s hp
  have on : ∀ f : State → State, whenPowered f s = .next (f s) := fun f => by rw [whenPowered, if_pos hp]
  refine ⟨fun slot img hj ht hi _ => ?erase, fun slot img page rest flaws hj ht hi => ?page,
    fun slot img hj ht hi => ⟨fun hm => ?verified, fun hm => ?mismatch⟩, fun slot cause hj ht => ?recovery,
    fun d hj => ?eraseA, fun hj => ?eraseB, ?port, ?pins⟩
  case erase =>
    obtain ⟨page, rest, horder, hs⟩ := saveErased_of_command hj ht
    rw [imageBytes_of_image hi] at horder
    exact ⟨page, rest, horder, (on saveErased).trans (congrArg _ hs)⟩
  case page => exact (on (pageProgrammed flaws)).trans (congrArg _ (pageProgrammed_of_command flaws hj ht hi))
  case verified =>
    exact (on saveVerified).trans
      (congrArg _ ((saveVerified_of_match hj ((verified_iff ht hi).2 hm)).trans (succeedSave_eq ht hi)))
  case mismatch =>
    exact (on saveVerified).trans (congrArg _ (saveVerified_of_mismatch hj fun hv => hm ((verified_iff ht hi).1 hv)))
  case recovery => exact (on recoveryErased).trans (congrArg _ (recoveryErased_of_command hj ht))
  case eraseA => exact (on slotErased).trans (congrArg _ (slotErased_of_eraseA hj))
  case eraseB => exact (on slotErased).trans (congrArg _ (slotErased_of_eraseB hj))
  case port =>
    refine ⟨fun slot hj ht => ?_, fun d hj => port_of_erase (command_of_eraseA hj),
      fun hj => port_of_erase (command_of_eraseB hj),
      fun slot img page rest hj hpage ht hi => port_of_program (command_of_saveProgram hj ht hi) hpage,
      fun slot hj ht => port_of_verify hj ht, port_of_idle⟩
    obtain hj | ⟨cause, hj⟩ := hj
    · exact port_of_erase (command_of_saveErase hj ht)
    · exact port_of_erase (command_of_saveRecover hj ht)
  case pins =>
    refine ⟨rfl, rfl, s.flashStatus, (statusByte_busy _ _).trans (flashBusy_eq s), fun c => ?_⟩
    have hanswer : (c.answer s.flash s.flashStatus) = match c with
        | .readId => [s.flash.maker]
        | .read a n => Memory.readAll s.flash.cells a n
        | .readStatus => [s.flashStatus]
        | .writeEnable | .sectorErase _ | .pageProgram .. => [] := by cases c <;> rfl
    intro answer out back
    have hspi : s.spi c = c.pins answer := congrArg c.pins hanswer
    rw [hspi]
    refine ⟨?_, risingEdges_pins c answer⟩
    simp only [SpiCommand.pins, List.append_assoc, List.cons_append]
    rfl

end Sys2Proof.Machine

/-! ## What changes the flash -/

namespace Sys2Proof.Machine

/-! ### Bytes outside the reach of a flash command (R129) -/

/-- A flash command leaves the bytes outside its reach (R129). -/
theorem FlashCommand.read_run {x : Nat} {c : FlashCommand} (hc : c.spares x) {m : List Host.Cell} (h : Memory.wf m = true) :
    Memory.read (c.run m) x = Memory.read m x := by
  cases c with
  | erase slot =>
    have hx : slot.holds x = false := hc
    rw [FlashCommand.run_erase, Memory.read_erase slot h, hx]
    rfl
  | program a bs =>
    rw [FlashCommand.run_program, Memory.read_writeAll bs a h]
    split
    · have hx : ¬(a ≤ x ∧ x < a + bs.length) := hc
      rw [List.getD_eq_default _ _ (by omega)]
    · rfl

/-- The flaws of a page lie in the page (log entry 16). -/
theorem read_applyFlaws {base x : Nat} (hx : ¬(base ≤ x ∧ x < base + 256)) (fs : List (Fin 256 × Byte)) {m : List Host.Cell}
    (h : Memory.wf m = true) : Memory.read (applyFlaws base fs m) x = Memory.read m x := by
  induction fs generalizing m with
  | nil => rfl
  | cons f fs ih =>
    obtain ⟨i, b⟩ := f
    have hi : ¬base + i.val = x := by have := i.isLt; omega
    rw [applyFlaws, ih (Memory.write_wf _ _ h), Memory.read_write _ _ _ h, if_neg hi]

/-- A page of a slot lies in the slot (R131, R143). -/
theorem page_spares {slot : Slot} {page x : Nat} (hpage : page ≤ 15) (hx : slot.holds x = false) :
    ¬(slot.base + 256 * page ≤ x ∧ x < slot.base + 256 * page + 256) := by
  simp only [Slot.holds, inSector, Bool.and_eq_false_imp, decide_eq_true_eq, decide_eq_false_iff_not, slotSize] at hx
  omega

/-! ### Operations that leave the flash and the inbound queue -/

/-- From `s` to `t` the flash and the frames that wait are as they were. -/
structure State.LeavesFlash (s t : State) : Prop where
  flash   : t.flash = s.flash
  inbound : t.lnk.inbound = s.lnk.inbound

namespace State.LeavesFlash

variable {s₀ s : State}

theorem refl (s : State) : s.LeavesFlash s := ⟨rfl, rfl⟩

theorem of_eq (h : s₀.LeavesFlash s) {t : State} (hf : t.flash = s.flash) (hi : t.lnk.inbound = s.lnk.inbound) :
    s₀.LeavesFlash t := ⟨hf.trans h.flash, hi.trans h.inbound⟩

theorem post (h : s₀.LeavesFlash s) (n : Notice) : s₀.LeavesFlash (Machine.post n s) := h.of_eq rfl (by simp)

theorem removeReason (h : s₀.LeavesFlash s) (r : HoldReason) : s₀.LeavesFlash (removeReason r s) := h.of_eq (by simp) (by simp)

theorem insertAndPass (h : s₀.LeavesFlash s) (e : Entry) : s₀.LeavesFlash (insertAndPass e s) := h.of_eq (by simp) (by simp)

theorem setValidity (h : s₀.LeavesFlash s) (v : Validity) (c : ValidityCause) (k : Nat) :
    s₀.LeavesFlash (setValidity v c k s) := h.of_eq (by simp) (by simp)

theorem stepWith (h : s₀.LeavesFlash s) (new : Instant) (c : StepCause) (d : Option ValidityChange) (k : Nat) :
    s₀.LeavesFlash (stepWith new c d k s) := h.of_eq (by simp) (by simp)

/-! ### The Capture Log and the Trigger Table -/

theorem edgeToLog (h : s₀.LeavesFlash s) (e : EdgeReport) : s₀.LeavesFlash (edgeToLog e s) := by
  have hpending : ∀ c, s₀.LeavesFlash (pendingAfterStore (s.setCap c)) := by
    intro c
    have hc : s₀.LeavesFlash (s.setCap c) := h.of_eq rfl rfl
    unfold pendingAfterStore
    split
    · exact post (hc.of_eq (t := (s.setCap c).setCap { c with armed := false }) rfl rfl) _
    · exact hc
  unfold Machine.edgeToLog captureEdge
  dsimp only
  split
  · split
    · exact hpending _
    · split
      · exact h.of_eq rfl rfl
      · exact hpending _
  · exact h

theorem installCaptureConfig (h : s₀.LeavesFlash s) (p : CapPolicy) (m : Nat) :
    s₀.LeavesFlash (installCaptureConfig p m s) := by
  have hc : ∀ c, s₀.LeavesFlash (s.setCap c) := fun _ => h.of_eq rfl rfl
  rw [installCaptureConfig_eq]
  dsimp only
  split
  · exact hc _
  · split
    · exact (hc _).post _
    · exact hc _

theorem offerEdge (h : s₀.LeavesFlash s) (e : EdgeReport) (n : TrigNo) : s₀.LeavesFlash (offerEdge e n s) := by
  have hfire : ∀ x, s₀.LeavesFlash (fireTrigger n x e s) := by
    intro x
    by_cases hroom : s.sch.entries.length < 128
    · have hset : s₀.LeavesFlash ((Machine.insertAndPass (x.entry n e) s).setTrigger n (some x.afterFiring)) :=
        (h.insertAndPass _).of_eq rfl rfl
      rw [fireTrigger_of_room hroom]
      split
      · exact hset.post _
      · exact hset
    · rw [fireTrigger_of_full (not_lt.1 hroom)]
      exact post (h.of_eq (t := s.setTrigger n (some x.afterOverrun)) rfl rfl) _
  unfold Machine.offerEdge
  split
  · exact h
  · split
    · exact hfire _
    · exact h

theorem handToTriggers (h : s₀.LeavesFlash s) (e : EdgeReport) (order : EdgeOrder) :
    s₀.LeavesFlash (handToTriggers e order s) := by
  refine foldl_keeps (f := fun x n => Machine.offerEdge e n (logAt n e order x)) (fun n u hu => offerEdge ?_ e n) _ s h
  unfold logAt
  split
  · exact hu.edgeToLog e
  · exact hu

/-! ### The Reference Discipline -/

theorem claimHoldover (h : s₀.LeavesFlash s) (c : ValidityCause) : s₀.LeavesFlash (claimHoldover c s) := by
  unfold Machine.claimHoldover
  split
  · exact h.setValidity _ _ _
  · exact h

theorem setRds (h : s₀.LeavesFlash s) (r : Rds) : s₀.LeavesFlash (s.setRds r) := h.of_eq rfl rfl

theorem settleSample (h : s₀.LeavesFlash s) (offset : Int) (g : W16) (k : Nat) :
    s₀.LeavesFlash (settleSample offset g k s).1 := by
  have haccepted : s₀.LeavesFlash (steerAccepted offset s) := by
    have hslew : s₀.LeavesFlash (claimSlew (correctionOf offset) (s.setRds { s.rds with run := 0 })) := by
      unfold claimSlew
      split <;> exact h.of_eq rfl rfl
    unfold steerAccepted claimTracking
    split
    · exact hslew
    · exact hslew.setValidity _ _ _
  have houtlier : s₀.LeavesFlash (steerOutlier offset k s).1 := by
    have hstep : ∀ r, s₀.LeavesFlash (claimStep (correctionOf offset) k (s.setRds r)) := by
      intro r
      unfold claimStep
      split
      · exact h.setRds r
      · exact (h.setRds r).stepWith _ _ _ _
    unfold steerOutlier
    dsimp only
    split
    · exact h.setRds _
    · exact (hstep _).setRds _
  unfold Machine.settleSample
  split
  · exact h
  · split
    · split
      · exact haccepted
      · exact houtlier
    all_goals exact h

theorem referenceEdge (h : s₀.LeavesFlash s) (e : EdgeReport) (k : Nat) : s₀.LeavesFlash (referenceEdge e k s) := by
  unfold Machine.referenceEdge
  split
  · exact h
  · exact ((h.setRds _).settleSample _ _ _).setRds _

theorem referenceTick (h : s₀.LeavesFlash s) : s₀.LeavesFlash (referenceTick s) := by
  have hloss : ∀ r, s₀.LeavesFlash (declareLoss (s.setRds r)) := by
    intro r
    unfold declareLoss
    refine post ?_ _
    split
    · exact ((h.setRds r).setRds _).claimHoldover _
    · exact (h.setRds r).setRds _
  unfold Machine.referenceTick
  dsimp only
  split
  · exact hloss _
  · exact h.setRds _

theorem installRefConfig (h : s₀.LeavesFlash s) (c : RefConfig) : s₀.LeavesFlash (installRefConfig c s) := by
  rw [installRefConfig_eq]
  refine setRds ?_ _
  split
  · exact h.claimHoldover _
  · exact h

theorem refRemoved (h : s₀.LeavesFlash s) : s₀.LeavesFlash (refRemoved s) := by
  unfold Machine.refRemoved
  dsimp only
  split
  · exact (h.setRds _).claimHoldover _
  · exact h.setRds _

/-! ### The Line Unit -/

theorem setLine (h : s₀.LeavesFlash s) (n : LineNo) (l : Line) : s₀.LeavesFlash (s.setLine n l) := h.of_eq rfl rfl

theorem handOn (h : s₀.LeavesFlash s) (e : EdgeReport) (order : EdgeOrder) : s₀.LeavesFlash (handOn e order s) := by
  have htrig := h.handToTriggers e order
  unfold Machine.handOn
  split
  · dsimp only
    split
    · exact htrig.edgeToLog e
    · exact htrig
  · split
    · exact (h.edgeToLog e).referenceEdge e _
    · exact (h.referenceEdge e _).edgeToLog e
  all_goals exact h.edgeToLog e

theorem acceptRun (h : s₀.LeavesFlash s) (n : LineNo) (order : EdgeOrder) : s₀.LeavesFlash (acceptRun n order s) := by
  unfold Machine.acceptRun
  split
  · exact h
  · exact (h.setLine _ _).handOn _ order

theorem lineTick (h : s₀.LeavesFlash s) (n : LineNo) (accept : Option EdgeOrder) : s₀.LeavesFlash (lineTick n accept s) := by
  have hsample : ∀ f, s₀.LeavesFlash (sampleLine n f s) := fun _ => h.of_eq rfl rfl
  unfold Machine.lineTick
  split
  · split
    · exact hsample _
    · exact (hsample _).acceptRun n _
  · exact h.setLine _ _

theorem configureLine (h : s₀.LeavesFlash s) (n : LineNo) (c : LineConfig) : s₀.LeavesFlash (configureLine n c s) := by
  have hgiven : s₀.LeavesFlash (s.givenUp n c) := by
    unfold State.givenUp
    split
    · exact h.refRemoved
    · exact h
  obtain ⟨-, hlnk, -, -, hflash, -⟩ := configureLine_frame n c s
  exact ⟨hflash.trans h.flash, (congrArg Lnk.inbound hlnk).trans hgiven.inbound⟩

theorem installLines (h : s₀.LeavesFlash s) (cs : Vector LineConfig 16) : s₀.LeavesFlash (installLines cs s) :=
  foldl_keeps (f := fun x (n : LineNo) => Machine.configureLine n cs[n] x) (fun n _ hu => hu.configureLine n _) _ s h

theorem allLinesOff (h : s₀.LeavesFlash s) : s₀.LeavesFlash (allLinesOff s) := by
  have hoff : s₀.LeavesFlash (s.setLin (s.lin.map fun l => l.configured LineConfig.off)) := h.of_eq rfl rfl
  rw [allLinesOff_eq]
  dsimp only
  split
  · exact hoff.refRemoved
  · exact hoff

theorem expireLease (h : s₀.LeavesFlash s) : s₀.LeavesFlash (expireLease s) := by
  unfold Machine.expireLease applyFallback
  refine post ?_ _
  split <;> exact h.of_eq rfl rfl

/-! ### The Profile Store -/

theorem setPrs (h : s₀.LeavesFlash s) (p : Prs) : s₀.LeavesFlash (s.setPrs p) := h.of_eq rfl rfl

theorem setDesc (h : s₀.LeavesFlash s) (slot : Slot) (d : Descriptor) : s₀.LeavesFlash (s.setDesc slot d) :=
  h.of_eq (by simp) (by simp)

theorem endOperation (h : s₀.LeavesFlash s) (body : ProfileDone) : s₀.LeavesFlash (endOperation body s) :=
  (h.setPrs _).post _

theorem endLoad (h : s₀.LeavesFlash s) (body : ProfileDone) : s₀.LeavesFlash (endLoad body s) :=
  ((h.setPrs _).removeReason _).post _

theorem runStage (h : s₀.LeavesFlash s) (st : LoadStage) : s₀.LeavesFlash (runStage st s) := by
  cases st with
  | dropTriggers | dropEntries | installTolerance _ | installTriggers _ => exact h.of_eq rfl rfl
  | linesOff => exact h.allLinesOff
  | installLines cs => exact h.installLines cs
  | installCapture p m => exact h.installCaptureConfig p m
  | installDiscipline c => exact h.installRefConfig c
  | installLease p f =>
    change s₀.LeavesFlash (Machine.installLease p f s)
    rw [installLease_eq]
    exact h.of_eq rfl rfl
  | insertEntry e =>
    obtain ⟨hnone, hsome⟩ := runStage_insertEntry s e
    cases hj : e.judge s.tmb.validity s.now with
    | none => rw [hnone hj]; exact h
    | some x => rw [hsome x hj]; exact h.insertAndPass x

theorem loadSteps (k : Nat) (h : s₀.LeavesFlash s) : s₀.LeavesFlash (loadSteps k s) := by
  induction k generalizing s with
  | zero => exact h
  | succ k ih =>
    refine ih ?_
    unfold loadStep
    split
    · split
      · exact h.endLoad _
      · exact (h.runStage _).setPrs _
    · exact h

theorem startUpValidated (h : s₀.LeavesFlash s) : s₀.LeavesFlash (startUpValidated s) := by
  have hboth : s₀.LeavesFlash (recordSlot .b (recordSlot .a s)) := (h.setDesc _ _).setDesc _ _
  unfold Machine.startUpValidated
  dsimp only
  split
  · exact hboth.endLoad _
  · split
    · exact hboth
    · exact hboth.setPrs _

theorem requestedValidated (h : s₀.LeavesFlash s) : s₀.LeavesFlash (requestedValidated s) := by
  have hone : ∀ slot, s₀.LeavesFlash (recordSlot slot s) := fun _ => h.setDesc _ _
  unfold Machine.requestedValidated
  dsimp only
  split
  · exact (hone _).setPrs _
  · split
    · exact ((hone _).setDesc _ _).setPrs _
    · exact ((hone _).setDesc _ _).endLoad _

theorem loadValidated (k : Nat) (h : s₀.LeavesFlash s) : s₀.LeavesFlash (loadValidated k s) := by
  unfold Machine.loadValidated
  split
  · exact loadSteps k h.startUpValidated
  · exact loadSteps k h.requestedValidated
  · exact loadSteps k h
  · exact h

theorem scanned (h : s₀.LeavesFlash s) : s₀.LeavesFlash (scanned s) := by
  unfold Machine.scanned
  split
  · exact (((h.setDesc _ _).setDesc _ _).setPrs _).post _
  · exact h

theorem saveVerified (h : s₀.LeavesFlash s) : s₀.LeavesFlash (saveVerified s) := by
  unfold Machine.saveVerified succeedSave
  split
  · split
    · split
      · exact h
      · exact (h.setDesc _ _).endOperation _
    · exact h.setPrs _
  · exact h

/-! ### The requests -/

/-- No request changes the flash: an accepted PROF-SAVE or PROF-ERASE begins the operation, whose commands come later (R141,
R145). -/
theorem answer (h : s₀.LeavesFlash s) (r : Request) (k : Nat) : s₀.LeavesFlash (answer r k s).state := by
  unfold Machine.answer
  cases r with
  | ident | restart | timeRead | actList _ | schedStatus | capRead | trgStatus | refStatus | profStatus | leaseStatus => exact h
  | schedHold | profLock | capAck _ => exact h.of_eq rfl rfl
  | schedRelease => exact h.removeReason _
  | linkStatus clear | lineStatus clear => cases clear <;> exact h.of_eq rfl rfl
  | timeSet _ =>
    dsimp only [answerTimeSet]
    split
    · exact h
    · exact h.stepWith _ _ _ _
  | timeAdjust _ _ =>
    dsimp only [answerTimeAdjust, answerAdjustStep, answerAdjustSlew]
    repeat' split
    any_goals exact h.of_eq rfl rfl
    exact h.stepWith _ _ _ _
  | timeClear =>
    dsimp only [answerTimeClear]
    split
    · exact h
    · exact h.of_eq (by simp [Answer.ok]) (by simp [Answer.ok])
  | actAdd _ =>
    dsimp only [answerActAdd]
    repeat' split
    any_goals exact h
    exact h.insertAndPass _
  | lineConfig _ _ =>
    dsimp only [answerLineConfig]
    repeat' split
    any_goals exact h
    exact h.configureLine _ _
  | capConfig _ _ =>
    dsimp only [answerCapConfig]
    repeat' split
    any_goals exact h
    exact h.installCaptureConfig _ _
  | refConfig _ =>
    dsimp only [answerRefConfig]
    repeat' split
    any_goals exact h
    exact h.installRefConfig _
  | profSave =>
    dsimp only [answerProfSave]
    repeat' split
    any_goals exact h
    exact (h.setDesc _ _).setPrs _
  | leaseResume =>
    dsimp only [answerLeaseResume]
    split
    · exact h.of_eq (by simp [Answer.ok]) (by simp [Answer.ok])
    · exact h
  | trimSet _ | actCancel _ | actPurge _ _ | actGet _ | schedConfig _ | lineDrive _ _ _ | trgSet _ | trgArm _ _
  | trgDisarm _ | trgClear _ | profLoad | profErase | leaseConfig _ _ =>
    dsimp only [answerTrimSet, answerActCancel, answerActPurge, answerActGet, answerSchedConfig, answerLineDrive,
      answerTrgSet, answerTrgArm, answerTrgDisarm, answerTrgClear, answerProfLoad, answerProfErase, answerLeaseConfig]
    repeat' split
    all_goals exact h.of_eq rfl rfl

end State.LeavesFlash

end Sys2Proof.Machine

/-! ## A byte outside the slot in hand -/

namespace Sys2Proof.Machine

/-- A main reset leaves no frame waiting (R176). -/
theorem mainReset_inbound (cause : StartCause) (s : State) : (mainReset cause s).lnk.inbound = [] := by
  rw [mainReset_lnk]
  split <;> simp [resetStarted_lnk, Lnk.fresh]

/-- The end of a transmission adds no frame to the queue (R172). -/
theorem transmitted_inbound {s : State} (h : s.lnk.inbound = []) : (transmitted s).lnk.inbound = [] := by
  unfold transmitted
  split
  · dsimp only
    split
    · exact mainReset_inbound _ _
    · simpa using h
  · simpa using h
  · simpa using h

/-- The byte at `x` reads as `v`, and the flash command in hand leaves it alone. -/
structure State.Guards (x : Nat) (v : Byte) (s : State) : Prop where
  wf      : Memory.wf s.flash.cells = true
  byte    : Memory.read s.flash.cells x = v
  command : ∀ c, s.prs.command = some c → c.spares x

namespace State.Guards

variable {x : Nat} {v : Byte} {s : State}

theorem of_eq (h : s.Guards x v) {t : State} (hp : t.prs = s.prs) (hf : t.flash.cells = s.flash.cells) : t.Guards x v :=
  ⟨hf ▸ h.wf, hf ▸ h.byte, hp ▸ h.command⟩

/-- An operation of another block that leaves the flash. -/
theorem of_leaves (h : s.Guards x v) {t : State} (hp : t.prs = s.prs) (hf : s.LeavesFlash t) : t.Guards x v :=
  h.of_eq hp (congrArg Flash.cells hf.flash)

/-! ### The command in hand, carried out or cut short (R129, R144, R149) -/

theorem finishCommand (h : s.Guards x v) : Memory.wf (finishCommand s).flash.cells = true ∧
    Memory.read (finishCommand s).flash.cells x = v := by
  unfold Machine.finishCommand
  split
  · exact ⟨h.wf, h.byte⟩
  · rename_i c hc
    exact ⟨c.run_wf h.wf, (FlashCommand.read_run (h.command c hc) h.wf).trans h.byte⟩

theorem cutCommand (h : s.Guards x v) : Memory.read (cutCommand s).flash.cells x = v := by
  unfold Machine.cutCommand
  split
  · exact h.byte
  · rename_i c hc
    exact (FlashCommand.read_runCut (h.command c hc) s.draws h.wf).trans h.byte

theorem lossCommand (h : s.Guards x v) : Memory.read (lossCommand s).flash.cells x = v := by
  cases hc : s.prs.command with
  | none => rw [lossCommand_of_none hc]; exact h.byte
  | some c =>
    rw [lossCommand_cells hc]
    obtain ⟨-, e⟩ | e := s.prs.lossCells_cases s.draws s.flash.cells c <;> rw [e]
    · exact (FlashCommand.read_runCut (h.command c hc) s.draws h.wf).trans h.byte
    · exact (FlashCommand.read_run (h.command c hc) h.wf).trans h.byte

/-- After a main reset no flash command is in hand (R128, R149). -/
theorem mainReset (h : s.Guards x v) (cause : StartCause) : (mainReset cause s).Guards x v := by
  obtain ⟨hnone, hsome⟩ := mainReset_cells cause s
  have hjob : (Machine.mainReset cause s).prs.command = none := by
    rw [mainReset_prs]
    cases s.flash.answers <;> cases s.straps.autoload <;> rfl
  have hidle : ∀ c, (Machine.mainReset cause s).prs.command = some c → c.spares x := fun c hc => by
    rw [hjob] at hc; cases hc
  cases hc : s.prs.command with
  | none => exact ⟨by rw [hnone hc]; exact h.wf, by rw [hnone hc]; exact h.byte, hidle⟩
  | some c =>
    obtain e | e := hsome c hc
    · exact ⟨by rw [e]; exact h.wf, by rw [e]; exact h.byte, hidle⟩
    · exact ⟨by rw [e]; exact c.run_wf h.wf, by rw [e]; exact (FlashCommand.read_run (h.command c hc) h.wf).trans h.byte, hidle⟩

/-! ### The tick -/

theorem acceptRun (h : s.Guards x v) (n : LineNo) (order : EdgeOrder) : (acceptRun n order s).Guards x v := by
  refine h.of_leaves ((steady_prs s.prs).acceptRun (fun _ _ _ u hu => ?_) order rfl) ((LeavesFlash.refl s).acceptRun n order)
  unfold claimSlew
  split <;> exact hu

theorem doPart (h : s.Guards x v) (p : TickPart) : (doPart p s).Guards x v := by
  cases p with
  | advance k =>
    obtain ⟨-, -, -, -, -, hprs, -, hflash⟩ := advanceInstant_frame k s
    exact h.of_eq hprs (congrArg Flash.cells hflash)
  | line n accept =>
    have hsample : ∀ f u, u.Guards x v → (sampleLine n f u).Guards x v := fun f u hu => hu.of_eq rfl rfl
    change (lineTick n accept s).Guards x v
    unfold lineTick
    split
    · split
      · exact hsample _ _ h
      · exact (hsample _ _ h).acceptRun n _
    · exact h.of_eq rfl rfl
  | trigger t => exact h.of_eq rfl rfl
  | reference => exact h.of_leaves ((steady_prs s.prs).referenceTick rfl) (LeavesFlash.refl s).referenceTick
  | lease =>
    have hexp : (expireLease s).Guards x v := by
      refine h.of_leaves ?_ (LeavesFlash.refl s).expireLease
      unfold expireLease applyFallback
      split <;> rfl
    change (leaseTick s).Guards x v
    rw [leaseTick_eq]
    split
    · split
      · exact hexp.mainReset _
      · exact hexp
    · split
      · exact h.of_eq rfl rfl
      · exact h

theorem setOwed (h : s.Guards x v) (us : List TickUnit) : (s.setOwed us).Guards x v := h.of_eq rfl rfl

theorem setTmb (h : s.Guards x v) (t : Tmb) : (s.setTmb t).Guards x v := h.of_eq rfl rfl

theorem deal (h : s.Guards x v) (p : TickPart) : (deal p s).Guards x v := by
  unfold Machine.deal
  split
  · exact (h.setOwed _).doPart p
  · exact h

theorem dealIf (h : s.Guards x v) (due : Bool) (p : TickPart) : (dealIf due p s).Guards x v := by
  unfold Machine.dealIf
  split
  · exact h.deal p
  · exact h

theorem nominalTick (h : s.Guards x v) (now : List TickPart) : (nominalTick now s).Guards x v := by
  have hall : ∀ (ps : List TickPart) (u : State), u.Guards x v → (dealAll ps u).Guards x v :=
    foldl_keeps (f := fun u p => Machine.deal p u) fun p _ hu => hu.deal p
  have hruns : (acceptRuns s).Guards x v :=
    foldl_keeps (f := fun u n => Machine.acceptRun n ⟨0, 0⟩ u) (fun n _ hu => hu.acceptRun n _) _ s h
  have hsettled : (settle s).Guards x v := hall _ _ hruns
  exact hall _ _ ((hsettled.setTmb _).setOwed _)

/-! ### The reception of frames, with none taken (R163, R165) -/

theorem setLnk (h : s.Guards x v) (k : Lnk) : (s.setLnk k).Guards x v := h.of_eq rfl rfl

theorem goodFrame (h : s.Guards x v) (kind seq : Byte) (p : List Byte) : (goodFrame kind seq p s).Guards x v := by
  have hr : (renewLease s).Guards x v := h.of_eq rfl rfl
  unfold Machine.goodFrame offerFrame creditFrame linkReset
  dsimp only
  split
  · split <;> exact hr.setLnk _
  · split <;> exact hr.setLnk _
  · split
    · split <;> exact hr.setLnk _
    · exact hr.setLnk _
  · split
    · split
      · exact hr.mainReset _
      · exact hr.setLnk _
    · exact hr.setLnk _
  · exact hr.setLnk _

theorem receiverStep (h : s.Guards x v) (b : Byte) : (receiverStep b s).Guards x v := by
  unfold Machine.receiverStep afterSeq completeFrame
  dsimp only
  split
  · split
    · exact h.setLnk _
    · exact h
  · split
    · exact h.setLnk _
    · split
      · exact (h.setLnk _).setLnk _
      · exact h.setLnk _
  · exact h.setLnk _
  · split
    · exact h.setLnk _
    · split
      · exact (h.setLnk _).goodFrame _ _ _
      · exact (h.setLnk _).setLnk _

theorem scan (h : s.Guards x v) (k : Nat) : (scan k [] s).Guards x v := by
  induction k generalizing s with
  | zero => exact h
  | succ k ih =>
    unfold Machine.scan
    split
    · exact h
    · exact ih ((h.setLnk _).receiverStep _)

theorem receiveBytes (h : s.Guards x v) (bs : List Byte) : (receiveBytes bs s).Guards x v :=
  foldl_keeps (f := fun u b => Machine.receiveByte b [] u) (fun _ _ hu => (hu.setLnk _).scan _) bs s h

theorem transmitted (h : s.Guards x v) : (transmitted s).Guards x v := by
  unfold Machine.transmitted
  split
  · dsimp only
    split
    · exact (h.setLnk _).mainReset _
    · exact (h.setLnk _).setLnk _
  · exact h.setLnk _
  · exact h.setLnk _

/-! ### One frame taken (R167 to R170) -/

/-- What a frame that is dealt with leaves, with no other frame waiting: the byte, and no frame to take. -/
theorem dealFrame (h : s.Guards x v) (hq : s.lnk.inbound = []) (f : HostFrame) (k : Nat) :
    Memory.read (dealFrame f k s).flash.cells x = v ∧ (dealFrame f k s).lnk.inbound = [] := by
  have hlink : ∀ n, n.inbound = [] → Memory.read (s.setLnk n).flash.cells x = v ∧ (s.setLnk n).lnk.inbound = [] :=
    fun n hn => ⟨h.byte, hn⟩
  have hreset : ∀ u : State, u.Guards x v →
      Memory.read (Machine.mainReset .request u).flash.cells x = v ∧ (Machine.mainReset .request u).lnk.inbound = [] :=
    fun u hu => ⟨(hu.mainReset _).byte, mainReset_inbound _ u⟩
  have hanswer : ∀ (r : Request) (u : State), s.LeavesFlash u →
      Memory.read (Machine.answer r k u).state.flash.cells x = v ∧ (Machine.answer r k u).state.lnk.inbound = [] := by
    intro r u hu
    obtain ⟨hf, hi⟩ := hu.answer r k
    exact ⟨by rw [hf]; exact h.byte, hi.trans hq⟩
  have hseq : s.LeavesFlash (advanceSeq f.head s) := ⟨rfl, rfl⟩
  have hheld : s.LeavesFlash (holdForReply (advanceSeq f.head s)) := by
    unfold holdForReply
    split
    · exact hseq.of_eq rfl rfl
    · exact hseq
  have hposted : ∀ st (u : State), Memory.read u.flash.cells x = v ∧ u.lnk.inbound = [] →
      Memory.read (settlePosted f st u).flash.cells x = v ∧ (settlePosted f st u).lnk.inbound = [] := by
    intro st u hu
    unfold settlePosted
    dsimp only
    split
    · exact hu
    · exact ⟨hu.1, by simpa using hu.2⟩
  have hreply : ∀ r (u : State), Memory.read u.flash.cells x = v ∧ u.lnk.inbound = [] →
      Memory.read (settleRequest r u).flash.cells x = v ∧ (settleRequest r u).lnk.inbound = [] :=
    fun r u hu => ⟨hu.1, by simpa [settleRequest] using hu.2⟩
  unfold Machine.dealFrame
  split
  · unfold executeFrame runRequest runPosted
    dsimp only
    split
    · split
      · exact hreply _ _ ⟨h.byte, hq⟩
      · exact hreply _ _ (hanswer _ _ hheld)
    · split
      · exact hposted _ _ ⟨h.byte, hq⟩
      · split
        · exact hreset _ (h.setLnk _)
        · exact hposted _ _ (hanswer _ _ hseq)
  · unfold repeatFrame
    dsimp only
    split
    · exact ⟨h.byte, by simpa [placeReply, countDuplicate] using hq⟩
    · exact ⟨h.byte, hq⟩
  · exact ⟨h.byte, hq⟩
  · unfold gapFrame
    dsimp only
    split
    · exact ⟨h.byte, by simpa [placeReply, countGap] using hq⟩
    · exact ⟨h.byte, by simpa [countGap] using hq⟩

/-- A taking from a queue of one frame at most deals with that frame, or with none (R167). -/
theorem takeHeads (h : s.Guards x v) (hq : s.lnk.inbound.length ≤ 1) (ks : Taking) :
    Memory.read (takeHeads ks s).flash.cells x = v := by
  induction ks with
  | nil => exact h.byte
  | cons k ks ih =>
    rw [takeHeads_cons]
    match hin : s.lnk.inbound, hq with
    | [], _ => rw [← takeHeads_cons, takeHeads_of_empty _ hin]; exact h.byte
    | [f], _ =>
      by_cases hc : s.lnk.canTake = true
      · obtain ⟨hbyte, hempty⟩ := dealFrame (h.setLnk { s.lnk with inbound := [] }) rfl f k
        rw [takeHead_of_cons hin hc, takeHeads_of_empty _ hempty]
        exact hbyte
      · rw [takeHead_of_blocked k (Bool.eq_false_iff.2 hc)]
        exact ih

/-- A whole frame that arrives at a quiet receiver with an empty queue is the one frame that can be taken (R163, R166). -/
theorem takeFrame (h : s.Guards x v) (hr : s.lnk.rx = .hunt) (hb : s.lnk.backlog = []) (hq : s.lnk.inbound = [])
    (head : FrameHead) {p : List Byte} (hp : p.length ≤ Config.payloadMax) (ks : Taking) :
    Memory.read (Machine.takeHeads ks (Machine.receiveBytes (frameBytes head.kind.byte head.seq p) s)).flash.cells x = v := by
  have hone : (Machine.goodFrame head.kind.byte head.seq p s).lnk.inbound.length ≤ 1 := by
    cases hk : head.kind <;> simp [Machine.goodFrame, ReqKind.byte, ReqKind.code, offerFrame, renewLease, hq]
  rw [receiveBytes_frameBytes hr hb hp]
  exact (h.goodFrame _ _ _).takeHeads hone ks

/-- One byte at a receiver between frames completes none (R163). -/
theorem receiveByte_hunt (h : s.Guards x v) (hr : s.lnk.rx = .hunt) (hb : s.lnk.backlog = []) (hq : s.lnk.inbound = [])
    (b : Byte) (ts : List Taking) : Memory.read (receiveByte b ts s).flash.cells x = v := by
  have hstep : (Machine.receiverStep b s).lnk.backlog = [] ∧ (Machine.receiverStep b s).lnk.inbound = [] ∧
      (Machine.receiverStep b s).flash = s.flash := by
    unfold Machine.receiverStep
    rw [hr]
    dsimp only
    split <;> exact ⟨hb, hq, rfl⟩
  obtain ⟨hback, hempty, hflash⟩ := hstep
  have htake := takeHeads_of_empty (ts.headD []) hempty
  rw [receiveByte_of_quiet hb (by rw [htake]; exact hback), htake, hflash]
  exact h.byte

end State.Guards

/-! ### The requests fit a frame -/

/-- Every request fits a frame, TIME-SET by its form (R162, R182). -/
theorem encodeRequest_length_le {r : Request} (h : r.fits = true) : (encodeRequest r).length ≤ Config.payloadMax := by
  have hlen : (encodeParams r).length ≤ 28 ∨ ∃ form, r = .timeSet form := by
    cases r with
    | timeSet form => exact .inr ⟨form, rfl⟩
    | actAdd p => exact .inl (by simp [encodeParams, encodeActAdd_length])
    | trgSet p => exact .inl (by simp [encodeParams, encodeTrgSet_length])
    | _ => exact .inl (by simp [encodeParams, u16, u32, flag, LineRecord.bytes, encodeRefConfig])
  obtain hlen | ⟨form, rfl⟩ := hlen
  · simp only [encodeRequest, List.length_cons, Config.payloadMax]; omega
  · simpa [encodeRequest, encodeParams] using encodeTimeSet_length h

/-- A well-formed row that is a request is one that fits. -/
theorem fits_of_asRequest {c : Instr} {h : FrameHead} {r : Request} (hc : c.asRequest = some (h, r)) (hw : c.wf = true) :
    r.fits = true := by
  cases c <;> simp only [Instr.asRequest, Option.some.injEq, Prod.mk.injEq, reduceCtorEq] at hc <;>
    obtain ⟨-, rfl⟩ := hc <;> exact hw

end Sys2Proof.Machine

/-! ## The flash outside the slot in hand -/

namespace Sys2Proof.Machine

section
variable {s : State} {x : Nat}

/-- The operation in hand reaches its slot alone (R141, R143, R145). -/
theorem command_spares (hpage : ∀ page rest, s.prs.job = .saveProgram page rest → page ≤ 15)
    (htarget : ∀ slot, s.prs.target = some slot → slot.holds x = false)
    (hnone : s.prs.target = none → ∀ page rest, s.prs.job ≠ .saveProgram page rest)
    (ha : ∀ d, s.prs.job = .eraseA d → s.prs.target = some .a) (hb : s.prs.job = .eraseB → s.prs.target = some .b)
    {c : FlashCommand} (hc : s.prs.command = some c) : c.spares x := by
  have herase : ∀ slot, s.prs.target = some slot → FlashCommand.spares x (.erase slot) := htarget
  unfold Prs.command at hc
  cases hj : s.prs.job with
  | idle | scanning | saveVerify | loading _ _ => rw [hj] at hc; cases hc
  | saveErase | saveRecover _ =>
    rw [hj] at hc
    obtain ⟨slot, ht, rfl⟩ := Option.map_eq_some_iff.1 hc
    exact herase slot ht
  | eraseA d => rw [hj] at hc; cases hc; exact herase _ (ha d hj)
  | eraseB => rw [hj] at hc; cases hc; exact herase _ (hb hj)
  | saveProgram page rest =>
    rw [hj] at hc
    cases hc
    cases ht : s.prs.target with
    | none => exact absurd hj (hnone ht page rest)
    | some slot =>
      have hx := page_spares (hpage page rest hj) (htarget slot ht)
      have hlen : (imagePage s.prs.imageBytes page).length ≤ 256 := List.length_take_le _ _
      rw [← targetBase_of_target ht] at hx
      exact fun hc => hx ⟨hc.1, by omega⟩

/-- A page of the target, its flaws included (R143, log entry 16). -/
theorem pageProgrammed_byte {v : Byte} (h : s.Guards x v)
    (hpage : ∀ page rest, s.prs.job = .saveProgram page rest → page ≤ 15)
    (htarget : ∀ slot, s.prs.target = some slot → slot.holds x = false)
    (hnone : s.prs.target = none → ∀ page rest, s.prs.job ≠ .saveProgram page rest) (flaws : List (Fin 256 × Byte)) :
    Memory.read (pageProgrammed flaws s).flash.cells x = v := by
  obtain ⟨hwf, hbyte⟩ := h.finishCommand
  unfold pageProgrammed
  split
  · rename_i page rest hj
    have hflaws : Memory.read (applyFlaws (s.prs.targetBase + 256 * page) flaws (finishCommand s).flash.cells) x = v := by
      cases ht : s.prs.target with
      | none => exact absurd hj (hnone ht page rest)
      | some slot =>
        rw [targetBase_of_target ht, read_applyFlaws (page_spares (hpage page rest hj) (htarget slot ht)) flaws hwf]
        exact hbyte
    dsimp only
    split <;> exact hflaws
  · exact h.byte

theorem saveErased_byte {v : Byte} (h : s.Guards x v) : Memory.read (saveErased s).flash.cells x = v := by
  unfold saveErased
  split
  · split
    · exact h.byte
    · exact h.finishCommand.2
  · exact h.byte

theorem recoveryErased_byte {v : Byte} (h : s.Guards x v) : Memory.read (recoveryErased s).flash.cells x = v := by
  unfold recoveryErased
  split
  · exact h.finishCommand.2
  · exact h.byte

theorem slotErased_byte {v : Byte} (h : s.Guards x v) : Memory.read (slotErased s).flash.cells x = v := by
  unfold slotErased
  split
  · exact h.finishCommand.2
  · exact h.finishCommand.2
  · exact h.byte

theorem flashTimedOut_byte {v : Byte} (h : s.Guards x v) : Memory.read (flashTimedOut s).flash.cells x = v := by
  have hcut := h.cutCommand
  unfold flashTimedOut
  split
  · exact hcut
  · split <;> exact hcut
  · exact hcut
  · exact hcut
  · exact hcut
  all_goals exact h.byte

end

/-- Every command of a part without supply (R6, R7, R69). -/
theorem exec_unpowered_byte {c : Instr} {s t : State} {x : Nat} {v : Byte} (hp : s.power = false) (hs : s.Guards x v)
    (h : exec c s = .next t) : Memory.read t.flash.cells x = v := by
  have hpins : ∀ pins, (setPins pins (s.setPower true)).Guards x v := fun _ => hs.of_eq rfl rfl
  obtain e | e | e | ⟨pin, drive, -, e⟩ | ⟨held, pins, -, e⟩ := exec_unpowered c hp <;> rw [e] at h <;> cases h
  · exact hs.byte
  · unfold backupAdvance
    split <;> exact hs.byte
  · exact hs.byte
  · obtain ⟨-, -, -, -, -, -, -, -, hcells, -⟩ := changePin_frame pin drive s
    rw [hcells]
    exact hs.byte
  · unfold gainPower coldStart
    dsimp only
    split
    · exact ((hpins pins).mainReset _).byte
    · exact (((hpins pins).setTmb _).mainReset _).byte

/-- Settles O51: a command takes one frame at most, so the flash command that it may end, cut short or abandon is the one in hand
before it, which reaches its slot alone. -/
theorem flashOutsideTheTargetIsKept : Obligations.FlashOutsideTheTargetIsKept := by
  intro c s t x hw hwf hr hb hq hpage htarget hnone ha herb h
  have hs : s.Guards x (Memory.read s.flash.cells x) :=
    ⟨hwf, rfl, fun _ hc => command_spares hpage htarget hnone ha herb hc⟩
  cases hp : s.power with
  | false => exact exec_unpowered_byte hp hs h
  | true =>
    have on : ∀ {f : State → State}, exec c s = whenPowered f s → t = f s := fun {f} hf => by
      rw [hf, whenPowered, if_pos hp] at h
      cases h; rfl
    have same : ∀ {u : State}, exec c s = .next (if s.power then s else u) → t = s := fun {u} hu => by
      rw [hu, if_pos hp] at h
      cases h; rfl
    have leaves : ∀ {u : State}, s.LeavesFlash u → Memory.read u.flash.cells x = Memory.read s.flash.cells x :=
      fun hu => by rw [hu.flash]
    have hl := State.LeavesFlash.refl s
    cases hreq : c.asRequest with
    | some hr' =>
      obtain ⟨head, r⟩ := hr'
      rw [on (exec_of_asRequest hreq s)]
      exact hs.takeFrame hr hb hq head (encodeRequest_length_le (fits_of_asRequest hreq hw)) _
    | none =>
      cases c with
      | powerUp | backupTick | backupDomainLoss => rw [same rfl]
      | powerLoss => rw [on rfl, losePower_flash]; exact hs.lossCommand
      | nrst pins =>
        have hpins : (setPins pins s).Guards x (Memory.read s.flash.cells x) := hs.of_eq rfl rfl
        rw [on (f := fun u => mainReset .pin (setPins pins u)) rfl]
        exact (hpins.mainReset _).byte
      | scanDone => rw [on rfl]; exact leaves hl.scanned
      | nominalTick now =>
        rw [exec_nominalTick hp] at h
        cases h
        exact (hs.nominalTick now).byte
      | trimCarry | slewCorrection | pulseExpiry | holdoffEnd | refLost | leaseExpiry =>
        rw [on rfl]; exact (hs.dealIf _ _).byte
      | rangeEnd =>
        rw [on rfl]
        unfold dealRangeEnd
        split
        · exact (hs.deal _).byte
        · rfl
      | edgeAccept n order =>
        rw [on (f := fun u => if u.complete n then acceptRun n order u else dealIf (u.accepting n) (.line n (some order)) u) rfl]
        split
        · exact (hs.acceptRun n order).byte
        · exact (hs.dealIf _ _).byte
      | byteFramingError => rw [on rfl]; rfl
      | frameTimeout =>
        rw [on rfl]
        unfold gapElapsed
        split <;> rfl
      | frameLenDiscard | frameCrcDiscard | frameUnknownKind | credit | linkReset =>
        rw [on rfl]; exact (hs.receiveBytes _).byte
      | frameEnqueue head payload take =>
        rw [on (f := fun u => takeHeads take (receiveBytes (frameBytes head.kind.byte head.seq payload) u)) rfl]
        exact hs.takeFrame hr hb hq head (of_decide_eq_true hw) take
      | frameDuplicate | frameOutOfTurn | requestDecodeFail =>
        rw [on rfl]
        unfold takeHeadIf
        rw [hq]
      | transmitDone take =>
        rw [on (f := fun u => takeHeads take (transmitted u)) rfl]
        exact hs.transmitted.takeHeads (by simp [transmitted_inbound hq]) take
      | loadSlotValidated k => rw [on rfl]; exact leaves (hl.loadValidated k)
      | saveEraseDone => rw [on rfl]; exact saveErased_byte hs
      | pageProgramDone flaws => rw [on rfl]; exact pageProgrammed_byte hs hpage htarget hnone flaws
      | verifyDone => rw [on rfl]; exact leaves hl.saveVerified
      | flashTimeout => rw [on rfl]; exact flashTimedOut_byte hs
      | recoveryEraseDone => rw [on rfl]; exact recoveryErased_byte hs
      | slotEraseDone => rw [on rfl]; exact slotErased_byte hs
      | rawLevelChange pin drive =>
        cases h
        obtain ⟨-, -, -, -, -, -, -, -, hcells, -⟩ := changePin_frame pin drive s
        rw [hcells]
      | byteReceived b takes =>
        rw [on rfl]
        exact hs.receiveByte_hunt hr hb hq b takes
      | _ => cases hreq

end Sys2Proof.Machine

/-! ## The slot image, read back -/

namespace Sys2Proof.Machine

/-! ### Bytes written to the flash (R129) -/

/-- Bytes written read back as they were sent. -/
theorem Memory.readAll_writeAll {m : List Host.Cell} (h : Memory.wf m = true) (a : Nat) (bs : List Byte) {k n : Nat}
    (hk : k + n ≤ bs.length) : Memory.readAll (Memory.writeAll m a bs) (a + k) n = (bs.drop k).take n := by
  apply List.ext_getElem
  · simp [Memory.readAll]; omega
  · intro i hi _
    have hin : i < n := by simpa [Memory.readAll] using hi
    have hget : k + i < bs.length := by omega
    simp only [Memory.readAll, List.getElem_map, List.getElem_range, List.getElem_take, List.getElem_drop]
    rw [Memory.read_writeAll bs a h, if_pos (by omega), show a + k + i - a = k + i by omega, List.getD_eq_getElem _ _ hget]

/-! ### Fields (R181) -/

/-- A two-byte field read back. -/
theorem u16At_eq {p : List Byte} {i x : Nat} (h0 : byteAt p i = BitVec.ofNat 8 x)
    (h1 : byteAt p (i + 1) = BitVec.ofNat 8 (x / 256)) (hx : x ≤ 65535) : u16At p i = x := by
  unfold u16At
  rw [h0, h1, BitVec.toNat_ofNat, BitVec.toNat_ofNat]
  omega

/-- A four-byte field read back. -/
theorem u32At_eq {p : List Byte} {i x : Nat} (h0 : byteAt p i = BitVec.ofNat 8 x)
    (h1 : byteAt p (i + 1) = BitVec.ofNat 8 (x / 256)) (h2 : byteAt p (i + 2) = BitVec.ofNat 8 (x / 65536))
    (h3 : byteAt p (i + 3) = BitVec.ofNat 8 (x / 16777216)) (hx : x < 4294967296) : u32At p i = x := by
  unfold u32At u16At
  rw [show i + 2 + 1 = i + 3 from rfl, h0, h1, h2, h3]
  simp only [BitVec.toNat_ofNat]
  omega

theorem toNat_u8 {n : Nat} (h : n ≤ 255) : (BitVec.ofNat 8 n).toNat = n := by
  rw [BitVec.toNat_ofNat]; omega

/-! ### Codes read back (R68, R89, R99, R112, R151) -/

@[simp] theorem Level.ofCode_code (x : Level) : Level.ofCode (BitVec.ofNat 8 x.code) = some x := by cases x <;> rfl
@[simp] theorem Kind.ofCode_code (x : Kind) : Kind.ofCode (BitVec.ofNat 8 x.code) = some x := by cases x <;> rfl
@[simp] theorem LatePolicy.ofCode_code (x : LatePolicy) : LatePolicy.ofCode (BitVec.ofNat 8 x.code) = some x := by
  cases x <;> rfl
@[simp] theorem Role.ofCode_code (x : Role) : Role.ofCode (BitVec.ofNat 8 x.code) = some x := by cases x <;> rfl
@[simp] theorem SafeLevel.ofCode_code (x : SafeLevel) : SafeLevel.ofCode (BitVec.ofNat 8 x.code) = some x := by
  cases x <;> rfl
@[simp] theorem Pull.ofCode_code (x : Pull) : Pull.ofCode (BitVec.ofNat 8 x.code) = some x := by cases x <;> rfl
@[simp] theorem CaptureEdges.ofCode_code (x : CaptureEdges) : CaptureEdges.ofCode (BitVec.ofNat 8 x.code) = some x := by
  cases x <;> rfl
@[simp] theorem Edge.ofCode_code (x : Edge) : Edge.ofCode (BitVec.ofNat 8 x.code) = some x := by cases x <;> rfl
@[simp] theorem CapPolicy.ofCode_code (x : CapPolicy) : CapPolicy.ofCode (BitVec.ofNat 8 x.code) = some x := by
  cases x <;> rfl
@[simp] theorem TrigEdge.ofCode_code (x : TrigEdge) : TrigEdge.ofCode (BitVec.ofNat 8 x.code) = some x := by cases x <;> rfl
@[simp] theorem RefMode.ofCode_code (x : RefMode) : RefMode.ofCode (BitVec.ofNat 8 x.code) = some x := by cases x <;> rfl
@[simp] theorem Fallback.ofCode_code (x : Fallback) : Fallback.ofCode (BitVec.ofNat 8 x.code) = some x := by cases x <;> rfl

@[simp] theorem lineOfByte_line (n : LineNo) : lineOfByte (BitVec.ofNat 8 (n.val + 1)) = some n :=
  lineOfByte_eq_some.2 (toNat_u8 (by have := n.isLt; omega))

/-! ### Records one after another -/

/-- The record at a place in a run of records of one length. -/
theorem drop_flatten_map {α : Type} {f : α → List Byte} {k : Nat} (hf : ∀ x, (f x).length = k) (xs : List α) (ys : List Byte)
    {i : Nat} (hi : i < xs.length) : ∃ zs, ((xs.map f).flatten ++ ys).drop (k * i) = f xs[i] ++ zs := by
  induction xs generalizing i with
  | nil => cases hi
  | cons x xs ih =>
    cases i with
    | zero => exact ⟨(xs.map f).flatten ++ ys, by simp⟩
    | succ i =>
      obtain ⟨zs, hzs⟩ := ih (i := i) (by simpa using hi)
      refine ⟨zs, ?_⟩
      rw [List.map_cons, List.flatten_cons, List.append_assoc, Nat.mul_succ, Nat.add_comm, ← List.drop_drop,
        List.drop_left' (hf x), hzs]
      rfl

theorem length_flatten_map {α : Type} {f : α → List Byte} {k : Nat} (hf : ∀ x, (f x).length = k) (xs : List α) :
    ((xs.map f).flatten).length = k * xs.length := by
  induction xs with
  | nil => rfl
  | cons x xs ih => simp [hf x, ih, Nat.mul_add, Nat.add_comm]

theorem allSome_map_some {α : Type} (xs : List α) : allSome (xs.map some) = some xs := by
  induction xs with
  | nil => rfl
  | cons x xs ih => rw [List.map_cons, allSome, ih]; rfl

/-- A run of records read back one by one. -/
theorem allSome_records {α : Type} {g : Nat → Option α} {xs : List α} {n : Nat} (hn : xs.length = n)
    (h : ∀ (i : Nat) (hi : i < xs.length), g i = some xs[i]) : allSome ((List.range n).map g) = some xs := by
  rw [← allSome_map_some xs]
  congr 1
  refine List.ext_getElem (by simp [hn]) fun i _ hi => ?_
  simpa using h i (by simpa using hi)

theorem toVector_toList {α : Type} {n : Nat} (v : Vector α n) : toVector n v.toList = some v := by
  unfold toVector
  rw [dif_pos (by simp)]
  rfl

/-! ### The records of a body (R132, R183) -/

/-- A line record read back, with the field checks of LINE-CONFIG (R70, R133). -/
theorem LineConfig.config_record {c : LineConfig} (hf : filterLengths.contains c.filter = true) (hu : c.unusedZero = true)
    (ys : List Byte) : LineRecord.config (LineRecord.ofBytes (c.record.bytes ++ ys)) = some c := by
  have hfilter : (BitVec.ofNat 8 c.filter).toNat = c.filter := by
    refine toNat_u8 ?_
    simp only [filterLengths, List.contains_eq_mem, List.mem_cons, List.not_mem_nil, or_false, decide_eq_true_eq] at hf
    omega
  have hrec : LineRecord.ofBytes (c.record.bytes ++ ys) = c.record := rfl
  rw [hrec]
  simp only [LineRecord.config, LineConfig.record, Role.ofCode_code, Level.ofCode_code, SafeLevel.ofCode_code, Pull.ofCode_code,
    CaptureEdges.ofCode_code, hfilter, hf, hu, Bool.and_self, if_true]

/-- A stored trigger within the ranges of TRG-SET (R106, R133). -/
def StoredTrigger.inRange (t : StoredTrigger) : Prop :=
  t.defn.delay ≤ 1048575 ∧ t.defn.holdoff ≤ 65535 ∧ t.armCount ≤ 255 ∧ t.defn.template.width ≤ 65535 ∧
  t.defn.template.kind ≠ .mark ∧ t.defn.template.kind.fits t.defn.template.lines t.defn.template.width = true

/-- The record of a present trigger, byte by byte (R183). -/
theorem storedTriggerBytes_some_eq (t : StoredTrigger) : storedTriggerBytes (some t) =
    [1, BitVec.ofNat 8 (t.defn.source.val + 1), BitVec.ofNat 8 t.defn.edge.code, BitVec.ofNat 8 t.armCount,
     BitVec.ofNat 8 t.defn.delay, BitVec.ofNat 8 (t.defn.delay / 256), BitVec.ofNat 8 (t.defn.delay / 65536),
     BitVec.ofNat 8 (t.defn.delay / 16777216), BitVec.ofNat 8 t.defn.holdoff, BitVec.ofNat 8 (t.defn.holdoff / 256),
     BitVec.ofNat 8 t.defn.template.kind.code, if t.armed then 1 else 0, BitVec.ofNat 8 t.defn.template.lines.toNat,
     BitVec.ofNat 8 (t.defn.template.lines.toNat / 256), BitVec.ofNat 8 t.defn.template.width,
     BitVec.ofNat 8 (t.defn.template.width / 256), BitVec.ofNat 8 t.defn.template.late.code,
     if t.defn.template.notify then 1 else 0, 0, 0] := by
  simp only [storedTriggerBytes, u8, u16, u32, flag, padding, List.cons_append, List.nil_append]
  rfl

/-- The record of a present trigger read back, with the field checks of TRG-SET. -/
theorem readStoredTrigger_some {t : StoredTrigger} (h : t.inRange) (ys : List Byte) :
    readStoredTrigger (storedTriggerBytes (some t) ++ ys) = some (some t) := by
  obtain ⟨hdelay, hholdoff, hcount, hwidth, hkind, hfits⟩ := h
  rw [storedTriggerBytes_some_eq]
  generalize hp : _ ++ ys = p
  have present : flagAt p 0 = some true := by subst hp; rfl
  have source : byteAt p 1 = BitVec.ofNat 8 (t.defn.source.val + 1) := by subst hp; rfl
  have edge : byteAt p 2 = BitVec.ofNat 8 t.defn.edge.code := by subst hp; rfl
  have count : byteAt p 3 = BitVec.ofNat 8 t.armCount := by subst hp; rfl
  have delay : u32At p 4 = t.defn.delay := by subst hp; exact u32At_eq rfl rfl rfl rfl (by omega)
  have holdoff : u16At p 8 = t.defn.holdoff := by subst hp; exact u16At_eq rfl rfl hholdoff
  have kind : byteAt p 10 = BitVec.ofNat 8 t.defn.template.kind.code := by subst hp; rfl
  have armed : flagAt p 11 = some t.armed := by subst hp; exact flagAt_eq rfl
  have lines : w16At p 12 = t.defn.template.lines := by subst hp; exact w16At_eq rfl rfl
  have width : u16At p 14 = t.defn.template.width := by subst hp; exact u16At_eq rfl rfl hwidth
  have late : byteAt p 16 = BitVec.ofNat 8 t.defn.template.late.code := by subst hp; rfl
  have notify : flagAt p 17 = some t.defn.template.notify := by subst hp; exact flagAt_eq rfl
  have pad : byteAt p 18 = 0 ∧ byteAt p 19 = 0 := by subst hp; exact ⟨rfl, rfl⟩
  have defn : readTrigDef (BitVec.ofNat 8 (t.defn.source.val + 1)) (BitVec.ofNat 8 t.defn.edge.code) t.defn.delay t.defn.holdoff
      (BitVec.ofNat 8 t.defn.template.kind.code) t.defn.template.lines t.defn.template.width
      (BitVec.ofNat 8 t.defn.template.late.code) t.defn.template.notify = some t.defn := by
    simp [readTrigDef, hkind, hfits, hdelay]
  unfold readStoredTrigger
  rw [present, source, edge, count, delay, holdoff, kind, armed, lines, width, late, notify]
  simp only [Option.getD_some, defn, pad, and_self, if_true, toNat_u8 hcount]

/-- The record of a trigger, present or absent, read back (R133). -/
theorem readStoredTrigger_bytes {t : Option StoredTrigger} (h : ∀ x, t = some x → x.inRange) (ys : List Byte) :
    readStoredTrigger (storedTriggerBytes t ++ ys) = some t := by
  cases t with
  | none => rfl
  | some t => exact readStoredTrigger_some (h t rfl) ys

theorem storedTriggerBytes_length (t : Option StoredTrigger) : (storedTriggerBytes t).length = 20 := by cases t <;> rfl

/-- The bits of the entry flags of a stored entry (10.2). -/
theorem entryFlags_bits (late : LatePolicy) (notify rep guard : Bool) :
    let f : Byte := BitVec.ofNat 8 (entryFlags .calendar late notify true rep guard)
    f.getLsbD 0 = false ∧ f.getLsbD 1 = decide (late = .skip) ∧ f.getLsbD 2 = notify ∧ f.getLsbD 3 = true ∧
    f.getLsbD 4 = rep ∧ f.getLsbD 5 = guard ∧ f.getLsbD 6 = false ∧ f.getLsbD 7 = false := by
  cases late <;> cases notify <;> cases rep <;> cases guard <;> decide

/-- A stored entry within the ranges of ACT-ADD (R33, R133). -/
def StoredEntry.inRange (e : StoredEntry) : Prop :=
  e.due.inRange = true ∧ e.width ≤ 65535 ∧ e.remaining ≤ 65535 ∧ e.kind.fits e.lines e.width = true ∧
  (e.period = none → e.remaining = 0) ∧ (∀ q, e.period = some q → 8 ≤ q ∧ q ≤ 619315200)

/-- The guard fields of a stored entry read back (R33). -/
theorem readGuard_bytes (g : Option Guard) : readGuard g.isSome (BitVec.ofNat 8 ((g.map fun g => g.line.val + 1).getD 0))
    (BitVec.ofNat 8 ((g.map fun g => g.level.code).getD 0)) = some g := by
  cases g with
  | none => rfl
  | some g => simp [readGuard]

/-- The repeat fields of a stored entry read back (R33). -/
theorem readRep_fields {e : StoredEntry} (h : e.inRange) : ∃ rep : Option Rep,
    readRep e.period.isSome (e.period.getD 0) e.remaining = some rep ∧ rep.map (·.period) = e.period := by
  obtain ⟨-, -, -, -, hnone, hsome⟩ := h
  cases hp : e.period with
  | none => exact ⟨none, by simp [readRep, hnone hp], rfl⟩
  | some q => exact ⟨some ⟨q, e.remaining⟩, by simp [readRep, hsome q hp], rfl⟩

/-- The record of a standing entry, byte by byte (R183). -/
theorem StoredEntry.bytes_eq (e : StoredEntry) : e.bytes =
    [BitVec.ofNat 8 e.label.toNat, BitVec.ofNat 8 (e.label.toNat / 256), BitVec.ofNat 8 e.due.sec,
     BitVec.ofNat 8 (e.due.sec / 256), BitVec.ofNat 8 (e.due.sec / 65536), BitVec.ofNat 8 (e.due.sec / 16777216),
     BitVec.ofNat 8 e.due.tick, BitVec.ofNat 8 (e.due.tick / 256), BitVec.ofNat 8 e.kind.code,
     BitVec.ofNat 8 (entryFlags .calendar e.late e.notify true e.period.isSome e.guard.isSome),
     BitVec.ofNat 8 e.lines.toNat, BitVec.ofNat 8 (e.lines.toNat / 256), BitVec.ofNat 8 e.width, BitVec.ofNat 8 (e.width / 256),
     BitVec.ofNat 8 (e.period.getD 0), BitVec.ofNat 8 (e.period.getD 0 / 256), BitVec.ofNat 8 (e.period.getD 0 / 65536),
     BitVec.ofNat 8 (e.period.getD 0 / 16777216), BitVec.ofNat 8 e.remaining, BitVec.ofNat 8 (e.remaining / 256),
     BitVec.ofNat 8 ((e.guard.map fun g => g.line.val + 1).getD 0), BitVec.ofNat 8 ((e.guard.map fun g => g.level.code).getD 0),
     0, 0] := by
  simp only [StoredEntry.bytes, u8, u16, u32, instantBytes, padding, List.cons_append, List.nil_append]
  rfl

/-- The record of a standing entry read back, with the field checks of ACT-ADD (R133). -/
theorem readStoredEntry_bytes {e : StoredEntry} (h : e.inRange) (ys : List Byte) :
    readStoredEntry (e.bytes ++ ys) = some e := by
  obtain ⟨rep, hrep, hperiod⟩ := readRep_fields h
  obtain ⟨hdue, hwidth, hremaining, hfits, -, hq⟩ := h
  simp only [Instant.inRange, Bool.and_eq_true, decide_eq_true_eq] at hdue
  obtain ⟨hsec, htick⟩ := hdue
  have hperiodle : e.period.getD 0 < 4294967296 := by
    cases hp : e.period with
    | none => simp
    | some q => have := hq q hp; simp only [Option.getD_some]; omega
  obtain ⟨hanchor, hlate, hnotify, hstanding, hhas, hguarded, hpad6, hpad7⟩ :=
    entryFlags_bits e.late e.notify e.period.isSome e.guard.isSome
  have hguard := readGuard_bytes e.guard
  rw [StoredEntry.bytes_eq]
  generalize hp : _ ++ ys = p
  have label : w16At p 0 = e.label := by subst hp; exact w16At_eq rfl rfl
  have sec : u32At p 2 = e.due.sec := by
    subst hp; exact u32At_eq rfl rfl rfl rfl (by simp only [Config.topSecond] at hsec; omega)
  have tick : u16At p 6 = e.due.tick := by subst hp; exact u16At_eq rfl rfl (by omega)
  have kind : byteAt p 8 = BitVec.ofNat 8 e.kind.code := by subst hp; rfl
  have flags : byteAt p 9 =
      BitVec.ofNat 8 (entryFlags .calendar e.late e.notify true e.period.isSome e.guard.isSome) := by subst hp; rfl
  have lines : w16At p 10 = e.lines := by subst hp; exact w16At_eq rfl rfl
  have width : u16At p 12 = e.width := by subst hp; exact u16At_eq rfl rfl hwidth
  have period : u32At p 14 = e.period.getD 0 := by subst hp; exact u32At_eq rfl rfl rfl rfl hperiodle
  have remaining : u16At p 18 = e.remaining := by subst hp; exact u16At_eq rfl rfl hremaining
  have line : byteAt p 20 = BitVec.ofNat 8 ((e.guard.map fun g => g.line.val + 1).getD 0) := by subst hp; rfl
  have level : byteAt p 21 = BitVec.ofNat 8 ((e.guard.map fun g => g.level.code).getD 0) := by subst hp; rfl
  have pad : byteAt p 22 = 0 ∧ byteAt p 23 = 0 := by subst hp; exact ⟨rfl, rfl⟩
  have late : (if e.late = .skip then LatePolicy.skip else .run) = e.late := by cases e.late <;> rfl
  have due : readDue .calendar e.due.sec e.due.tick 0 = some e.due := if_pos ⟨hsec, htick⟩
  unfold readStoredEntry
  simp only [kind, flags, line, level, period, remaining, sec, tick, lines, width, label, pad, hanchor, hlate, hnotify, hstanding,
    hhas, hguarded, hpad6, hpad7, hguard, hrep, due, Kind.ofCode_code, hfits, hperiod, decide_eq_true_eq, late]
  rfl

theorem StoredEntry.bytes_length (e : StoredEntry) : e.bytes.length = 24 := rfl

/-! ### The body (R132, R183) -/

/-- What the requests accept, with roles that fit: the profiles that a save can write. -/
structure Profile.Accepted (p : Profile) : Prop where
  tolerance : p.tolerance ≤ 1023
  mark : 1 ≤ p.mark ∧ p.mark ≤ 256
  period : p.period ≤ 600
  window : 1 ≤ p.ref.window ∧ p.ref.window ≤ 512
  limit : 1 ≤ p.ref.limit ∧ p.ref.limit ≤ 15
  timeout : 2 ≤ p.ref.timeout ∧ p.ref.timeout ≤ 60
  lines : ∀ n : LineNo, filterLengths.contains (p.lines[n]).filter = true ∧ (p.lines[n]).unusedZero = true
  triggers : ∀ (n : TrigNo) (t : StoredTrigger), p.triggers[n] = some t → t.inRange
  count : p.entries.length ≤ 64
  entries : ∀ e ∈ p.entries, e.inRange
  roles : p.rolesFit = true

/-- The bytes of the line records. -/
def Profile.lineBytes (p : Profile) : List Byte := (p.lines.toList.map fun c => c.record.bytes).flatten

/-- The bytes of the trigger records. -/
def Profile.triggerBytes (p : Profile) : List Byte := (p.triggers.toList.map storedTriggerBytes).flatten

/-- The bytes of the entry records. -/
def Profile.entryBytes (p : Profile) : List Byte := (p.entries.map StoredEntry.bytes).flatten

theorem LineConfig.record_length (c : LineConfig) : c.record.bytes.length = 6 := rfl

section
variable (p : Profile)

/-- The configuration block, byte by byte (R183). -/
theorem Profile.configBytes_eq : p.configBytes =
    [BitVec.ofNat 8 p.tolerance, BitVec.ofNat 8 (p.tolerance / 256), BitVec.ofNat 8 p.policy.code, 0, BitVec.ofNat 8 p.mark,
     BitVec.ofNat 8 (p.mark / 256), BitVec.ofNat 8 p.ref.mode.code, BitVec.ofNat 8 p.ref.edge.code,
     BitVec.ofNat 8 p.ref.window, BitVec.ofNat 8 (p.ref.window / 256), BitVec.ofNat 8 p.ref.limit, BitVec.ofNat 8 p.ref.timeout,
     BitVec.ofNat 8 p.period, BitVec.ofNat 8 (p.period / 256), BitVec.ofNat 8 p.fallback.code, 0] := by
  simp only [Profile.configBytes, RefConfig.bytes, u8, u16, padding, List.cons_append, List.nil_append]
  rfl

theorem Profile.configBytes_length : p.configBytes.length = 16 := by rw [Profile.configBytes_eq]; rfl

theorem Profile.lineBytes_length : p.lineBytes.length = 96 := by
  unfold Profile.lineBytes
  rw [length_flatten_map LineConfig.record_length, Vector.length_toList]

theorem Profile.triggerBytes_length : p.triggerBytes.length = 160 := by
  unfold Profile.triggerBytes
  rw [length_flatten_map storedTriggerBytes_length, Vector.length_toList]

theorem Profile.entryBytes_length : p.entryBytes.length = 24 * p.entries.length :=
  length_flatten_map StoredEntry.bytes_length _

/-- The body, part by part. -/
theorem Profile.body_eq : p.body =
    p.configBytes ++ (p.lineBytes ++ (p.triggerBytes ++ (BitVec.ofNat 8 p.entries.length :: 0 :: p.entryBytes))) := by
  unfold Profile.body Profile.lineBytes Profile.triggerBytes Profile.entryBytes
  simp only [List.append_assoc]
  rfl

theorem Profile.body_length : p.body.length = 274 + 24 * p.entries.length := by
  rw [p.body_eq]
  simp only [List.length_append, List.length_cons, p.configBytes_length, p.lineBytes_length, p.triggerBytes_length,
    p.entryBytes_length]
  omega

/-- What follows the configuration block. -/
theorem Profile.body_drop_config (k : Nat) : p.body.drop (16 + k) =
    (p.lineBytes ++ (p.triggerBytes ++ (BitVec.ofNat 8 p.entries.length :: 0 :: p.entryBytes))).drop k := by
  rw [p.body_eq, ← List.drop_drop, List.drop_left' p.configBytes_length]

/-- What follows the line records. -/
theorem Profile.body_drop_lines (k : Nat) : p.body.drop (112 + k) =
    (p.triggerBytes ++ (BitVec.ofNat 8 p.entries.length :: 0 :: p.entryBytes)).drop k := by
  rw [show 112 + k = 16 + (96 + k) by omega, p.body_drop_config, ← List.drop_drop, List.drop_left' p.lineBytes_length]

/-- What follows the trigger records. -/
theorem Profile.body_drop_triggers (k : Nat) : p.body.drop (272 + k) =
    (BitVec.ofNat 8 p.entries.length :: 0 :: p.entryBytes).drop k := by
  rw [show 272 + k = 112 + (160 + k) by omega, p.body_drop_lines, ← List.drop_drop, List.drop_left' p.triggerBytes_length]

theorem Profile.body_line {i : Nat} (hi : i < 16) : ∃ ys, p.body.drop (16 + 6 * i) = p.lines[i].record.bytes ++ ys := by
  rw [p.body_drop_config]
  exact drop_flatten_map LineConfig.record_length p.lines.toList _ (by simpa using hi)

theorem Profile.body_trigger {i : Nat} (hi : i < 8) : ∃ ys, p.body.drop (112 + 20 * i) = storedTriggerBytes p.triggers[i] ++ ys := by
  rw [p.body_drop_lines]
  exact drop_flatten_map storedTriggerBytes_length p.triggers.toList _ (by simpa using hi)

theorem Profile.body_entry {i : Nat} (hi : i < p.entries.length) :
    ∃ ys, p.body.drop (274 + 24 * i) = p.entries[i].bytes ++ ys := by
  rw [show 274 + 24 * i = 272 + (24 * i + 2) by omega, p.body_drop_triggers, List.drop_succ_cons, List.drop_succ_cons,
    ← List.append_nil p.entryBytes]
  exact drop_flatten_map StoredEntry.bytes_length p.entries [] hi

/-- The count byte and its padding. -/
theorem Profile.body_count : byteAt p.body 272 = BitVec.ofNat 8 p.entries.length ∧ byteAt p.body 273 = 0 := by
  have at_drop (i : Nat) : byteAt p.body (272 + i) = byteAt (BitVec.ofNat 8 p.entries.length :: 0 :: p.entryBytes) i := by
    have := congrArg (fun l => l.getD 0 0) (p.body_drop_triggers i)
    simpa [byteAt, List.getD_eq_getElem?_getD] using this
  exact ⟨at_drop 0, at_drop 1⟩

/-- The line records read back. -/
theorem Profile.read_lines (h : p.Accepted) :
    (allSome ((List.range 16).map fun i => LineRecord.config (LineRecord.ofBytes (p.body.drop (16 + 6 * i))))).bind (toVector 16) =
      some p.lines := by
  rw [allSome_records (xs := p.lines.toList) (by simp) fun i hi => ?_]
  · exact toVector_toList p.lines
  · have hi : i < 16 := by simpa using hi
    obtain ⟨ys, hys⟩ := p.body_line hi
    obtain ⟨hfilter, hunused⟩ := h.lines ⟨i, hi⟩
    rw [hys, Vector.getElem_toList]
    exact LineConfig.config_record hfilter hunused ys

/-- The trigger records read back. -/
theorem Profile.read_triggers (h : p.Accepted) :
    (allSome ((List.range 8).map fun i => readStoredTrigger (p.body.drop (112 + 20 * i)))).bind (toVector 8) =
      some p.triggers := by
  rw [allSome_records (xs := p.triggers.toList) (by simp) fun i hi => ?_]
  · exact toVector_toList p.triggers
  · have hi : i < 8 := by simpa using hi
    obtain ⟨ys, hys⟩ := p.body_trigger hi
    rw [hys, Vector.getElem_toList]
    exact readStoredTrigger_bytes (fun t ht => h.triggers ⟨i, hi⟩ t ht) ys

/-- The entry records read back. -/
theorem Profile.read_entries (h : p.Accepted) :
    allSome ((List.range p.entries.length).map fun i => readStoredEntry (p.body.drop (274 + 24 * i))) = some p.entries :=
  allSome_records rfl fun i hi => by
    obtain ⟨ys, hys⟩ := p.body_entry hi
    rw [hys]
    exact readStoredEntry_bytes (h.entries _ (List.getElem_mem hi)) ys

/-- The body of an accepted profile reads back as that profile (R132, R133, R183). -/
theorem Profile.readBody_body (h : p.Accepted) : readBody p.body = some p := by
  have hcount : (byteAt p.body 272).toNat = p.entries.length := by
    rw [p.body_count.1]; exact toNat_u8 (by have := h.count; omega)
  have hlines := p.read_lines h
  have htriggers := p.read_triggers h
  have hentries := p.read_entries h
  have hlength := p.body_length
  have hpad := p.body_count.2
  obtain ⟨htolerance, hmark, hperiod, hwindow, hlimit, htimeout, -, -, hcountle, -, hroles⟩ := h
  have hbody := p.body_eq
  rw [p.configBytes_eq] at hbody
  generalize p.body = b at *
  have pad3 : byteAt b 3 = 0 := by subst hbody; rfl
  have pad15 : byteAt b 15 = 0 := by subst hbody; rfl
  have tolerance : u16At b 0 = p.tolerance := by subst hbody; exact u16At_eq rfl rfl (by omega)
  have policy : byteAt b 2 = BitVec.ofNat 8 p.policy.code := by subst hbody; rfl
  have mark : u16At b 4 = p.mark := by subst hbody; exact u16At_eq rfl rfl (by omega)
  have mode : byteAt b 6 = BitVec.ofNat 8 p.ref.mode.code := by subst hbody; rfl
  have edge : byteAt b 7 = BitVec.ofNat 8 p.ref.edge.code := by subst hbody; rfl
  have window : u16At b 8 = p.ref.window := by subst hbody; exact u16At_eq rfl rfl (by omega)
  have limit : byteAt b 10 = BitVec.ofNat 8 p.ref.limit := by subst hbody; rfl
  have timeout : byteAt b 11 = BitVec.ofNat 8 p.ref.timeout := by subst hbody; rfl
  have period : u16At b 12 = p.period := by subst hbody; exact u16At_eq rfl rfl (by omega)
  have fallback : byteAt b 14 = BitVec.ofNat 8 p.fallback.code := by subst hbody; rfl
  have cap : readCapConfig (BitVec.ofNat 8 p.policy.code) p.mark = some (p.policy, p.mark) := by
    simp [readCapConfig, hmark]
  have ref : readRefConfig (BitVec.ofNat 8 p.ref.mode.code) (BitVec.ofNat 8 p.ref.edge.code) p.ref.window
      (BitVec.ofNat 8 p.ref.limit) (BitVec.ofNat 8 p.ref.timeout) = some p.ref := by
    simp only [readRefConfig, RefMode.ofCode_code, Edge.ofCode_code, toNat_u8 (show p.ref.limit ≤ 255 by omega),
      toNat_u8 (show p.ref.timeout ≤ 255 by omega), hwindow, hlimit, htimeout, and_self, if_true]
  have lease : readLease p.period (BitVec.ofNat 8 p.fallback.code) = some (p.period, p.fallback) := by
    simp [readLease, hperiod]
  unfold readBody
  simp only [hcount, hlength, hcountle, pad3, pad15, hpad, tolerance, policy, mark, mode, edge, window, limit, timeout, period,
    fallback, cap, ref, lease, hlines, htriggers, hentries, htolerance, hroles, Config.standingMax, and_self, if_true]

end

/-! ### The check value (R131) -/

theorem crcBits_succ (bit : Nat → Nat) (k c : Nat) : crcBits bit (k + 1) c = crcBits bit k (bit c) := by
  rw [crcBits]; cases bit c <;> rfl

theorem crcBytes_cons (bring : Nat → Nat → Nat) (bit : Nat → Nat) (b : Byte) (bs : List Byte) (c : Nat) :
    crcBytes bring bit (b :: bs) c = crcBytes bring bit bs (crcBits bit 8 (bring c b.toNat)) := by
  rw [crcBytes]; cases crcBits bit 8 (bring c b.toNat) <;> rfl

/-- The check register keeps its width under one bit step. -/
theorem crc32Bit_lt {c : Nat} (h : c < 2 ^ 32) : crc32Bit c < 2 ^ 32 := by
  unfold crc32Bit
  split
  · exact Nat.xor_lt_two_pow (by omega) (by decide)
  · omega

theorem crcBits_lt (k : Nat) {c : Nat} (h : c < 2 ^ 32) : crcBits crc32Bit k c < 2 ^ 32 := by
  induction k generalizing c with
  | zero => exact h
  | succ k ih => rw [crcBits_succ]; exact ih (crc32Bit_lt h)

theorem crcBytes_lt (bs : List Byte) {c : Nat} (h : c < 2 ^ 32) : crcBytes (fun c b => c ^^^ b) crc32Bit bs c < 2 ^ 32 := by
  induction bs generalizing c with
  | nil => exact h
  | cons b bs ih =>
    rw [crcBytes_cons]
    exact ih (crcBits_lt 8 (Nat.xor_lt_two_pow h (by have := b.isLt; omega)))

theorem crc32_lt (bs : List Byte) : crc32 bs < 4294967296 :=
  Nat.xor_lt_two_pow (n := 32) (crcBytes_lt bs (by decide)) (by decide)

/-! ### The header (R131, R183) -/

/-- The header, byte by byte (R183). -/
theorem slotHeader_eq (gen : Nat) (body : List Byte) : slotHeader gen body =
    [0x4F, 0x51, 0x50, 0x46, 1, 0, 0, 0, BitVec.ofNat 8 gen, BitVec.ofNat 8 (gen / 256), BitVec.ofNat 8 (gen / 65536),
     BitVec.ofNat 8 (gen / 16777216), BitVec.ofNat 8 body.length, BitVec.ofNat 8 (body.length / 256), 0, 0,
     BitVec.ofNat 8 (crc32 body), BitVec.ofNat 8 (crc32 body / 256), BitVec.ofNat 8 (crc32 body / 65536),
     BitVec.ofNat 8 (crc32 body / 16777216), 0, 0, 0, 0, 0, 0, 0, 0, 0, 0, 0, 0] := by
  simp only [slotHeader, u8, u16, u32, padding, List.cons_append, List.nil_append]
  rfl

section
variable {gen : Nat} {body : List Byte}

theorem slotHeader_length : (slotHeader gen body).length = 32 := by rw [slotHeader_eq]; rfl

theorem headerRight_slotHeader : headerRight (slotHeader gen body) = true := by rw [slotHeader_eq]; rfl

theorem generation_slotHeader (h : gen < 4294967296) : u32At (slotHeader gen body) 8 = gen := by
  rw [slotHeader_eq]; exact u32At_eq rfl rfl rfl rfl h

theorem headLength_slotHeader (h : body.length ≤ 65535) : headLength (slotHeader gen body) = body.length := by
  rw [slotHeader_eq]; exact u16At_eq rfl rfl h

theorem check_slotHeader : u32At (slotHeader gen body) 16 = crc32 body := by
  rw [slotHeader_eq]; exact u32At_eq rfl rfl rfl rfl (crc32_lt body)

theorem headerInRange_slotHeader (hlow : 1 ≤ gen) (hhigh : gen ≤ 0xFFFFFFFE) (hbody : body.length ≤ 4064) :
    headerInRange (slotHeader gen body) = true := by
  unfold headerInRange
  rw [headerRight_slotHeader, generation_slotHeader (by omega), headLength_slotHeader (by omega)]
  simp [hlow, hhigh, hbody]

/-! ### The image validates (R133) -/

variable {m : List Host.Cell} (wf : Memory.wf m = true) (slot : Slot)
include wf

/-- The header read from a slot that holds an image. -/
theorem slotHead_writeAll : slotHead (Memory.writeAll m slot.base (slotHeader gen body ++ body)) slot = slotHeader gen body := by
  have := Memory.readAll_writeAll wf slot.base (slotHeader gen body ++ body) (k := 0) (n := 32)
    (by rw [List.length_append, slotHeader_length]; omega)
  rwa [List.drop_zero, List.take_left' slotHeader_length] at this

/-- The body read from a slot that holds an image. -/
theorem body_writeAll (hbody : body.length ≤ 65535) :
    (bodyRead slot (slotHeader gen body)).cells (Memory.writeAll m slot.base (slotHeader gen body ++ body)) = body := by
  have := Memory.readAll_writeAll wf slot.base (slotHeader gen body ++ body) (k := 32) (n := body.length)
    (by rw [List.length_append, slotHeader_length])
  rw [List.drop_left' slotHeader_length, List.take_length] at this
  rwa [bodyRead, headLength_slotHeader hbody]

theorem validateSlot_writeAll (hlow : 1 ≤ gen) (hhigh : gen ≤ 0xFFFFFFFE) {p : Profile} (h : p.Accepted) :
    validateSlot (Memory.writeAll m slot.base (slotImage gen p)) slot = some (gen, p) := by
  have hlength : p.body.length ≤ 4064 := by
    have := h.count
    rw [p.body_length]; omega
  unfold validateSlot slotImage
  simp only [slotHead_writeAll wf slot, headerInRange_slotHeader hlow hhigh hlength,
    body_writeAll wf slot (show p.body.length ≤ 65535 by omega), check_slotHeader, generation_slotHeader (show gen < 4294967296 by omega), p.readBody_body h, if_true, Option.map_some]

end

/-- Settles O52: the written image reads back, its header is in range with the check value of its body, and each record of the
body reads back as the field checks of the request that sets it. -/
theorem savedSlotsValidate : Obligations.SavedSlotsValidate := by
  intro m slot gen p wf hlow hhigh htolerance hmark1 hmark2 hperiod hwindow1 hwindow2 hlimit1 hlimit2 htimeout1 htimeout2 hlines
    htriggers hcount hentries hroles
  exact validateSlot_writeAll wf slot hlow hhigh
    { tolerance := htolerance, mark := ⟨hmark1, hmark2⟩, period := hperiod, window := ⟨hwindow1, hwindow2⟩,
      limit := ⟨hlimit1, hlimit2⟩, timeout := ⟨htimeout1, htimeout2⟩, lines := hlines, triggers := htriggers, count := hcount,
      entries := hentries, roles := hroles }

end Sys2Proof.Machine

/-! ## A request on a quiet link is served, whatever request it is -/

namespace Sys2Proof.Machine

/-! ### Every payload decodes -/

/-- The code of every request is one of the request codes. -/
theorem requestCodes_contains (r : Request) :
    requestCodes.contains (BitVec.ofNat 8 (requestCode r) : Byte).toNat = true := by
  cases r <;> rfl

/-- The parameters of every request read back from their bytes, field by field (R170, 10.3). -/
theorem decodeParams_encodeParams {r : Request} (h : r.fits = true) :
    decodeParams (requestCode r) (encodeParams r) = some r := by
  cases r with
  | linkStatus b => exact congrArg (Option.map Request.linkStatus) (flagAt_eq (p := flag b) (i := 0) rfl)
  | timeSet form => exact congrArg (Option.map Request.timeSet) (decodeTimeSet_encodeTimeSet h)
  | timeAdjust mode v =>
    exact congrArg (some ∘ Request.timeAdjust mode) (w32At_eq (p := mode :: u32 v.toNat) (i := 1) rfl rfl rfl rfl)
  | trimSet w => exact congrArg (some ∘ Request.trimSet) (w16At_eq (p := u16 w.toNat) (i := 0) rfl rfl)
  | actAdd p =>
    simp only [requestCode, encodeParams, decodeParams, encodeActAdd_length, if_true, decodeActAdd_encodeActAdd, Option.map_some]
  | actCancel w => exact congrArg (some ∘ Request.actCancel) (w16At_eq (p := u16 w.toNat) (i := 0) rfl rfl)
  | actPurge lines origins =>
    exact congrArg (fun x => some (Request.actPurge x origins)) (w16At_eq (p := u16 lines.toNat ++ [origins]) (i := 0) rfl rfl)
  | actGet w => exact congrArg (some ∘ Request.actGet) (w16At_eq (p := u16 w.toNat) (i := 0) rfl rfl)
  | actList w => exact congrArg (some ∘ Request.actList) (w16At_eq (p := u16 w.toNat) (i := 0) rfl rfl)
  | schedConfig w => exact congrArg (some ∘ Request.schedConfig) (w16At_eq (p := u16 w.toNat) (i := 0) rfl rfl)
  | lineDrive lines action width =>
    exact congrArg₂ (fun x y => some (Request.lineDrive x action y))
      (w16At_eq (p := u16 lines.toNat ++ [action] ++ u16 width.toNat) (i := 0) rfl rfl)
      (w16At_eq (p := u16 lines.toNat ++ [action] ++ u16 width.toNat) (i := 3) rfl rfl)
  | lineStatus b => exact congrArg (Option.map Request.lineStatus) (flagAt_eq (p := flag b) (i := 0) rfl)
  | capConfig policy mark =>
    exact congrArg (some ∘ Request.capConfig policy) (w16At_eq (p := policy :: u16 mark.toNat) (i := 1) rfl rfl)
  | capAck w => exact congrArg (some ∘ Request.capAck) (w32At_eq (p := u32 w.toNat) (i := 0) rfl rfl rfl rfl)
  | trgSet p =>
    simp only [requestCode, encodeParams, decodeParams, encodeTrgSet_length, if_true, decodeTrgSet_encodeTrgSet, Option.map_some]
  | refConfig p =>
    exact congrArg (fun x => some (Request.refConfig { p with window := x })) (w16At_eq (p := encodeRefConfig p) (i := 2) rfl rfl)
  | leaseConfig w f =>
    exact congrArg (fun x => some (Request.leaseConfig x f)) (w16At_eq (p := u16 w.toNat ++ [f]) (i := 0) rfl rfl)
  | _ => rfl

/-- A read-type request sent posted fails with STATE, before its parameters are looked at (R170). -/
theorem decodePayload_posted_read {r : Request} (h : r.isRead = true) :
    decodePayload .posted (encodeRequest r) = .error (BitVec.ofNat 8 (requestCode r), .state) := by
  have hn : (BitVec.ofNat 8 (requestCode r) : Byte).toNat = requestCode r := by cases r <;> rfl
  have hread : ReqKind.posted = .posted ∧ readTypeCodes.contains (requestCode r) = true := ⟨rfl, h⟩
  unfold decodePayload encodeRequest
  dsimp only
  rw [requestCodes_contains, hn, if_pos hread]
  rfl

/-! ### Every request row -/

/-- The execution of a posted frame that does not decode settles the status of the check that failed, and no owner is asked
(R167, R170). -/
theorem executeFrame_posted_of_error {h : FrameHead} {r : Request} {after : Nat} {c : Byte} {st : Status} {s : State}
    (hk : h.kind = .posted) (hd : decodePayload .posted (encodeRequest r) = .error (c, st)) :
    executeFrame ⟨h, encodeRequest r⟩ after (renewLease s) =
      ended h (BitVec.ofNat 8 (requestCode r)) st [] (begun h s) := by
  simp only [executeFrame, runPosted, hk, hd, ended, begun]
  rfl

/-- Settles O4: every payload decodes, so a request that may be sent is executed by `exec_served`, and a posted read by the check
of R170 that it fails. -/
theorem requestsAreServed : Obligations.RequestsAreServed := by
  intro i h r s hi hq hf
  have hlen := encodeRequest_length_le hf
  refine ⟨fun hsend hr => ?_, fun hk hread => ?_⟩
  · exact exec_served hi hq hr hlen
      (decodePayload_encodeRequest (requestCodes_contains r) hsend (decodeParams_encodeParams hf))
  · rw [exec_of_asRequest hi, whenPowered, if_pos hq.listening.power, sendRequest_of_quiet hq hlen,
      executeFrame_posted_of_error hk (decodePayload_posted_read hread)]

/-! ### What serving adds -/

/-- A POSTED frame renews the lease and moves the sequence state on (R152, R167). -/
theorem begun_posted (q : Byte) (s : State) : begun ⟨.posted, q⟩ s =
    (s.setLsm s.lsm.renew).setLnk { s.lnk with seqState := .expecting (q + 1) q .posted } := rfl

/-- A REQUEST does the same, and an idle transmitter waits for its reply (R152, R167, R170). -/
theorem begun_request (q : Byte) (s : State) : begun ⟨.request, q⟩ s =
    (s.setLsm s.lsm.renew).setLnk { s.lnk with seqState := .expecting (q + 1) q .request,
                                               tx := if s.lnk.tx = .idle then .forReply else s.lnk.tx } := by
  by_cases ht : s.lnk.tx = .idle
  · rw [if_pos ht]; exact if_pos ht
  · rw [if_neg ht]; exact if_neg ht

/-- A reply that is settled goes out at once where the transmitter was held for it, and waits behind a frame in transmission
otherwise (R166, R168, R170, R172). -/
theorem settleRequest_begun {q : Byte} {r : Reply} {s : State} (ht : s.lnk.tx ≠ .forReply) (hr : r.isRestart = false) :
    settleRequest r (begun ⟨.request, q⟩ s) = (s.setLsm s.lsm.renew).setLnk { s.lnk with
      seqState := .expecting (q + 1) q .request, cache := .reply r, replies := s.lnk.replies ++ [r],
      tx := if s.lnk.tx = .idle then .reply else s.lnk.tx } := by
  rw [begun_request]
  by_cases hi : s.lnk.tx = .idle
  · simp [settleRequest, hi, hr, Lnk.choose]
  · simp only [settleRequest, State.setLnk_lnk, State.setLnk_setLnk, if_neg hi, if_neg ht, hr, Bool.or_false]
    exact congrArg _ (Lnk.choose_of_busy hi)

/-- Settles O5: what `begun` and `ended` write, for each kind of frame. -/
theorem servingTouchesTheLink : Obligations.ServingTouchesTheLink := by
  intro q code st data s ht
  refine ⟨settleRequest_begun ht rfl, ?_⟩
  rw [begun_posted]
  rfl

/-! ### The lease requests -/

section
variable {h : FrameHead} {s : State}

/-- An EXPIRED lease is not renewed (R152). -/
theorem Lsm.renew_of_expired {l : Lsm} (h : l.state = .expired) : l.renew = l := by unfold Lsm.renew; rw [h]

theorem exec_leaseConfig (hq : Quiet h s) (w : W16) (f : Byte) :
    exec (.leaseConfig h w f) s = .next (served h (.leaseConfig w f) 0 s) :=
  (requestsAreServed _ h (.leaseConfig w f) s rfl hq rfl).1 (fun _ => rfl) (by simp)

theorem exec_leaseResume (hq : Quiet h s) : exec (.leaseResume h) s = .next (served h .leaseResume 0 s) :=
  (requestsAreServed _ h .leaseResume s rfl hq rfl).1 (fun _ => rfl) (by simp)

/-- LEASE-RESUME of a lease that is not EXPIRED is refused (R156). -/
theorem served_leaseResume_of_running (hl : s.lsm.state ≠ .expired) :
    served h .leaseResume 0 s = ended h 0x71 .state [] (begun h s) := by
  have ha : answer .leaseResume 0 (begun h s) = .refuse .state (begun h s) := if_neg (by simpa using hl)
  simp only [served, ha]
  rfl

/-- LEASE-RESUME of an EXPIRED lease begins a new run and removes LEASE from the set (R156). -/
theorem served_leaseResume_of_expired (hl : s.lsm.state = .expired) : served h .leaseResume 0 s =
    ended h 0x71 .ok (s.sch.hold.put .lease false).byte (removeReason .lease ((begun h s).setLsm
      { s.lsm with state := if 0 < s.lsm.period then .running else .disabled, count := 0 })) := by
  have ha : answer .leaseResume 0 (begun h s) = .ok ((begun h s).sch.hold.put .lease false).byte
      (removeReason .lease ((begun h s).setLsm { (begun h s).lsm with
        state := if 0 < (begun h s).lsm.period then .running else .disabled, count := 0 })) := if_pos (by simpa using hl)
  rw [begun_sch, begun_lsm, Lsm.renew_of_expired hl] at ha
  simp only [served, ha]
  rfl

end

/-- The removal of LEASE as one equation: the set without it, and a pass where it was the last reason (R40). -/
theorem removeReason_lease (s : State) : removeReason .lease s =
    let free : Sch := { s.sch with hold := { s.sch.hold with lease := false } }
    if s.sch.hold.lease = true ∧ free.hold.isEmpty = true then pass (s.setSch free) else s.setSch free := by
  by_cases hl : s.sch.hold.lease = true
  · have hhas : s.sch.hold.has .lease = true := hl
    rw [removeReason, if_pos hhas]
    exact if_congr (and_iff_right hl).symm rfl rfl
  · have hself : ({ s.sch with hold := { s.sch.hold with lease := false } } : Sch) = s.sch := by
      rw [← Bool.eq_false_iff.2 hl]
    rw [removeReason_of_absent (r := .lease) (Bool.eq_false_iff.2 hl)]
    dsimp only
    rw [if_neg fun hc => hl hc.1, hself]
    exact (State.setSch_self s).symm

/-- Settles O27: the checks of LEASE-CONFIG in their order, and the new run of LEASE-RESUME with the removal of LEASE. -/
theorem leaseRequests : Obligations.LeaseRequests := by
  intro h s hq
  refine ⟨fun w f => ?_, fun hl => ?_, fun hl => ?_⟩
  · rw [exec_leaseConfig hq]
    simp only [served, answer, answerLeaseConfig, begun_loading, begun_lsm, Lsm.renew_state, requestCode]
    by_cases hload : s.loading = true
    · rw [if_pos hload, if_pos hload]; rfl
    · by_cases he : s.lsm.state = .expired
      · rw [if_neg hload, if_neg hload, if_pos he, if_pos he]; rfl
      · rw [if_neg hload, if_neg hload, if_neg he, if_neg he, readLease]
        cases Fallback.ofCode f with
        | none => rfl
        | some x =>
          by_cases hw : w.toNat ≤ 600
          · simp only [hw, if_true, decide_true, Lsm.renew_period, Lsm.renew_fallback]; rfl
          · simp only [hw, if_false, decide_false]; rfl
  · rw [exec_leaseResume hq, served_leaseResume_of_running hl]
  · have hstate : (if 0 < s.lsm.period then LeaseState.running else .disabled) =
        if s.lsm.period = 0 then .disabled else .running := by
      by_cases hp : s.lsm.period = 0 <;> simp [hp, Nat.pos_iff_ne_zero]
    rw [exec_leaseResume hq, served_leaseResume_of_expired hl, removeReason_lease, hstate]
    simp only [State.setLsm_sch, begun_sch]
    rfl

end Sys2Proof.Machine

/-! ## A good frame reaches its handler -/

namespace Sys2Proof.Machine

section
variable {s : State} (hs : Listening s)
include hs

/-- A whole good frame at a listening receiver is handled by its KIND (R163, R165). -/
theorem Listening.receiveBytes (kind q : Byte) {p : List Byte} (hp : p.length ≤ 250) :
    receiveBytes (frameBytes kind q p) s = goodFrame kind q p s :=
  receiveBytes_frameBytes hs.rx hs.backlog hp

/-- A row that only sends a frame, on a listening part. -/
theorem Listening.whenPowered (f : State → State) : whenPowered f s = .next (f s) := by
  rw [Machine.whenPowered, if_pos hs.power]

theorem exec_frameEnqueue (h : FrameHead) {p : List Byte} (hp : p.length ≤ 250) (take : Taking) :
    exec (.frameEnqueue h p take) s = .next (takeHeads take (offerFrame ⟨h, p⟩ (renewLease s))) := by
  obtain ⟨kind, q⟩ := h
  have hgood : goodFrame kind.byte q p s = offerFrame ⟨⟨kind, q⟩, p⟩ (renewLease s) := by cases kind <;> rfl
  calc exec (.frameEnqueue ⟨kind, q⟩ p take) s
      = .next (takeHeads take (Machine.receiveBytes (frameBytes kind.byte q p) s)) :=
        hs.whenPowered fun x => takeHeads take (Machine.receiveBytes (frameBytes kind.byte q p) x)
    _ = _ := by rw [hs.receiveBytes kind.byte q hp, hgood]

theorem exec_credit (q : Byte) {p : List Byte} (hp : p.length ≤ 250) :
    exec (.credit q p) s = .next (creditFrame p (renewLease s)) := by
  calc exec (.credit q p) s = .next (Machine.receiveBytes (frameBytes 0x03 q p) s) := hs.whenPowered _
    _ = _ := by rw [hs.receiveBytes 0x03 q hp]; rfl

theorem exec_linkReset (q : Byte) {p : List Byte} (hp : p.length ≤ 250) :
    exec (.linkReset q p) s = .next (if p = [] then linkReset q (renewLease s) else countFraming (renewLease s)) := by
  calc exec (.linkReset q p) s = .next (Machine.receiveBytes (frameBytes 0x04 q p) s) := hs.whenPowered _
    _ = _ := by rw [hs.receiveBytes 0x04 q hp]; rfl

theorem exec_frameUnknownKind (kind q : Byte) {p : List Byte} (hp : p.length ≤ 250) :
    exec (.frameUnknownKind kind q p) s = .next (goodFrame kind q p s) := by
  calc exec (.frameUnknownKind kind q p) s = .next (Machine.receiveBytes (frameBytes kind q p) s) := hs.whenPowered _
    _ = _ := by rw [hs.receiveBytes kind q hp]

end

/-- A good frame of an unknown kind is counted as framing (R165). -/
theorem goodFrame_unknownKind {kind : Byte} (hk : unknownKind kind = true) (q : Byte) (p : List Byte) (s : State) :
    goodFrame kind q p s = countFraming (renewLease s) := by
  simp only [unknownKind, Bool.and_eq_true, bne_iff_ne, ne_eq, ← BitVec.toNat_inj] at hk
  obtain ⟨⟨⟨h1, h2⟩, h3⟩, h4⟩ := hk
  unfold goodFrame
  dsimp only
  split
  · exact absurd ‹_› h1
  · exact absurd ‹_› h2
  · exact absurd ‹_› h3
  · exact absurd ‹_› h4
  · rfl

/-- A CREDIT frame of one byte from 1 to 32 adds its credits (R174). -/
theorem creditFrame_of_inRange {n : Byte} (hlow : 1 ≤ n.toNat) (hhigh : n.toNat ≤ 32) (s : State) :
    creditFrame [n] s = addCredits n.toNat s := if_pos ⟨hlow, hhigh⟩

/-- Any other CREDIT frame is counted as framing (R165). -/
theorem creditFrame_of_outOfRange {p : List Byte} (hp : ∀ n : Byte, p = [n] → n.toNat = 0 ∨ 32 < n.toNat) (s : State) :
    creditFrame p s = countFraming s := by
  match p, hp with
  | [], _ => rfl
  | [n], hp =>
    have := hp n rfl
    exact if_neg (show ¬(1 ≤ n.toNat ∧ n.toNat ≤ 32) by omega)
  | _ :: _ :: _, _ => rfl

/-- A frame offered to the inbound queue joins it, or is counted where four stand in it already (R166). -/
theorem offerFrame_eq (f : HostFrame) (s : State) : offerFrame f s =
    s.setLnk (if s.lnk.inbound.length < 4 then { s.lnk with inbound := s.lnk.inbound ++ [f] }
      else { s.lnk with counters := { s.lnk.counters with overflow := min 65535 (s.lnk.counters.overflow + 1) } }) := by
  unfold offerFrame
  by_cases hroom : s.lnk.inbound.length < 4
  · rw [if_pos hroom, if_pos hroom]
  · rw [if_neg hroom, if_neg hroom]; rfl

/-- Settles O29: each row is the good frame of its kind, whose handler follows the renewal of the lease. -/
theorem goodFramesReachTheirHandler : Obligations.GoodFramesReachTheirHandler := by
  intro q s hs
  refine ⟨fun h p hp => ⟨?_, fun take => ?_⟩, fun n hlow hhigh => ?_, fun p hp hbad => ?_, fun p hp hne => ?_,
    fun kind p hp hk => ?_⟩
  · rw [exec_frameEnqueue hs h hp, offerFrame_eq]; rfl
  · rw [exec_frameEnqueue hs h hp, offerFrame_eq]; rfl
  · rw [exec_credit hs q (by simp), creditFrame_of_inRange hlow hhigh]; rfl
  · rw [exec_credit hs q hp, creditFrame_of_outOfRange hbad]; rfl
  · rw [exec_linkReset hs q hp, if_neg hne]; rfl
  · rw [exec_frameUnknownKind hs kind q hp, goodFrame_unknownKind hk]; rfl

end Sys2Proof.Machine

/-! ## The transmitter's choice, case by case -/

namespace Sys2Proof.Machine

namespace Lnk

variable {k : Lnk}

/-- The oldest reply goes before every notice. -/
theorem choose_of_reply (ht : k.tx = .idle) (hr : k.replies ≠ []) : k.choose = { k with tx := .reply } := by
  simp [Lnk.choose, ht, hr]

/-- With nothing to send, or no credit for a notice, the transmitter stays idle. -/
theorem choose_of_nothing (hr : k.replies = []) (hn : k.notices = [] ∨ k.credits = 0) : k.choose = k := by
  obtain ⟨e, -⟩ | ⟨-, -, hr'⟩ | ⟨q, n, rest, -, -, -, hn', hc⟩ := k.choose_cases
  · exact e
  · exact absurd hr hr'
  · obtain hn | hn := hn
    · rw [hn] at hn'; cases hn'
    · omega

/-- The oldest notice leaves the queue against a credit. -/
theorem choose_of_notice (ht : k.tx = .idle) (hr : k.replies = []) {q : Byte} {n : Notice} {rest : List (Byte × Notice)}
    (hn : k.notices = (q, n) :: rest) (hc : 0 < k.credits) :
    k.choose = Lnk.reportLost { k with tx := .notice q n, notices := rest, credits := k.credits - 1 } := by
  simp [Lnk.choose, ht, hr, hn, hc]

/-- The transmitter's choice does not look at the bytes to be scanned. -/
theorem choose_with_backlog (k : Lnk) (bs : List Byte) :
    Lnk.choose { k with backlog := bs } = { k.choose with backlog := bs } := by
  have hreport : ∀ j : Lnk, Lnk.reportLost { j with backlog := bs } = { j.reportLost with backlog := bs } := by
    intro j
    unfold Lnk.reportLost
    dsimp only
    split <;> rfl
  obtain ⟨e, hidle | ⟨hr, hn⟩⟩ | ⟨e, ht, hr⟩ | ⟨q, n, rest, e, ht, hr, hn, hc⟩ := k.choose_cases <;> rw [e]
  · exact choose_of_busy hidle
  · exact choose_of_nothing hr hn
  · exact choose_of_reply ht hr
  · exact (choose_of_notice (k := { k with backlog := bs }) ht hr hn hc).trans
      (hreport { k with tx := .notice q n, notices := rest, credits := k.credits - 1 })

end Lnk

end Sys2Proof.Machine

/-! ## What the blocks do to the link: they post notices -/

namespace Sys2Proof.Machine

/-- The link after a post: the notice is queued, declined or lost, and an idle transmitter looks at the queue (R172, R173). -/
def Lnk.posted (k : Lnk) (n : Notice) : Lnk := (k.enqueue n).choose

/-- What one post keeps, any run of posts keeps. -/
theorem Lnk.foldl_posted_keeps {Q : Lnk → Prop} (hQ : ∀ k n, Q k → Q (k.posted n)) (ns : List Notice) {k : Lnk} (hk : Q k) :
    Q (ns.foldl Lnk.posted k) := by
  induction ns generalizing k with
  | nil => exact hk
  | cons n ns ih => exact ih (hQ k n hk)

/-- From `s` to `t` nothing happened to the link but posts of notices (R173). -/
def State.Posts (s t : State) : Prop := ∃ ns : List Notice, t.lnk = ns.foldl Lnk.posted s.lnk

namespace State.Posts

variable {s₀ s : State}

theorem refl (s : State) : s.Posts s := ⟨[], rfl⟩

/-- What one post keeps of the link is kept. -/
theorem keeps {Q : Lnk → Prop} (h : s₀.Posts s) (hQ : ∀ k n, Q k → Q (k.posted n)) (h₀ : Q s₀.lnk) : Q s.lnk := by
  obtain ⟨ns, hns⟩ := h
  rw [hns]
  exact Lnk.foldl_posted_keeps hQ ns h₀

/-- A change beside the link. -/
theorem of_eq (h : s₀.Posts s) {t : State} (ht : t.lnk = s.lnk) : s₀.Posts t := by
  obtain ⟨ns, hns⟩ := h
  exact ⟨ns, ht.trans hns⟩

theorem setTmb (h : s₀.Posts s) (x : Tmb) : s₀.Posts (s.setTmb x) := h.of_eq rfl
theorem setSch (h : s₀.Posts s) (x : Sch) : s₀.Posts (s.setSch x) := h.of_eq rfl
theorem setRds (h : s₀.Posts s) (x : Rds) : s₀.Posts (s.setRds x) := h.of_eq rfl
theorem setPrs (h : s₀.Posts s) (x : Prs) : s₀.Posts (s.setPrs x) := h.of_eq rfl
theorem setLsm (h : s₀.Posts s) (x : Lsm) : s₀.Posts (s.setLsm x) := h.of_eq rfl

theorem post (h : s₀.Posts s) (n : Notice) : s₀.Posts (post n s) := by
  obtain ⟨ns, hns⟩ := h
  exact ⟨ns ++ [n], by rw [List.foldl_append, ← hns]; rfl⟩

theorem postOwn (h : s₀.Posts s) (n : Option Notice) : s₀.Posts (postOwn n s) := by
  cases n with
  | none => exact h
  | some n => exact h.post n

/-! ### The Scheduler and the Time Base -/

theorem takeEntry (h : s₀.Posts s) (e : Entry) : s₀.Posts (takeEntry e s) := by
  obtain he | ⟨n, he⟩ := takeEntry_lnk e s
  · exact h.of_eq he
  · exact (h.post n).of_eq he

theorem passSome (h : s₀.Posts s) (k : Nat) : s₀.Posts (passSome k s) := by
  have hloop : ∀ k (u : State), s₀.Posts u → s₀.Posts (passLoop k u) := by
    intro k
    induction k with
    | zero => exact fun _ hu => hu
    | succ k ih =>
      intro u hu
      obtain e | ⟨e, -, he⟩ := passLoop_cases k u
      · rw [e]; exact hu
      · rw [he]; exact ih _ (hu.takeEntry e)
  unfold Machine.passSome
  split
  · exact hloop k s h
  · exact h

theorem pass (h : s₀.Posts s) : s₀.Posts (pass s) := h.passSome _

theorem passAround (h : s₀.Posts s) (k : Nat) (n : Option Notice) : s₀.Posts (passAround k n s) :=
  ((h.passSome k).postOwn n).pass

theorem removeReasonAround (h : s₀.Posts s) (r : HoldReason) (k : Nat) (n : Option Notice) :
    s₀.Posts (removeReasonAround r k n s) := by
  have hput : s₀.Posts (s.setSch { s.sch with hold := s.sch.hold.put r false }) := h.setSch _
  unfold Machine.removeReasonAround
  dsimp only
  split
  · split
    · exact hput.passAround k n
    · exact hput.postOwn n
  · exact h.postOwn n

theorem removeReason (h : s₀.Posts s) (r : HoldReason) : s₀.Posts (removeReason r s) := by
  have hput : s₀.Posts (s.setSch { s.sch with hold := s.sch.hold.put r false }) := h.setSch _
  unfold Machine.removeReason
  dsimp only
  split
  · split
    · exact hput.pass
    · exact hput
  · exact h

theorem insertAndPass (h : s₀.Posts s) (e : Entry) : s₀.Posts (insertAndPass e s) := by
  have hin := h.setSch (s.sch.insertNew e)
  unfold Machine.insertAndPass passIfDue
  split
  · exact hin.pass
  · exact hin

theorem setValidity (h : s₀.Posts s) (v : Validity) (c : ValidityCause) (k : Nat) : s₀.Posts (setValidity v c k s) := by
  have hset : s₀.Posts (s.setTmb { s.tmb with validity := v }) := h.setTmb _
  unfold Machine.setValidity
  dsimp only
  split
  · exact h
  · split
    · exact (hset.postOwn _).of_eq rfl
    · split
      · exact hset.removeReasonAround _ _ _
      · exact hset.postOwn _

theorem postDiscards (h : s₀.Posts s) (es : List Entry) : s₀.Posts (postDiscards es s) := by
  refine foldl_keeps (f := fun x e => postDiscard e x) (fun e u hu => ?_) es s h
  unfold postDiscard
  split
  · exact hu.post _
  · exact hu

/-- A step posts its TIME-STEP, the discards, the TIME-STATE and what its pass reports (R15, R60 to R62). -/
theorem stepWith (h : s₀.Posts s) (new : Instant) (c : StepCause) (d : Option ValidityChange) (k : Nat) :
    s₀.Posts (stepWith new c d k s) := by
  have hreported : s₀.Posts (stepReported new c d s) := ((h.setTmb _).post _).setRds _
  have hgone : ∀ (gone : List Entry) (u : State), s₀.Posts u → s₀.Posts (postGone gone k (s.changeNotice new d) u) := by
    intro gone u hu
    unfold postGone
    split
    · exact ((hu.postDiscards _).postOwn _).postDiscards _
    · exact (hu.postDiscards _).postDiscards _
  have hshifted : s₀.Posts (stepShifted new c d k s) := (hgone _ _ (hreported.setSch _)).setSch _
  rw [stepWith_eq_passAround]
  exact hshifted.passAround _ _

theorem advanceInstant (h : s₀.Posts s) (k : Nat) : s₀.Posts (advanceInstant k s) := by
  have hset := h.setTmb s.tmb.advance.settled
  have hreport : s₀.Posts (reportAdvance k s) := by
    unfold reportAdvance
    split
    · exact hset.passAround _ _
    · exact hset.postOwn _
  rw [advanceInstant_eq]
  split
  · exact hreport.of_eq rfl
  · exact hreport

/-! ### The Capture Log and the Trigger Table -/

theorem edgeToLog (h : s₀.Posts s) (e : EdgeReport) : s₀.Posts (edgeToLog e s) := by
  have hpending : ∀ c, s₀.Posts (pendingAfterStore (s.setCap c)) := by
    intro c
    rw [pendingAfterStore_setCap]
    split
    · exact (h.of_eq (t := s.setCap { c with armed := false }) rfl).post _
    · exact h.of_eq rfl
  unfold Machine.edgeToLog captureEdge
  dsimp only
  split
  · split
    · exact hpending _
    · split
      · exact h.of_eq rfl
      · exact hpending _
  · exact h

theorem installCaptureConfig (h : s₀.Posts s) (p : CapPolicy) (m : Nat) : s₀.Posts (installCaptureConfig p m s) := by
  have hcap : ∀ c, s₀.Posts (s.setCap c) := fun _ => h.of_eq rfl
  rw [installCaptureConfig_eq]
  dsimp only
  split
  · exact hcap _
  · split
    · exact (hcap _).post _
    · exact hcap _

theorem offerEdge (h : s₀.Posts s) (e : EdgeReport) (n : TrigNo) : s₀.Posts (offerEdge e n s) := by
  have hfire : ∀ x, s₀.Posts (fireTrigger n x e s) := by
    intro x
    by_cases hroom : s.sch.entries.length < 128
    · have hset : s₀.Posts ((Machine.insertAndPass (x.entry n e) s).setTrigger n (some x.afterFiring)) :=
        (h.insertAndPass _).of_eq rfl
      rw [fireTrigger_of_room hroom]
      split
      · exact hset.post _
      · exact hset
    · rw [fireTrigger_of_full (not_lt.1 hroom)]
      exact (h.of_eq (t := s.setTrigger n (some x.afterOverrun)) rfl).post _
  unfold Machine.offerEdge
  split
  · exact h
  · split
    · exact hfire _
    · exact h

theorem handToTriggers (h : s₀.Posts s) (e : EdgeReport) (order : EdgeOrder) : s₀.Posts (handToTriggers e order s) := by
  refine foldl_keeps (f := fun x n => Machine.offerEdge e n (logAt n e order x)) (fun n u hu => offerEdge ?_ e n) _ s h
  unfold logAt
  split
  · exact hu.edgeToLog e
  · exact hu

/-! ### The Reference Discipline -/

theorem claimHoldover (h : s₀.Posts s) (c : ValidityCause) : s₀.Posts (claimHoldover c s) := by
  unfold Machine.claimHoldover
  split
  · exact h.setValidity _ _ _
  · exact h

theorem settleSample (h : s₀.Posts s) (offset : Int) (g : W16) (k : Nat) : s₀.Posts (settleSample offset g k s).1 := by
  have hrun : ∀ n, s₀.Posts (s.setRds { s.rds with run := n }) := fun _ => h.of_eq rfl
  have haccepted : s₀.Posts (steerAccepted offset s) := by
    have hslew : s₀.Posts (claimSlew (correctionOf offset) (s.setRds { s.rds with run := 0 })) := by
      unfold claimSlew
      split <;> exact (hrun 0).of_eq rfl
    unfold steerAccepted claimTracking
    split
    · exact hslew
    · exact hslew.setValidity _ _ _
  have houtlier : s₀.Posts (steerOutlier offset k s).1 := by
    unfold steerOutlier claimStep
    dsimp only
    split
    · exact hrun _
    · split
      · exact (hrun _).of_eq rfl
      · exact ((hrun _).stepWith _ _ _ _).of_eq rfl
  unfold Machine.settleSample
  split
  · exact h
  · split
    · split
      · exact haccepted
      · exact houtlier
    all_goals exact h

theorem referenceEdge (h : s₀.Posts s) (e : EdgeReport) (k : Nat) : s₀.Posts (referenceEdge e k s) := by
  have hactive : s₀.Posts (s.setRds { s.rds with count := 0, state := .active }) := h.of_eq rfl
  unfold Machine.referenceEdge
  split
  · exact h
  · exact (hactive.settleSample _ _ _).of_eq rfl

theorem referenceTick (h : s₀.Posts s) : s₀.Posts (referenceTick s) := by
  have hrds : ∀ r, s₀.Posts (s.setRds r) := fun _ => h.of_eq rfl
  unfold Machine.referenceTick declareLoss
  dsimp only
  split
  · refine post ?_ _
    split
    · exact (hrds { s.rds with count := s.rds.counted, state := .lost, run := 0 }).claimHoldover _
    · exact (hrds _).of_eq rfl
  · exact hrds _

theorem installRefConfig (h : s₀.Posts s) (c : RefConfig) : s₀.Posts (installRefConfig c s) := by
  rw [installRefConfig_eq]
  split
  · exact (h.claimHoldover _).of_eq rfl
  · exact h.of_eq rfl

theorem refRemoved (h : s₀.Posts s) : s₀.Posts (refRemoved s) := by
  have hidle : s₀.Posts (s.setRds { s.rds with line := none, run := 0, state := .idle, count := 0 }) := h.of_eq rfl
  unfold Machine.refRemoved
  dsimp only
  split
  · exact hidle.claimHoldover _
  · exact hidle

/-! ### The Line Unit -/

theorem handOn (h : s₀.Posts s) (e : EdgeReport) (order : EdgeOrder) : s₀.Posts (handOn e order s) := by
  have htrig := h.handToTriggers e order
  unfold Machine.handOn
  split
  · dsimp only
    split
    · exact htrig.edgeToLog e
    · exact htrig
  · split
    · exact (h.edgeToLog e).referenceEdge e _
    · exact (h.referenceEdge e _).edgeToLog e
  all_goals exact h.edgeToLog e

theorem acceptRun (h : s₀.Posts s) (n : LineNo) (order : EdgeOrder) : s₀.Posts (acceptRun n order s) := by
  have hset : ∀ l, s₀.Posts (s.setLine n l) := fun _ => h.of_eq rfl
  unfold Machine.acceptRun
  split
  · exact h
  · exact (hset _).handOn _ order

theorem lineTick (h : s₀.Posts s) (n : LineNo) (accept : Option EdgeOrder) : s₀.Posts (lineTick n accept s) := by
  have hsample : ∀ f, s₀.Posts (sampleLine n f s) := fun _ => h.of_eq rfl
  unfold Machine.lineTick
  split
  · split
    · exact hsample _
    · exact (hsample _).acceptRun n _
  · exact h.of_eq rfl

/-- The installation of a configuration posts what the giving up of the reference line posts (R72, R114). -/
theorem configureLine (h : s₀.Posts s) (n : LineNo) (c : LineConfig) : s₀.Posts (configureLine n c s) := by
  have hgiven : s₀.Posts (s.givenUp n c) := by
    unfold State.givenUp
    split
    · exact h.refRemoved
    · exact h
  obtain ⟨-, hlnk, -⟩ := configureLine_frame n c s
  exact hgiven.of_eq hlnk

theorem installLines (h : s₀.Posts s) (cs : Vector LineConfig 16) : s₀.Posts (installLines cs s) :=
  foldl_keeps (f := fun x (n : LineNo) => Machine.configureLine n cs[n] x) (fun n _ hu => hu.configureLine n _) _ s h

theorem allLinesOff (h : s₀.Posts s) : s₀.Posts (allLinesOff s) := by
  have hoff : s₀.Posts (s.setLin (s.lin.map fun l => l.configured LineConfig.off)) := h.of_eq rfl
  rw [allLinesOff_eq]
  dsimp only
  split
  · exact hoff.refRemoved
  · exact hoff

/-! ### The Lease Monitor and the Profile Store -/

theorem expireLease (h : s₀.Posts s) : s₀.Posts (expireLease s) := by
  unfold Machine.expireLease applyFallback
  refine post ?_ _
  split <;> exact h.of_eq rfl

theorem setDesc (h : s₀.Posts s) (slot : Slot) (d : Descriptor) : s₀.Posts (s.setDesc slot d) := h.of_eq (s.setDesc_lnk slot d)

theorem endOperation (h : s₀.Posts s) (body : ProfileDone) : s₀.Posts (endOperation body s) := (h.setPrs _).post _

theorem endLoad (h : s₀.Posts s) (body : ProfileDone) : s₀.Posts (endLoad body s) :=
  ((h.setPrs _).removeReason _).post _

theorem finishCommand (h : s₀.Posts s) : s₀.Posts (finishCommand s) := by
  unfold Machine.finishCommand
  split <;> exact h.of_eq rfl

theorem cutCommand (h : s₀.Posts s) : s₀.Posts (cutCommand s) := by
  unfold Machine.cutCommand
  split <;> exact h.of_eq rfl

/-- A stage of a load (R138). -/
theorem runStage (h : s₀.Posts s) (st : LoadStage) : s₀.Posts (runStage st s) := by
  cases st with
  | dropTriggers | dropEntries | installTolerance _ | installTriggers _ => exact h.of_eq rfl
  | linesOff => exact h.allLinesOff
  | installLines cs => exact h.installLines cs
  | installCapture p m => exact h.installCaptureConfig p m
  | installDiscipline c => exact h.installRefConfig c
  | installLease p f =>
    change s₀.Posts (installLease p f s)
    rw [installLease_eq]
    exact h.of_eq rfl
  | insertEntry e =>
    obtain ⟨hnone, hsome⟩ := runStage_insertEntry s e
    cases hj : e.judge s.tmb.validity s.now with
    | none => rw [hnone hj]; exact h
    | some x => rw [hsome x hj]; exact h.insertAndPass x

theorem loadSteps (h : s₀.Posts s) (k : Nat) : s₀.Posts (loadSteps k s) := by
  induction k generalizing s with
  | zero => exact h
  | succ k ih =>
    refine ih ?_
    unfold loadStep
    split
    · split
      · exact h.endLoad _
      · exact (h.runStage _).setPrs _
    · exact h

theorem startUpValidated (h : s₀.Posts s) : s₀.Posts (startUpValidated s) := by
  have hboth : s₀.Posts (recordSlot .b (recordSlot .a s)) := (h.setDesc _ _).setDesc _ _
  unfold Machine.startUpValidated
  dsimp only
  split
  · exact hboth.endLoad _
  · split
    · exact hboth
    · exact hboth.setPrs _

theorem requestedValidated (h : s₀.Posts s) : s₀.Posts (requestedValidated s) := by
  have hone : ∀ slot, s₀.Posts (recordSlot slot s) := fun _ => h.setDesc _ _
  unfold Machine.requestedValidated
  dsimp only
  split
  · exact (hone _).setPrs _
  · split
    · exact ((hone _).setDesc _ _).setPrs _
    · exact ((hone _).setDesc _ _).endLoad _

theorem loadValidated (h : s₀.Posts s) (k : Nat) : s₀.Posts (loadValidated k s) := by
  unfold Machine.loadValidated
  split
  · exact h.startUpValidated.loadSteps k
  · exact h.requestedValidated.loadSteps k
  · exact h.loadSteps k
  · exact h

theorem scanned (h : s₀.Posts s) : s₀.Posts (scanned s) := by
  unfold Machine.scanned
  split
  · exact (((h.setDesc _ _).setDesc _ _).setPrs _).post _
  · exact h

theorem saveErased (h : s₀.Posts s) : s₀.Posts (saveErased s) := by
  unfold Machine.saveErased
  split
  · split
    · exact h
    · exact h.finishCommand.setPrs _
  · exact h

theorem pageProgrammed (h : s₀.Posts s) (flaws : List (Fin 256 × Byte)) : s₀.Posts (pageProgrammed flaws s) := by
  have hcells : ∀ m, s₀.Posts ((Machine.finishCommand s).setCells m) := fun _ => h.finishCommand.of_eq rfl
  unfold Machine.pageProgrammed
  split
  · dsimp only
    split <;> exact (hcells _).setPrs _
  · exact h

theorem saveVerified (h : s₀.Posts s) : s₀.Posts (saveVerified s) := by
  unfold Machine.saveVerified succeedSave
  split
  · split
    · split
      · exact h
      · exact (h.setDesc _ _).endOperation _
    · exact h.setPrs _
  · exact h

theorem recoveryErased (h : s₀.Posts s) : s₀.Posts (recoveryErased s) := by
  unfold Machine.recoveryErased
  split
  · exact h.finishCommand.endOperation _
  · exact h

theorem slotErased (h : s₀.Posts s) : s₀.Posts (slotErased s) := by
  unfold Machine.slotErased
  split
  · exact h.finishCommand.setPrs _
  · exact h.finishCommand.endOperation _
  · exact h

theorem flashTimedOut (h : s₀.Posts s) : s₀.Posts (flashTimedOut s) := by
  have hc := h.cutCommand
  unfold Machine.flashTimedOut
  split
  · exact hc.endOperation _
  · split
    · exact hc.setPrs _
    · exact hc.endOperation _
  · exact hc.endOperation _
  · exact (hc.setDesc _ _).endOperation _
  · exact hc.endOperation _
  all_goals exact h

/-! ### The requests -/

/-- Every request but a LINK-STATUS that clears the counters: its owner posts notices, and does nothing else to the link. -/
theorem answer (h : s₀.Posts s) {r : Request} (hr : r ≠ .linkStatus true) (k : Nat) : s₀.Posts (answer r k s).state := by
  unfold Machine.answer
  cases r with
  | ident | restart | timeRead | actList _ | schedStatus | capRead | trgStatus | refStatus | profStatus | leaseStatus => exact h
  | schedHold | profLock | capAck _ => exact h.of_eq rfl
  | schedRelease => exact h.removeReason _
  | linkStatus clear => cases clear with
    | false => exact h
    | true => exact absurd rfl hr
  | lineStatus clear => cases clear <;> exact h.of_eq rfl
  | timeSet _ =>
    dsimp only [answerTimeSet]
    split
    · exact h
    · exact h.stepWith _ _ _ _
  | timeAdjust _ _ =>
    dsimp only [answerTimeAdjust, answerAdjustStep, answerAdjustSlew]
    repeat' split
    any_goals exact h.of_eq rfl
    exact h.stepWith _ _ _ _
  | timeClear =>
    dsimp only [answerTimeClear, Answer.ok]
    split
    · exact h
    · exact (h.setTmb _).setValidity _ _ _
  | actAdd _ =>
    dsimp only [answerActAdd]
    repeat' split
    any_goals exact h
    exact h.insertAndPass _
  | lineConfig _ _ =>
    dsimp only [answerLineConfig]
    repeat' split
    any_goals exact h
    exact h.configureLine _ _
  | capConfig _ _ =>
    dsimp only [answerCapConfig]
    repeat' split
    any_goals exact h
    exact h.installCaptureConfig _ _
  | refConfig _ =>
    dsimp only [answerRefConfig]
    repeat' split
    any_goals exact h
    exact h.installRefConfig _
  | profSave =>
    dsimp only [answerProfSave]
    repeat' split
    any_goals exact h
    exact (h.setDesc _ _).setPrs _
  | leaseResume =>
    dsimp only [answerLeaseResume, Answer.ok]
    split
    · exact (h.setLsm _).removeReason _
    · exact h
  | trimSet _ | actCancel _ | actPurge _ _ | actGet _ | schedConfig _ | lineDrive _ _ _ | trgSet _ | trgArm _ _
  | trgDisarm _ | trgClear _ | profLoad | profErase | leaseConfig _ _ =>
    dsimp only [answerTrimSet, answerActCancel, answerActPurge, answerActGet, answerSchedConfig, answerLineDrive,
      answerTrgSet, answerTrgArm, answerTrgDisarm, answerTrgClear, answerProfLoad, answerProfErase, answerLeaseConfig]
    repeat' split
    all_goals exact h.of_eq rfl

end State.Posts

/-- What one post and the clearing of the counters keep of the link, every request keeps (R170, R178). -/
theorem answer_keeps_link {Q : Lnk → Prop} (hpost : ∀ k n, Q k → Q (k.posted n))
    (hclear : ∀ k, Q k → Q { k with counters := Counters.zero }) (r : Request) (after : Nat) {s : State} (hs : Q s.lnk) :
    Q (answer r after s).state.lnk := by
  by_cases hr : r = .linkStatus true
  · subst hr
    exact hclear _ hs
  · exact ((State.Posts.refl s).answer hr after).keeps hpost hs

end Sys2Proof.Machine

/-! ## The link stays in its limits -/

namespace Sys2Proof.Machine

/-! ### Queues and counts -/

/-- The limits of the link's queues and counts, and E one above L, whatever the receiver and the transmitter are at (R166, R167,
R172 to R174, R178). -/
structure Lnk.InLimits (k : Lnk) : Prop where
  credits  : k.credits ≤ Config.creditMax
  notices  : k.notices.length ≤ Config.noticeMax
  inbound  : k.inbound.length ≤ Config.inboundMax
  replies  : k.replies.length ≤ Config.replyMax
  lost     : k.lost ≤ Config.countMax
  counters : k.counters.inRange
  pending  : (k.notices.filter fun q => q.2.isCapturePending).length ≤ 1
  full     : 0 < k.lost → k.notices.length = Config.noticeMax
  seq      : ∀ e l kind, k.seqState = .expecting e l kind → e = l + 1

/-- A link counter that rises stays within its 16 bits (R178). -/
theorem bump_le (n : Nat) : bump n ≤ Config.countMax := Nat.min_le_left _ _

theorem Counters.zero_inRange : Counters.zero.inRange := by unfold Counters.inRange; decide

namespace Lnk.InLimits

variable {k : Lnk}

/-- A notice is queued where there is room, and a second CAPTURE-PENDING never (R173). -/
theorem enqueue (h : k.InLimits) (n : Notice) : (k.enqueue n).InLimits := by
  unfold Lnk.enqueue
  split
  · exact h
  · rename_i hsecond
    split
    · rename_i hfull
      exact { h with lost := Nat.min_le_left _ _, full := fun _ => le_antisymm h.notices hfull }
    · rename_i hroom
      refine { h with notices := ?_, pending := ?_, full := fun hl => absurd (h.full hl).ge hroom }
      · simp only [List.length_append, List.length_singleton]
        omega
      · cases hn : n.isCapturePending with
        | false => simpa [List.filter_append, hn] using h.pending
        | true =>
          have hnone : (k.notices.filter fun q => q.2.isCapturePending) = [] := by
            simpa [List.filter_eq_nil_iff, hn] using hsecond
          simp [List.filter_append, hnone, hn]

/-- The oldest notice leaves the queue against a credit, and NOTICES-LOST takes the place where notices were lost (R172 to R174). -/
theorem reportLost (h : k.InLimits) {q : Byte} {n : Notice} {rest : List (Byte × Notice)} (hn : k.notices = (q, n) :: rest) :
    (Lnk.reportLost { k with tx := .notice q n, notices := rest, credits := k.credits - 1 }).InLimits := by
  have hlen : rest.length < Config.noticeMax := by simpa [hn] using h.notices
  have hpending : (rest.filter fun q => q.2.isCapturePending).length ≤ 1 := by
    have hsub : rest.Sublist k.notices := hn ▸ List.sublist_cons_self _ rest
    exact (hsub.filter _).length_le.trans h.pending
  have hcredits : k.credits - 1 ≤ Config.creditMax := (Nat.sub_le _ _).trans h.credits
  unfold Lnk.reportLost
  dsimp only
  split
  · refine { h with credits := hcredits, notices := ?_, pending := ?_, lost := Nat.zero_le _, full := nofun }
    · simp only [List.length_append, List.length_singleton]
      omega
    · simpa [List.filter_append, Notice.isCapturePending] using hpending
  · rename_i hnone
    exact { h with credits := hcredits, notices := hlen.le, pending := hpending, full := fun hl => absurd ⟨hl, hlen⟩ hnone }

theorem choose (h : k.InLimits) : k.choose.InLimits := by
  obtain ⟨e, -⟩ | ⟨e, -⟩ | ⟨q, n, rest, e, -, -, hn, -⟩ := k.choose_cases <;> rw [e]
  · exact h
  · exact { h with }
  · exact h.reportLost hn

end Lnk.InLimits

/-! ### The transmitter -/

/-- The transmitter sends a reply only with one in the buffer, and does not wait for one (R170, R172). -/
def Lnk.txFree (k : Lnk) : Prop := k.tx ≠ .forReply ∧ (k.tx = .reply → k.replies ≠ [])

theorem Lnk.txFits.txFree {k : Lnk} (h : k.txFits) : k.txFree := by
  unfold Lnk.txFits at h
  constructor <;> intro ht <;> rw [ht] at h <;> exact h

/-- Having looked at the queues, the transmitter is idle only with no work it may do (R172). -/
theorem Lnk.choose_txFits {k : Lnk} (h : k.txFree) : k.choose.txFits := by
  obtain ⟨hwait, hreply⟩ := h
  obtain ⟨e, hidle⟩ | ⟨e, -, hr⟩ | ⟨q, n, rest, e, -⟩ := k.choose_cases <;> rw [e]
  · unfold Lnk.txFits
    cases ht : k.tx with
    | idle => exact hidle.resolve_left (absurd ht)
    | reply => exact hreply ht
    | notice q n => trivial
    | forReply => exact hwait ht
  · exact hr
  · simp [Lnk.txFits]

/-- The link in its limits and its transmitter at work where it may be, with the receiver and the bytes to be scanned again as `R`
says. -/
structure Lnk.Sound (R : Receiver → List Byte → Prop) (k : Lnk) : Prop extends k.InLimits where
  tx   : k.txFits
  scan : R k.rx k.backlog

/-- The link of the claim is a sound one with no byte to be scanned again (R163). -/
theorem Lnk.ok_iff {k : Lnk} : k.ok ↔ k.Sound fun _ bs => bs = [] := by
  constructor
  · rintro ⟨hcredits, hnotices, hinbound, hreplies, hlost, hcounters, hpending, hfull, htx, hseq, hscan⟩
    exact ⟨⟨hcredits, hnotices, hinbound, hreplies, hlost, hcounters, hpending, hfull, hseq⟩, htx, hscan⟩
  · rintro ⟨⟨hcredits, hnotices, hinbound, hreplies, hlost, hcounters, hpending, hfull, hseq⟩, htx, hscan⟩
    exact ⟨hcredits, hnotices, hinbound, hreplies, hlost, hcounters, hpending, hfull, htx, hseq, hscan⟩

namespace Lnk.Sound

variable {R : Receiver → List Byte → Prop} {k : Lnk}

/-- Another receiver, or other bytes to be scanned again. -/
theorem withScan (h : k.Sound R) {Q : Receiver → List Byte → Prop} (hQ : Q k.rx k.backlog) : k.Sound Q := { h with scan := hQ }

theorem posted (h : k.Sound R) (n : Notice) : (k.posted n).Sound R := by
  have hfree : (k.enqueue n).txFree := by simpa [Lnk.txFree] using h.tx.txFree
  exact { (h.toInLimits.enqueue n).choose with
    tx := Lnk.choose_txFits hfree
    scan := by simpa [Lnk.posted] using h.scan }

/-- Other counters that are within their bits. -/
theorem count (h : k.Sound R) {c : Counters} (hc : k.counters.inRange → c.inRange) :
    ({ k with counters := c } : Lnk).Sound R := { h with counters := hc h.counters }

/-- A reply is placed where the buffer has room, and the transmitter looks at it (R166, R172). -/
theorem place (h : k.InLimits) (hfree : k.tx ≠ .forReply) (hR : R k.rx k.backlog) {r : Reply}
    (hroom : k.replies.length < Config.replyMax) : (Lnk.choose { k with replies := k.replies ++ [r] }).Sound R := by
  have hlimits : ({ k with replies := k.replies ++ [r] } : Lnk).InLimits :=
    { h with replies := by simp only [List.length_append, List.length_singleton]; omega }
  exact { hlimits.choose with
    tx := Lnk.choose_txFits ⟨hfree, fun _ => by simp⟩
    scan := by simpa using hR }

end Lnk.Sound

/-- A main reset leaves the link in its limits, with STARTED in transmission (R176). -/
theorem mainReset_link_ok (cause : StartCause) (s : State) : (mainReset cause s).lnk.ok := by
  have hcounters := Counters.zero_inRange
  rw [mainReset_lnk, resetStarted_lnk]
  split <;> split <;>
    exact ⟨(by decide : 1 ≤ 32), by simp [Config.noticeMax], by simp [Lnk.fresh], by simp [Lnk.fresh], by simp [Lnk.fresh], hcounters,
      by simp [Notice.isCapturePending, startUpDone], by simp [Lnk.fresh], trivial, nofun, rfl⟩

/-! ### Frames -/

section
variable {R : Receiver → List Byte → Prop} {s : State}

/-- A main reset leaves nothing to be scanned. -/
theorem mainReset_sound (hR : R .hunt []) (cause : StartCause) (s : State) : (mainReset cause s).lnk.Sound R := by
  obtain ⟨hrx, hback⟩ := mainReset_receiver cause s
  exact (Lnk.ok_iff.1 (mainReset_link_ok cause s)).withScan (by rw [hrx, hback]; exact hR)

theorem countFraming_sound (h : s.lnk.Sound R) : (countFraming s).lnk.Sound R :=
  h.count fun ⟨hc, ht, _, ho, hg, hd⟩ => ⟨hc, ht, bump_le _, ho, hg, hd⟩

theorem offerFrame_sound (h : s.lnk.Sound R) (f : HostFrame) : (offerFrame f s).lnk.Sound R := by
  unfold offerFrame
  split
  · exact { h with inbound := by simp only [State.setLnk_lnk, List.length_append, List.length_singleton]; omega }
  · exact h.count fun ⟨hc, ht, hf, _, hg, hd⟩ => ⟨hc, ht, hf, bump_le _, hg, hd⟩

theorem creditFrame_sound (h : s.lnk.Sound R) (p : List Byte) : (creditFrame p s).lnk.Sound R := by
  have hadd : ∀ n, (addCredits n s).lnk.Sound R := by
    intro n
    have hlimits : ({ s.lnk with credits := min Config.creditMax (s.lnk.credits + n) } : Lnk).InLimits :=
      { h with credits := Nat.min_le_left _ _ }
    exact { hlimits.choose with tx := Lnk.choose_txFits h.tx.txFree, scan := by simpa [addCredits] using h.scan }
  unfold creditFrame
  split
  · split
    · exact hadd _
    · exact countFraming_sound h
  · exact countFraming_sound h

/-- A link reset leaves one reply in hand at most, and its own (R175). -/
theorem linkReset_sound (h : s.lnk.Sound R) (hR : R .hunt []) (seq : Byte) : (linkReset seq s).lnk.Sound R := by
  have hhand : s.lnk.inHand.length ≤ 1 := by
    unfold Lnk.inHand
    split
    · exact List.length_take_le _ _
    · exact Nat.zero_le _
  unfold linkReset
  split
  · exact mainReset_sound hR _ _
  · have hlimits : ({ s.lnk with inbound := [], replies := s.lnk.inHand, notices := [], lost := 0, credits := 2,
                                             cache := .empty, seqState := .free } : Lnk).InLimits :=
      { h with credits := (by decide : 2 ≤ 32), notices := Nat.zero_le _, inbound := Nat.zero_le _,
               replies := hhand.trans (by decide), lost := Nat.zero_le _, pending := Nat.zero_le _, full := nofun, seq := nofun }
    exact Lnk.Sound.place hlimits h.tx.txFree.1 h.scan (Nat.lt_of_le_of_lt hhand (by decide))

/-- A good frame by its KIND (R165). -/
theorem goodFrame_sound (h : s.lnk.Sound R) (hR : R .hunt []) (kind seq : Byte) (p : List Byte) :
    (goodFrame kind seq p s).lnk.Sound R := by
  have hr : (renewLease s).lnk.Sound R := h
  unfold goodFrame
  dsimp only
  split
  · exact offerFrame_sound hr _
  · exact offerFrame_sound hr _
  · exact creditFrame_sound hr _
  · split
    · exact linkReset_sound hr hR _
    · exact countFraming_sound hr
  · exact countFraming_sound hr

/-! ### Frames taken -/

theorem settlePosted_sound (h : s.lnk.Sound R) (f : HostFrame) (st : Status) : (settlePosted f st s).lnk.Sound R := by
  have hcache : (s.setLnk { s.lnk with cache := .posted }).lnk.Sound R := { h with }
  unfold settlePosted
  dsimp only
  split
  · exact hcache
  · exact hcache.posted _

/-- The reply of a REQUEST ends the wait of a transmitter held for it (R168, R170, R172). -/
theorem settleRequest_sound (h : s.lnk.InLimits) (hR : R s.lnk.rx s.lnk.backlog) (hroom : s.lnk.replies.length < Config.replyMax)
    (r : Reply) : (settleRequest r s).lnk.Sound R := by
  have hfree : (if s.lnk.tx = .forReply then Tx.idle else s.lnk.tx) ≠ .forReply := by
    split
    · exact nofun
    · assumption
  exact Lnk.Sound.place
    (k := { s.lnk with cache := .reply r, restartPending := s.lnk.restartPending || r.isRestart,
                       tx := if s.lnk.tx = .forReply then .idle else s.lnk.tx })
    { h with } hfree hR hroom

/-- A frame is executed, its SEQ moving the sequence state on (R167, R170). -/
theorem executeFrame_sound (h : s.lnk.Sound R) (hR : R .hunt []) (hroom : s.lnk.replies.length < Config.replyMax)
    (f : HostFrame) (after : Nat) : (executeFrame f after s).lnk.Sound R := by
  have hseq : (advanceSeq f.head s).lnk.Sound R := { h with seq := by rintro e l kind ⟨⟩; rfl }
  unfold executeFrame
  dsimp only
  split
  · have hheld : (holdForReply (advanceSeq f.head s)).lnk.InLimits ∧
        R (holdForReply (advanceSeq f.head s)).lnk.rx (holdForReply (advanceSeq f.head s)).lnk.backlog ∧
        (holdForReply (advanceSeq f.head s)).lnk.replies.length < Config.replyMax := by
      unfold holdForReply
      split
      · exact ⟨{ hseq with }, h.scan, hroom⟩
      · exact ⟨hseq.toInLimits, h.scan, hroom⟩
    unfold runRequest
    split
    · exact settleRequest_sound hseq.toInLimits h.scan hroom _
    · obtain ⟨hlimits, hscan, hleft⟩ := answer_keeps_link
        (Q := fun k => k.InLimits ∧ R k.rx k.backlog ∧ k.replies.length < Config.replyMax)
        (fun k n hk => ⟨(hk.1.enqueue n).choose, by simpa [Lnk.posted] using hk.2.1, by simpa [Lnk.posted] using hk.2.2⟩)
        (fun k hk => ⟨{ hk.1 with counters := Counters.zero_inRange }, hk.2⟩) _ after hheld
      exact settleRequest_sound hlimits hscan hleft _
  · unfold runPosted
    split
    · exact settlePosted_sound hseq _ _
    · split
      · exact mainReset_sound hR _ _
      · exact settlePosted_sound (answer_keeps_link (fun _ n hk => hk.posted n)
          (fun _ hk => hk.count fun _ => Counters.zero_inRange) _ after hseq) _ _

/-- A taken frame is executed, repeated, discarded or out of turn (R167 to R169). -/
theorem dealFrame_sound (h : s.lnk.Sound R) (hR : R .hunt []) (hroom : s.lnk.replies.length < Config.replyMax)
    (f : HostFrame) (after : Nat) : (dealFrame f after s).lnk.Sound R := by
  have hrepeat : ∀ answered, (repeatFrame answered s).lnk.Sound R := by
    intro answered
    have hcount : (countDuplicate s).lnk.Sound R :=
      h.count fun ⟨hc, ht, hf, ho, hg, _⟩ => ⟨hc, ht, hf, ho, hg, bump_le _⟩
    unfold repeatFrame
    dsimp only
    split
    · exact Lnk.Sound.place hcount.toInLimits hcount.tx.txFree.1 hcount.scan hroom
    · exact hcount
  have hgap : (countGap s).lnk.Sound R :=
    h.count fun ⟨hc, ht, hf, ho, _, hd⟩ => ⟨hc, ht, hf, ho, bump_le _, hd⟩
  unfold dealFrame
  split
  · exact executeFrame_sound h hR hroom f after
  · exact hrepeat _
  · exact hrepeat _
  · unfold gapFrame
    dsimp only
    split
    · exact Lnk.Sound.place hgap.toInLimits hgap.tx.txFree.1 hgap.scan hroom
    · exact hgap.posted _

/-- A head is taken only with room for its reply (R167). -/
theorem takeHead_sound (h : s.lnk.Sound R) (hR : R .hunt []) (after : Nat) : (takeHead after s).lnk.Sound R := by
  by_cases hc : s.lnk.canTake = true
  · have hroom : s.lnk.replies.length < Config.replyMax := by
      simp only [Lnk.canTake, Bool.and_eq_true, decide_eq_true_eq] at hc
      exact hc.1.2
    cases hin : s.lnk.inbound with
    | nil => simp [Lnk.canTake, hin] at hc
    | cons f rest =>
      have hrest : (s.setLnk { s.lnk with inbound := rest }).lnk.Sound R :=
        { h with inbound := (Nat.le_succ rest.length).trans (by simpa [hin] using h.inbound) }
      rw [takeHead_of_cons hin hc]
      exact dealFrame_sound hrest hR hroom f after
  · rw [takeHead_of_blocked after (Bool.eq_false_iff.2 hc)]
    exact h

theorem takeHeads_sound (h : s.lnk.Sound R) (hR : R .hunt []) (ks : Taking) : (takeHeads ks s).lnk.Sound R :=
  foldl_keeps (P := fun u => u.lnk.Sound R) (f := fun x k => takeHead k x) (fun k _ hu => takeHead_sound hu hR k) ks s h

theorem takeHeadIf_sound (h : s.lnk.Sound R) (hR : R .hunt []) (p : Verdict → HostFrame → Bool) :
    (takeHeadIf p s).lnk.Sound R := by
  unfold takeHeadIf
  split
  · exact h
  · split
    · exact takeHead_sound h hR 0
    · exact h

/-- The frame sent leaves, and the transmitter looks at the queues (R172). -/
theorem transmitted_sound (h : s.lnk.Sound R) (hR : R .hunt []) : (transmitted s).lnk.Sound R := by
  have hchoose : ∀ k : Lnk, k.InLimits → k.txFree → R k.rx k.backlog → k.choose.Sound R := fun k hk ht hs =>
    { hk.choose with tx := Lnk.choose_txFits ht, scan := by simpa using hs }
  unfold transmitted
  split
  · rename_i r rest _ hr
    have hrest : ({ s.lnk with tx := .idle, replies := rest } : Lnk).InLimits :=
      { h with replies := (Nat.le_succ _).trans (by simpa [hr] using h.replies) }
    dsimp only
    split
    · exact mainReset_sound hR _ _
    · exact hchoose _ hrest ⟨nofun, nofun⟩ h.scan
  · exact hchoose { s.lnk with tx := .idle } { h with } ⟨nofun, nofun⟩ h.scan
  · exact hchoose _ h.toInLimits h.tx.txFree h.scan

end

/-! ### Bytes scanned again -/

/-- How many steps a scan of these bytes may take from this state of the receiver (R163, R165). -/
def Receiver.scanSteps (r : Receiver) (bs : List Byte) : Nat := (r.size + bs.length) * (r.size + bs.length) + bs.length

theorem Lnk.scanSteps_eq (k : Lnk) : k.scanSteps = k.rx.scanSteps k.backlog := rfl

/-- A byte held, or passed over, is one step. -/
theorem Receiver.scanSteps_of_held {r q : Receiver} (h : q.size ≤ r.size + 1) (b : Byte) (bs : List Byte) :
    q.scanSteps bs < r.scanSteps (b :: bs) := by
  have hn : q.size + bs.length ≤ r.size + (bs.length + 1) := by omega
  have := Nat.mul_le_mul hn hn
  simp only [Receiver.scanSteps, List.length_cons]
  omega

/-- A discard gives back fewer bytes than the frame had, its SYNC being gone (R163, R165). -/
theorem Receiver.scanSteps_of_rescan {r : Receiver} {held : List Byte} (h : held.length ≤ r.size) (b : Byte) (bs : List Byte) :
    Receiver.hunt.scanSteps (held ++ bs) < r.scanSteps (b :: bs) := by
  have hhunt : Receiver.hunt.size = 0 := rfl
  have hn : held.length + bs.length ≤ r.size + bs.length := by omega
  have := Nat.mul_le_mul hn (Nat.succ_le_succ hn)
  simp only [Receiver.scanSteps, hhunt, List.length_cons, List.length_append, Nat.zero_add]
  nlinarith

/-- Everything that a byte can do: it is passed over or held, it ends a frame that is discarded and scanned again, or it completes
a good frame (R163, R165). -/
theorem receiverStep_cases (b : Byte) (s : State) :
    (∃ r : Receiver, receiverStep b s = s.setRx r ∧ r.size ≤ s.lnk.rx.size + 1) ∨
    (∃ held : List Byte, held.length ≤ s.lnk.rx.size ∧
      (receiverStep b s = countFraming (rescan held s) ∨ receiverStep b s = countCrc (rescan held s))) ∨
    (∃ kind seq p, receiverStep b s = goodFrame kind seq p (s.setRx .hunt)) := by
  unfold receiverStep
  cases hrx : s.lnk.rx with
  | hunt =>
    left
    dsimp only
    split
    · exact ⟨_, rfl, by simp [Receiver.size]⟩
    · exact ⟨.hunt, (State.setRx_self hrx).symm, Nat.zero_le _⟩
  | header held =>
    dsimp only
    split
    · exact .inl ⟨_, rfl, by simp [Receiver.size]⟩
    · unfold afterSeq
      dsimp only
      split
      · exact .inr (.inl ⟨_, by simp [Receiver.size], .inl rfl⟩)
      · refine .inl ⟨_, rfl, ?_⟩
        split <;> simp [Receiver.size]
  | body held =>
    refine .inl ⟨_, rfl, ?_⟩
    split <;> simp [Receiver.size]
  | check held =>
    dsimp only
    split
    · exact .inl ⟨_, rfl, by simp [Receiver.size]⟩
    · unfold completeFrame
      dsimp only
      split
      · exact .inr (.inr ⟨_, _, _, rfl⟩)
      · exact .inr (.inl ⟨_, by simp [Receiver.size], .inr rfl⟩)

/-- A byte scanned takes one of the steps that its scan may take. -/
theorem receiverStep_sound {m : Nat} {b : Byte} {s : State} (h : s.lnk.Sound fun r bs => r.scanSteps (b :: bs) ≤ m + 1) :
    (receiverStep b s).lnk.Sound fun r bs => r.scanSteps bs ≤ m := by
  have hsteps := h.scan
  have hset : ∀ {r : Receiver} {bs : List Byte}, r.scanSteps bs ≤ m →
      ({ s.lnk with rx := r, backlog := bs } : Lnk).Sound fun r bs => r.scanSteps bs ≤ m := fun hr => { h with scan := hr }
  obtain ⟨r, e, hr⟩ | ⟨held, hheld, e⟩ | ⟨kind, seq, p, e⟩ := receiverStep_cases b s
  · have := Receiver.scanSteps_of_held hr b s.lnk.backlog
    rw [e]
    exact hset (by omega)
  · have := Receiver.scanSteps_of_rescan hheld b s.lnk.backlog
    have hback : (rescan held s).lnk.Sound fun r bs => r.scanSteps bs ≤ m := hset (by omega)
    obtain e | e := e <;> rw [e]
    · exact countFraming_sound hback
    · exact hback.count fun ⟨_, ht, hf, ho, hg, hd⟩ => ⟨bump_le _, ht, hf, ho, hg, hd⟩
  · have := Receiver.scanSteps_of_held (r := s.lnk.rx) (q := .hunt) (Nat.zero_le _) b s.lnk.backlog
    rw [e]
    exact goodFrame_sound (s := s.setRx .hunt) (hset (by omega)) (Nat.zero_le _) _ _ _

/-- A scan of so many steps scans every byte (R163, R165). -/
theorem scan_ok {m : Nat} (ts : List Taking) {s : State} (h : s.lnk.Sound fun r bs => r.scanSteps bs ≤ m) :
    (scan m ts s).lnk.ok := by
  induction m generalizing ts s with
  | zero =>
    have hnone : s.lnk.backlog.length = 0 := by
      have := h.scan
      unfold Receiver.scanSteps at this
      omega
    exact Lnk.ok_iff.2 (h.withScan (List.length_eq_zero_iff.1 hnone))
  | succ m ih =>
    cases hb : s.lnk.backlog with
    | nil => rw [scan_of_empty _ _ hb]; exact Lnk.ok_iff.2 (h.withScan hb)
    | cons b rest =>
      have hsteps := h.scan
      rw [hb] at hsteps
      have hnext : (s.setLnk { s.lnk with backlog := rest }).lnk.Sound fun r bs => r.scanSteps (b :: bs) ≤ m + 1 :=
        { h with scan := hsteps }
      rw [scan_cons _ _ hb]
      exact ih _ (takeHeads_sound (receiverStep_sound hnext) (Nat.zero_le _) _)

/-! ### What a command keeps -/

section
variable {s : State}

theorem State.Posts.ok {t : State} (h : s.Posts t) (hs : s.lnk.ok) : t.lnk.ok :=
  Lnk.ok_iff.2 (h.keeps (fun _ n hk => hk.posted n) (Lnk.ok_iff.1 hs))

theorem receiveByte_ok (b : Byte) (ts : List Taking) (hs : s.lnk.ok) : (receiveByte b ts s).lnk.ok :=
  scan_ok ts { Lnk.ok_iff.1 hs with scan := (Lnk.scanSteps_eq _).ge }

theorem receiveBytes_ok (bs : List Byte) (hs : s.lnk.ok) : (receiveBytes bs s).lnk.ok :=
  foldl_keeps (P := fun u => u.lnk.ok) (f := fun x b => receiveByte b [] x) (fun b _ hu => receiveByte_ok b [] hu) bs s hs

theorem takeHeads_ok (ks : Taking) (hs : s.lnk.ok) : (takeHeads ks s).lnk.ok :=
  Lnk.ok_iff.2 (takeHeads_sound (Lnk.ok_iff.1 hs) rfl ks)

theorem takeHeadIf_ok (p : Verdict → HostFrame → Bool) (hs : s.lnk.ok) : (takeHeadIf p s).lnk.ok :=
  Lnk.ok_iff.2 (takeHeadIf_sound (Lnk.ok_iff.1 hs) rfl p)

theorem transmitted_ok (hs : s.lnk.ok) : (transmitted s).lnk.ok :=
  Lnk.ok_iff.2 (transmitted_sound (Lnk.ok_iff.1 hs) rfl)

theorem badStopBit_ok (hs : s.lnk.ok) : (badStopBit s).lnk.ok :=
  Lnk.ok_iff.2 (countFraming_sound (s := s.setRx .hunt) { Lnk.ok_iff.1 hs with })

theorem gapElapsed_ok (hs : s.lnk.ok) : (gapElapsed s).lnk.ok := by
  have hhunt : (s.setRx .hunt).lnk.Sound fun _ bs => bs = [] := { Lnk.ok_iff.1 hs with }
  unfold gapElapsed
  split
  · exact Lnk.ok_iff.2 (hhunt.count fun ⟨hc, _, hf, ho, hg, hd⟩ => ⟨hc, bump_le _, hf, ho, hg, hd⟩)
  · exact hs

/-- A part of a tick posts notices, but for the main reset of a lease that ends in a RESTART (R2, R155). -/
theorem doPart_ok (p : TickPart) (hs : s.lnk.ok) : (doPart p s).lnk.ok := by
  have hl := State.Posts.refl s
  cases p with
  | advance k => exact (hl.advanceInstant k).ok hs
  | line n accept => exact (hl.lineTick n accept).ok hs
  | trigger t => exact hs
  | reference => exact hl.referenceTick.ok hs
  | lease =>
    change (leaseTick s).lnk.ok
    rw [leaseTick_eq]
    split
    · split
      · exact mainReset_link_ok _ _
      · exact hl.expireLease.ok hs
    · split <;> exact hs

theorem deal_ok (p : TickPart) (hs : s.lnk.ok) : (deal p s).lnk.ok := by
  unfold deal
  split
  · exact doPart_ok (s := s.setOwed _) p hs
  · exact hs

theorem dealIf_ok (due : Bool) (p : TickPart) (hs : s.lnk.ok) : (dealIf due p s).lnk.ok := by
  unfold dealIf
  split
  · exact deal_ok p hs
  · exact hs

theorem dealAll_ok (ps : List TickPart) (hs : s.lnk.ok) : (dealAll ps s).lnk.ok :=
  foldl_keeps (P := fun u => u.lnk.ok) (f := fun u p => deal p u) (fun p _ hu => deal_ok p hu) ps s hs

theorem acceptRuns_ok (hs : s.lnk.ok) : (acceptRuns s).lnk.ok :=
  foldl_keeps (P := fun u => u.lnk.ok) (f := fun u n => acceptRun n ⟨0, 0⟩ u)
    (fun n u hu => ((State.Posts.refl u).acceptRun n _).ok hu) _ s hs

theorem nominalTick_ok (now : List TickPart) (hs : s.lnk.ok) : (nominalTick now s).lnk.ok := by
  have hsettled : (settle s).lnk.ok := dealAll_ok _ (acceptRuns_ok hs)
  unfold nominalTick
  generalize settle s = u at hsettled ⊢
  exact dealAll_ok now hsettled

/-- The loss of supply keeps the link as it was (log entry 14). -/
theorem losePower_lnk (s : State) : (losePower s).lnk = s.lnk := by
  unfold losePower lossCommand
  dsimp only
  split_ifs <;> split <;> rfl

end

/-- Every command of a powered part keeps the link in its limits. -/
theorem exec_link_ok {i : Instr} {s t : State} (hp : s.power = true) (hs : s.lnk.ok) (h : exec i s = .next t) : t.lnk.ok := by
  have hl := State.Posts.refl s
  have on : ∀ {f : State → State}, exec i s = whenPowered f s → t = f s := fun {f} hf => by
    rw [hf, whenPowered, if_pos hp] at h
    cases h; rfl
  have same : ∀ {x : State}, exec i s = .next (if s.power then s else x) → t = s := fun {x} hx => by
    rw [hx, if_pos hp] at h
    cases h; rfl
  cases hr : i.asRequest with
  | some hq => rw [on (exec_of_asRequest hr s)]; exact takeHeads_ok _ (receiveBytes_ok _ hs)
  | none =>
    cases i with
    | powerUp | backupTick | backupDomainLoss => rw [same rfl]; exact hs
    | powerLoss => rw [on rfl, losePower_lnk]; exact hs
    | nrst pins => rw [on (f := fun x => mainReset .pin (setPins pins x)) rfl]; exact mainReset_link_ok _ _
    | scanDone => rw [on rfl]; exact hl.scanned.ok hs
    | nominalTick now =>
      rw [exec_nominalTick hp] at h
      cases h
      exact nominalTick_ok now hs
    | trimCarry | slewCorrection | pulseExpiry | holdoffEnd | refLost | leaseExpiry => rw [on rfl]; exact dealIf_ok _ _ hs
    | rangeEnd =>
      rw [on rfl]
      unfold dealRangeEnd
      split
      · exact deal_ok _ hs
      · exact hs
    | edgeAccept n order =>
      rw [on (f := fun x => if x.complete n then acceptRun n order x else dealIf (x.accepting n) (.line n (some order)) x) rfl]
      split
      · exact (hl.acceptRun n order).ok hs
      · exact dealIf_ok _ _ hs
    | byteFramingError => rw [on rfl]; exact badStopBit_ok hs
    | frameTimeout => rw [on rfl]; exact gapElapsed_ok hs
    | frameLenDiscard | frameCrcDiscard | frameUnknownKind | credit | linkReset => rw [on rfl]; exact receiveBytes_ok _ hs
    | frameEnqueue head payload take =>
      rw [on (f := fun x => takeHeads take (receiveBytes (frameBytes head.kind.byte head.seq payload) x)) rfl]
      exact takeHeads_ok take (receiveBytes_ok _ hs)
    | frameDuplicate | frameOutOfTurn | requestDecodeFail => rw [on rfl]; exact takeHeadIf_ok _ hs
    | transmitDone take =>
      rw [on (f := fun x => takeHeads take (transmitted x)) rfl]
      exact takeHeads_ok take (transmitted_ok hs)
    | loadSlotValidated k => rw [on rfl]; exact (hl.loadValidated k).ok hs
    | saveEraseDone => rw [on rfl]; exact hl.saveErased.ok hs
    | pageProgramDone flaws => rw [on rfl]; exact (hl.pageProgrammed flaws).ok hs
    | verifyDone => rw [on rfl]; exact hl.saveVerified.ok hs
    | flashTimeout => rw [on rfl]; exact hl.flashTimedOut.ok hs
    | recoveryEraseDone => rw [on rfl]; exact hl.recoveryErased.ok hs
    | slotEraseDone => rw [on rfl]; exact hl.slotErased.ok hs
    | rawLevelChange pin drive =>
      cases h
      obtain ⟨-, -, -, -, -, -, -, hlnk, -⟩ := changePin_frame pin drive s
      rw [hlnk]
      exact hs
    | byteReceived b takes => rw [on rfl]; exact receiveByte_ok b takes hs
    | _ => cases hr

/-- Every command of a part without supply: the link is as it was, or as a main reset sets it (R6, R7, R69). -/
theorem exec_unpowered_link_ok {i : Instr} {s t : State} (hp : s.power = false) (hs : s.lnk.ok) (h : exec i s = .next t) :
    t.lnk.ok := by
  obtain e | e | e | ⟨pin, drive, -, e⟩ | ⟨held, pins, -, e⟩ := exec_unpowered i hp <;> rw [e] at h <;> cases h
  · exact hs
  · unfold backupAdvance
    split <;> exact hs
  · exact hs
  · obtain ⟨-, -, -, -, -, -, -, hlnk, -⟩ := changePin_frame pin drive s
    rw [hlnk]
    exact hs
  · unfold gainPower coldStart
    dsimp only
    split <;> exact mainReset_link_ok _ _

/-- Settles O55: the blocks post notices, which the queue and the transmitter take within their limits; a frame is taken only with
room for its reply; and the bytes of a discarded frame are fewer than the frame had, so the scan comes to an end. -/
theorem linkStaysInLimits : Obligations.LinkStaysInLimits := by
  intro s t hs h
  unfold step at h
  split at h
  · cases h; exact hs
  · rename_i c rest _
    cases hp : s.power with
    | true => exact exec_link_ok (s := s.setPending rest) hp hs h
    | false => exact exec_unpowered_link_ok (s := s.setPending rest) hp hs h

end Sys2Proof.Machine

/-! ## The queue of waiting commands -/

namespace Sys2Proof.Machine

/-- A property of the queue of waiting commands alone, as `Steady` and `SteadyStore` ask for it. -/
theorem steadyStore_pending (cs : List Instr) : SteadyStore fun u => u.pending = cs where
  cap _ h := h
  trg _ h := h
  rds _ h := h
  flash _ h := h
  lnk _ h := h
  draws _ h := h
  sch _ _ h := h
  lines _ _ h := h
  holdover c h := by unfold claimHoldover; split <;> simpa using h
  tracking c h := by unfold claimTracking; split <;> simpa using h
  stepBy d k h := by unfold claimStep; split <;> simpa using h
  lease p f h := by unfold installLease; split <;> exact h
  prs _ _ h := h
  finish h := by simpa using h

@[simp] theorem advanceInstant_pending (k : Nat) (s : State) : (advanceInstant k s).pending = s.pending := by
  rw [advanceInstant_eq]
  unfold addReason reportAdvance
  split <;> split <;> simp

/-- The queue of waiting commands is none of the blocks, so no operation of theirs reaches it. -/
theorem configured_pending (cs : List Instr) : Configured fun u => u.pending = cs where
  lnk _ h := h
  cap _ h := h
  lsm _ h := h
  flash _ h := h
  straps _ h := h
  draws _ h := h
  owed _ h := h
  tmb _ _ h := h
  lines _ _ h := h
  trg _ _ h := h
  rds _ _ h := h
  prs _ _ h := h
  sch _ _ _ _ h := h
  removal _ h := (removeReason_pending _ _).trans h
  validity _ _ _ h := by simpa using h
  step _ _ _ _ h := by simpa using h
  advance k h := (advanceInstant_pending k _).trans h
  reset _ h := (mainReset_outside _ _).2.1.trans h
  fires _ hins h := (steadyStore_pending cs).insertTriggerEntry hins h
  adds _ _ _ h := by simpa using h
  places _ _ _ h := (steadyStore_pending cs).configureLine _ _ h
  sets _ _ h := h
  begins _ _ _ _ h := h
  stage h := (steadyStore_pending cs).loadStep h

/-- The return of the supply leaves the queue of waiting commands. -/
theorem gainPower_pending (held : Bool) (pins : StartPins) (s : State) : (gainPower held pins s).pending = s.pending := by
  have hreset : ∀ cause u, (mainReset cause u).pending = u.pending := fun cause u => (mainReset_outside cause u).2.1
  unfold gainPower coldStart
  dsimp only
  split <;> exact hreset _ _

/-- Settles O2: a command is made of operations of the blocks and of the supply, none of which stops or reaches the queue. -/
theorem everyCommandAnswers : Obligations.EveryCommandAnswers := by
  intro c s
  have hkept := (configured_pending s.pending).kept
  cases hp : s.power with
  | true =>
    by_cases hc : c = .powerLoss
    · subst hc
      exact ⟨losePower s, by simp [exec, execPowerLoss, whenPowered, hp], losePower_pending s⟩
    · exact hkept.exec_powered hc hp rfl
  | false =>
    obtain e | e | e | ⟨pin, drive, -, e⟩ | ⟨held, pins, -, e⟩ := exec_unpowered c hp
    · exact ⟨_, e, rfl⟩
    · refine ⟨_, e, ?_⟩
      unfold backupAdvance
      split <;> rfl
    · exact ⟨_, e, rfl⟩
    · exact ⟨_, e, hkept.pin pin drive s rfl⟩
    · exact ⟨_, e, gainPower_pending held pins s⟩

end Sys2Proof.Machine

/-! ## Payloads decode -/

namespace Sys2Proof.Machine

/-- Settles O3: a read-type request sent posted fails before its parameters are looked at, and every other payload decodes by its
code and, field by field, by its parameters. -/
theorem payloadsDecode : Obligations.PayloadsDecode := by
  intro r k hf
  refine ⟨encodeRequest_length_le hf, ?_⟩
  split
  · rename_i h
    obtain ⟨rfl, hread⟩ := h
    exact decodePayload_posted_read hread
  · rename_i h
    exact decodePayload_encodeRequest (requestCodes_contains r) (fun hk => Bool.eq_false_iff.2 fun hread => h ⟨hk, hread⟩)
      (decodeParams_encodeParams hf)

end Sys2Proof.Machine

/-! ## RESTART -/

namespace Sys2Proof.Machine

/-- On a powered part a row of the main domain has its meaning (R6). -/
theorem whenPowered_of_power {s : State} (hp : s.power = true) (f : State → State) : whenPowered f s = .next (f s) := by
  rw [whenPowered, if_pos hp]

/-- TRANSMIT_DONE on a powered part (R172). -/
theorem exec_transmitDone {s : State} (hp : s.power = true) (take : Taking) :
    exec (.transmitDone take) s = .next (takeHeads take (transmitted s)) :=
  whenPowered_of_power hp fun x => takeHeads take (transmitted x)

/-- The reply of a REQUEST goes out at once where the transmitter was held for it and waits behind a frame in transmission
otherwise, and a RESTART becomes pending with it (R168, R170, R172, R179). -/
theorem settleRequest_begun_eq {q : Byte} (r : Reply) {s : State} (ht : s.lnk.tx ≠ .forReply) :
    settleRequest r (begun ⟨.request, q⟩ s) = (s.setLsm s.lsm.renew).setLnk { s.lnk with
      seqState := .expecting (q + 1) q .request, cache := .reply r, replies := s.lnk.replies ++ [r],
      restartPending := s.lnk.restartPending || r.isRestart, tx := if s.lnk.tx = .idle then .reply else s.lnk.tx } := by
  rw [begun_request]
  by_cases hi : s.lnk.tx = .idle
  · simp [settleRequest, hi, Lnk.choose_of_reply]
  · simp only [settleRequest, State.setLnk_lnk, State.setLnk_setLnk, if_neg hi, if_neg ht]
    exact congrArg _ (Lnk.choose_of_busy hi)

/-- A RESTART that a quiet link receives is executed, like any request (R165 to R170). -/
theorem exec_restart {h : FrameHead} {s : State} (hq : Quiet h s) :
    exec (.restart h) s = .next (executeFrame ⟨h, encodeRequest .restart⟩ 0 (renewLease s)) := by
  rw [exec_of_asRequest (h := h) (r := .restart) rfl, whenPowered, if_pos hq.listening.power, sendRequest_of_quiet hq (by decide)]
  rfl

/-- The RESTART of a REQUEST changes nothing but its reply, the mark on it and the cache (R170, R179). -/
theorem executeFrame_restart_request (q : Byte) (s : State) :
    executeFrame ⟨⟨.request, q⟩, encodeRequest .restart⟩ 0 (renewLease s) =
      settleRequest (.answer q 0x03 .ok false [] true) (begun ⟨.request, q⟩ s) := rfl

/-- The RESTART of a POSTED frame is the main reset (R179). -/
theorem executeFrame_restart_posted (q : Byte) (s : State) :
    executeFrame ⟨⟨.posted, q⟩, encodeRequest .restart⟩ 0 (renewLease s) =
      mainReset .request (advanceSeq ⟨.posted, q⟩ (renewLease s)) := rfl

/-- When the marked reply has been sent the main reset comes (R179). -/
theorem transmitted_restart {s : State} {r : Reply} {rest : List Reply} (ht : s.lnk.tx = .reply)
    (hr : s.lnk.replies = r :: rest) (hm : r.isRestart = true) :
    transmitted s = mainReset .request (s.setLnk { s.lnk with tx := .idle, replies := rest }) := by
  simp [transmitted, ht, hr, hm]

/-- Settles O28: the execution of the frame in both its kinds, and the end of the marked reply; after the main reset no frame
waits to be taken. -/
theorem restarts : Obligations.Restarts := by
  intro q s
  refine ⟨fun hq ht => ?_, fun hq => ?_, fun take c st a d rest hp ht hr => ?_⟩
  · rw [exec_restart hq, executeFrame_restart_request, settleRequest_begun_eq _ ht]
    simp [Reply.isRestart]
  · rw [exec_restart hq, executeFrame_restart_posted]
  · rw [exec_transmitDone hp, transmitted_restart ht hr rfl, takeHeads_of_empty take (mainReset_inbound _ _)]

end Sys2Proof.Machine

/-! ## LINK-RESET -/

namespace Sys2Proof.Machine

/-- The link after a link reset: LINK-RESET-REPLY goes out at once from an idle transmitter, and behind the frame in transmission
otherwise (R172, R175). -/
theorem Lnk.afterReset_eq (k : Lnk) (q : Byte) : k.afterReset q = { k with
    inbound := [], replies := k.inHand ++ [.linkReset q], notices := [], lost := 0, credits := 2, cache := .empty,
    seqState := .free, tx := if k.tx = .idle then .reply else k.tx } := by
  unfold Lnk.afterReset
  by_cases hi : k.tx = .idle
  · rw [if_pos hi]
    exact Lnk.choose_of_reply hi (by simp)
  · rw [if_neg hi]
    exact Lnk.choose_of_busy hi

/-- Settles O30: the frame renews the lease, and then is `linkReset`, with or without a marked reply among the waiting ones. -/
theorem linkResets : Obligations.LinkResets := by
  intro q s hs _
  rw [exec_linkReset hs q (p := []) (by decide), if_pos rfl]
  refine ⟨fun hw => ?_, fun hw => ?_⟩
  · have hkeep : linkReset q (renewLease s) = (renewLease s).setLnk (s.lnk.afterReset q) :=
      if_neg (Bool.eq_false_iff.1 hw)
    rw [hkeep, Lnk.afterReset_eq]
    rfl
  · exact congrArg _ (if_pos hw)

end Sys2Proof.Machine

/-! ## Bytes, byte framing errors and gaps -/

namespace Sys2Proof.Machine

/-! ### The receiver's states, one byte on (R163) -/

section
variable {s : State} {b : Byte}

theorem receiverStep_hunt (hr : s.lnk.rx = .hunt) :
    receiverStep b s = if b = 0xA5 then s.setLnk { s.lnk with rx := .header [] } else s := by
  unfold receiverStep
  rw [hr]
  rfl

theorem receiverStep_header {held : List Byte} (hr : s.lnk.rx = .header held) (hl : held.length < 2) :
    receiverStep b s = s.setLnk { s.lnk with rx := .header (held ++ [b]) } := by
  unfold receiverStep
  rw [hr]
  exact if_pos (by simp only [List.length_append, List.length_singleton]; omega)

theorem receiverStep_seq {len kind : Byte} (hr : s.lnk.rx = .header [len, kind]) (hl : len.toNat ≤ 250) :
    receiverStep b s =
      s.setLnk { s.lnk with rx := if len = 0 then .check [len, kind, b] else .body [len, kind, b] } := by
  have hzero : (len.toNat = 0) = (len = 0) := by simp [← BitVec.toNat_inj]
  have hlen : ¬Config.payloadMax < (byteAt [len, kind, b] 0).toNat := Nat.not_lt.2 hl
  calc receiverStep b s
      = afterSeq [len, kind, b] s := by unfold receiverStep; rw [hr]; rfl
    _ = s.setRx (if len.toNat = 0 then .check [len, kind, b] else .body [len, kind, b]) := by
        unfold afterSeq
        exact if_neg hlen
    _ = _ := by simp only [hzero]; rfl

theorem receiverStep_body {len : Byte} {rest : List Byte} (hr : s.lnk.rx = .body (len :: rest)) :
    receiverStep b s = s.setLnk { s.lnk with
      rx := if rest.length + 2 < 3 + len.toNat then .body (len :: rest ++ [b]) else .check (len :: rest ++ [b]) } := by
  have hlen : (len :: rest ++ [b]).length = rest.length + 2 := by simp
  unfold receiverStep
  rw [hr]
  dsimp only
  rw [hlen]
  rfl

theorem receiverStep_check {len : Byte} {rest : List Byte} (hr : s.lnk.rx = .check (len :: rest))
    (hl : rest.length + 1 = 3 + len.toNat) :
    receiverStep b s = s.setLnk { s.lnk with rx := .check (len :: rest ++ [b]) } := by
  have hlen : (len :: rest ++ [b]).length < 5 + (byteAt (len :: rest ++ [b]) 0).toNat := by
    change _ < 5 + len.toNat
    simp only [List.length_append, List.length_cons, List.length_nil]
    omega
  unfold receiverStep
  rw [hr]
  exact if_pos hlen

/-- A byte that completes no frame is one step of the receiver; no head is taken with it where none is named or none waits
(R163, R167). -/
theorem exec_byteReceived {u : State} (hp : s.power = true) (hb : s.lnk.backlog = []) {takes : List Taking}
    (ht : takes = [] ∨ s.lnk.inbound = []) (hu : receiverStep b s = u) (hback : u.lnk.backlog = s.lnk.backlog)
    (hin : u.lnk.inbound = s.lnk.inbound) : exec (.byteReceived b takes) s = .next u := by
  have htake : takeHeads (takes.headD []) u = u := by
    obtain rfl | hempty := ht
    · rfl
    · exact takeHeads_of_empty _ (hin.trans hempty)
  have hbyte : receiveByte b takes s = u := by
    rw [receiveByte_of_quiet hb (by rw [hu, htake, hback, hb]), hu, htake]
  calc exec (.byteReceived b takes) s = .next (receiveByte b takes s) := whenPowered_of_power hp _
    _ = .next u := by rw [hbyte]

end

/-- Settles O32: in each state of the receiver, by its own equation, and the two ways in which a byte comes to nothing. -/
theorem bytesMoveTheReceiver : Obligations.BytesMoveTheReceiver := by
  intro s hp
  have on := whenPowered_of_power hp
  refine ⟨fun b takes hb ht => ⟨fun hr => ?_, fun held hr hl => ?_, fun len kind hr hl => ?_, fun len rest hr => ?_,
    fun len rest hr hl => ?_⟩, fun b takes => ?_, fun data takes hd => ?_, on badStopBit, fun hr => ?_, fun hr => ?_⟩
  · exact exec_byteReceived hp hb ht (receiverStep_hunt hr) (by split <;> rfl) (by split <;> rfl)
  · exact exec_byteReceived hp hb ht (receiverStep_header hr hl) rfl rfl
  · exact exec_byteReceived hp hb ht (receiverStep_seq hr hl) rfl rfl
  · exact exec_byteReceived hp hb ht (receiverStep_body hr) rfl rfl
  · exact exec_byteReceived hp hb ht (receiverStep_check hr hl) rfl rfl
  · rw [receiveCharacter_character]; exact on _
  · rw [receiveCharacter_badStop hd]; exact on _
  · have hgap : gapElapsed s = s := by simp [gapElapsed, hr, Receiver.inFrame]
    exact (on gapElapsed).trans (by rw [hgap])
  · have hframe : s.lnk.rx.inFrame = true := by
      cases hrx : s.lnk.rx with
      | hunt => exact absurd hrx hr
      | header _ | body _ | check _ => rfl
    have hgap : gapElapsed s = countTimeout (s.setRx .hunt) := if_pos hframe
    exact (on gapElapsed).trans (by rw [hgap]; rfl)

end Sys2Proof.Machine

/-! ## Discarded frames are scanned again -/

namespace Sys2Proof.Machine

/-! ### A link without the reply of a RESTART -/

namespace Lnk
variable {k : Lnk}

/-- No waiting reply is the marked one of a RESTART, so that a LINK-RESET is no main reset (R175, R179). -/
def resetFree (k : Lnk) : Prop := k.waiting.any Reply.isRestart = false

/-- The replies that wait after the transmitter's choice waited before it. -/
theorem resetFree.choose (h : k.resetFree) : k.choose.resetFree := by
  obtain ⟨e, -⟩ | ⟨e, ht, -⟩ | ⟨q, n, rest, e, -, hr, -⟩ := k.choose_cases <;> rw [e]
  · exact h
  · have hall : k.replies.any Reply.isRestart = false := by simpa [resetFree, waiting, ht] using h
    exact List.any_eq_false.2 fun r hr => List.any_eq_false.1 hall r (List.mem_of_mem_drop hr)
  · simp [resetFree, waiting, hr]

/-- After a link reset no reply waits but LINK-RESET-REPLY (R175). -/
theorem resetFree_afterReset (k : Lnk) (q : Byte) : (k.afterReset q).resetFree := by
  rw [afterReset_eq]
  unfold resetFree waiting inHand
  cases k.tx with
  | idle => rfl
  | reply => cases k.replies <;> rfl
  | notice _ _ | forReply => rfl

end Lnk

/-! ### A good frame, with more bytes to be scanned -/

/-- The state with further bytes to be scanned, behind those that wait already. -/
def State.fed (s : State) (bs : List Byte) : State := s.setLnk { s.lnk with backlog := s.lnk.backlog ++ bs }

/-- From `s` to `t` the receiver and the bytes to be scanned stay as they are, and no RESTART reply comes to wait. -/
structure State.Rests (s t : State) : Prop where
  rx      : t.lnk.rx = s.lnk.rx
  backlog : t.lnk.backlog = s.lnk.backlog
  free    : t.lnk.resetFree

section
variable {s : State} (hs : s.lnk.resetFree)
include hs

theorem linkReset_of_resetFree (seq : Byte) : linkReset seq s = s.setLnk (s.lnk.afterReset seq) := if_neg (Bool.eq_false_iff.1 hs)

/-- A good frame leaves the receiver and the bytes to be scanned (R165). -/
theorem goodFrame_rests (kind seq : Byte) (p : List Byte) : s.Rests (goodFrame kind seq p s) := by
  have hcredit : s.Rests (creditFrame p (renewLease s)) := by
    unfold creditFrame
    split
    · split
      · exact ⟨Lnk.choose_rx _, Lnk.choose_backlog _, Lnk.resetFree.choose hs⟩
      · exact ⟨rfl, rfl, hs⟩
    · exact ⟨rfl, rfl, hs⟩
  have hoffer : ∀ f, s.Rests (offerFrame f (renewLease s)) := by
    intro f
    unfold offerFrame
    split <;> exact ⟨rfl, rfl, hs⟩
  unfold goodFrame
  dsimp only
  split
  · exact hoffer _
  · exact hoffer _
  · exact hcredit
  · split
    · rw [linkReset_of_resetFree (s := renewLease s) hs]
      exact ⟨Lnk.choose_rx _, Lnk.choose_backlog _, Lnk.resetFree_afterReset _ _⟩
    · exact ⟨rfl, rfl, hs⟩
  · exact ⟨rfl, rfl, hs⟩

/-- A good frame does not look at the bytes to be scanned (R165). -/
theorem goodFrame_fed (kind seq : Byte) (p bs : List Byte) :
    goodFrame kind seq p (s.fed bs) = (goodFrame kind seq p s).fed bs := by
  have hcredit : creditFrame p (renewLease (s.fed bs)) = (creditFrame p (renewLease s)).fed bs := by
    have hadd : ∀ n, addCredits n (renewLease (s.fed bs)) = (addCredits n (renewLease s)).fed bs := by
      intro n
      have h := Lnk.choose_with_backlog { s.lnk with credits := min Config.creditMax (s.lnk.credits + n) } (s.lnk.backlog ++ bs)
      unfold State.fed addCredits
      simp only [State.setLnk_lnk, Lnk.choose_backlog]
      exact congrArg (fun k => (renewLease s).setLnk k) h
    unfold creditFrame
    split
    · split
      · exact hadd _
      · rfl
    · rfl
  have hoffer : ∀ f, offerFrame f (renewLease (s.fed bs)) = (offerFrame f (renewLease s)).fed bs := by
    intro f
    have hin : (renewLease (s.fed bs)).lnk.inbound = (renewLease s).lnk.inbound := rfl
    unfold offerFrame
    rw [hin]
    split <;> rfl
  unfold goodFrame
  dsimp only
  split
  · exact hoffer _
  · exact hoffer _
  · exact hcredit
  · split
    · rw [linkReset_of_resetFree (s := renewLease s) hs, linkReset_of_resetFree (s := renewLease (s.fed bs)) hs,
        Lnk.afterReset_eq, Lnk.afterReset_eq]
      rfl
    · rfl
  · rfl

/-- A byte that is scanned does not look at those behind it (R163). -/
theorem receiverStep_fed (b : Byte) (bs : List Byte) : receiverStep b (s.fed bs) = (receiverStep b s).fed bs := by
  have hrescan : ∀ held, rescan held (s.fed bs) = (rescan held s).fed bs := by
    intro held
    simp [rescan, State.fed]
  have hrx : (s.fed bs).lnk.rx = s.lnk.rx := rfl
  unfold receiverStep
  rw [hrx]
  cases s.lnk.rx with
  | hunt =>
    dsimp only
    split <;> rfl
  | header held =>
    unfold afterSeq
    dsimp only
    split
    · rfl
    · split
      · rw [hrescan]; rfl
      · rfl
  | body held => rfl
  | check held =>
    unfold completeFrame
    dsimp only
    split
    · rfl
    · split
      · exact goodFrame_fed (s := s.setRx .hunt) hs _ _ _ bs
      · rw [hrescan]; rfl

/-- The scan of a byte takes one of the steps that the scan may take, and no RESTART reply comes to wait. -/
theorem receiverStep_descends {b : Byte} {rest : List Byte} (hb : s.lnk.backlog = b :: rest) :
    (receiverStep b (s.setLnk { s.lnk with backlog := rest })).lnk.resetFree ∧
    (receiverStep b (s.setLnk { s.lnk with backlog := rest })).lnk.scanSteps < s.lnk.scanSteps := by
  have hsteps : s.lnk.scanSteps = s.lnk.rx.scanSteps (b :: rest) := by rw [← hb]; rfl
  have hset : (s.setLnk { s.lnk with backlog := rest }).lnk.resetFree := hs
  rw [hsteps]
  obtain ⟨r, e, hr⟩ | ⟨held, hheld, e⟩ | ⟨kind, seq, p, e⟩ := receiverStep_cases b (s.setLnk { s.lnk with backlog := rest })
  · rw [e]; exact ⟨hs, Receiver.scanSteps_of_held hr b rest⟩
  · obtain e | e := e <;> rw [e] <;> exact ⟨hs, Receiver.scanSteps_of_rescan hheld b rest⟩
  · obtain ⟨hrx, hback, hfree⟩ := goodFrame_rests (s := (s.setLnk { s.lnk with backlog := rest }).setRx .hunt) hset kind seq p
    have hle : Receiver.hunt.scanSteps rest < s.lnk.rx.scanSteps (b :: rest) :=
      Receiver.scanSteps_of_held (q := .hunt) (Nat.zero_le _) b rest
    refine ⟨e ▸ hfree, ?_⟩
    rw [e, Lnk.scanSteps_eq, hrx, hback]
    exact hle

end

/-! ### A scan to its end -/

/-- All waiting bytes are scanned, and no head is taken between them. -/
def scanAll (s : State) : State := scan s.lnk.scanSteps [] s

section
variable {s : State}

/-- One step of a scan with no head taken. -/
theorem scan_cons_alone (k : Nat) {b : Byte} {rest : List Byte} (h : s.lnk.backlog = b :: rest) :
    scan (k + 1) [] s = scan k [] (receiverStep b (s.setLnk { s.lnk with backlog := rest })) := scan_cons k [] h

/-- A scan that may take more steps than it needs takes no more. -/
theorem scan_eq_scan {m n : Nat} (hs : s.lnk.resetFree) (hm : s.lnk.scanSteps ≤ m) (hn : s.lnk.scanSteps ≤ n) :
    scan m [] s = scan n [] s := by
  induction m generalizing n s with
  | zero =>
    have hnone : s.lnk.backlog = [] := by
      rw [Lnk.scanSteps_eq, Receiver.scanSteps] at hm
      exact List.length_eq_zero_iff.1 (by omega)
    rw [scan_of_empty _ _ hnone, scan_of_empty _ _ hnone]
  | succ m ih =>
    cases hb : s.lnk.backlog with
    | nil => rw [scan_of_empty _ _ hb, scan_of_empty _ _ hb]
    | cons b rest =>
      obtain ⟨hfree, hless⟩ := receiverStep_descends hs hb
      obtain ⟨n, rfl⟩ : ∃ j, n = j + 1 := ⟨n - 1, by omega⟩
      rw [scan_cons_alone _ hb, scan_cons_alone _ hb]
      exact ih hfree (by omega) (by omega)

/-- With nothing waiting there is nothing to scan. -/
theorem scanAll_of_empty (h : s.lnk.backlog = []) : scanAll s = s := scan_of_empty _ _ h

/-- A scan to the end is the step of its first byte and the scan of the rest. -/
theorem scanAll_cons {b : Byte} {rest : List Byte} (hs : s.lnk.resetFree) (hb : s.lnk.backlog = b :: rest) :
    scanAll s = scanAll (receiverStep b (s.setLnk { s.lnk with backlog := rest })) := by
  obtain ⟨hfree, hless⟩ := receiverStep_descends hs hb
  obtain ⟨n, hn⟩ : ∃ n, s.lnk.scanSteps = n + 1 := ⟨s.lnk.scanSteps - 1, by omega⟩
  unfold scanAll
  rw [hn, scan_cons_alone _ hb]
  exact scan_eq_scan hfree (by omega) le_rfl

/-- Bytes that come after a scan to the end might as well have waited behind the others; the scan leaves nothing to be scanned, and
no RESTART reply comes to wait. -/
theorem scanAll_fed (hs : s.lnk.resetFree) (bs : List Byte) :
    scanAll (s.fed bs) = scanAll ((scanAll s).fed bs) ∧ (scanAll s).lnk.backlog = [] ∧ (scanAll s).lnk.resetFree := by
  induction hn : s.lnk.scanSteps using Nat.strong_induction_on generalizing s with
  | _ n ih =>
    subst hn
    cases hb : s.lnk.backlog with
    | nil => rw [scanAll_of_empty hb]; exact ⟨rfl, hb, hs⟩
    | cons b rest =>
      obtain ⟨hfree, hless⟩ := receiverStep_descends hs hb
      have hfed : (s.fed bs).lnk.backlog = b :: (rest ++ bs) := by simp [State.fed, hb]
      have hnext : (s.fed bs).setLnk { (s.fed bs).lnk with backlog := rest ++ bs } =
          (s.setLnk { s.lnk with backlog := rest }).fed bs := rfl
      rw [scanAll_cons (s := s.fed bs) hs hfed, hnext, receiverStep_fed (s := s.setLnk { s.lnk with backlog := rest }) hs,
        scanAll_cons hs hb]
      exact ih _ hless hfree rfl

end

/-! ### Bytes from the line -/

/-- Bytes that arrive one after another are received as bytes that wait together to be scanned. -/
theorem receiveBytes_eq_scanAll (bs : List Byte) {s : State} (hs : s.lnk.resetFree) (hb : s.lnk.backlog = []) :
    receiveBytes bs s = scanAll (s.fed bs) := by
  induction bs generalizing s with
  | nil =>
    have hfed : s.fed [] = s := by unfold State.fed; rw [List.append_nil]; rfl
    rw [hfed, scanAll_of_empty hb]
    rfl
  | cons b bs ih =>
    obtain ⟨hscan, hback, hfree⟩ := scanAll_fed (s := s.fed [b]) hs bs
    have hfed : (s.fed [b]).fed bs = s.fed (b :: bs) := by simp [State.fed]
    rw [receiveBytes_cons]
    change receiveBytes bs (scanAll (s.fed [b])) = _
    rw [ih hfree hback, ← hscan, hfed]

/-- A byte on which a frame is discarded: the bytes after SYNC are received again from HUNT (R163, R165). -/
theorem receiveByte_of_discard {s : State} {r : Receiver} {b : Byte} {held : List Byte} {c : Counters}
    (hb : s.lnk.backlog = []) (hs : s.lnk.resetFree) (hd : receiverStep b (s.setRx r) = (s.setCounters c).fed held) :
    receiveByte b [] (s.setRx r) = receiveBytes held (s.setCounters c) := by
  have hwaits : ((s.setRx r).fed [b]).lnk.backlog = [b] := by simp [State.fed, hb]
  have htaken : ((s.setRx r).fed [b]).setLnk { ((s.setRx r).fed [b]).lnk with backlog := [] } = s.setRx r := by
    simp only [State.fed, State.setLnk_lnk, State.setLnk_setLnk]
    rw [← hb]; rfl
  calc receiveByte b [] (s.setRx r)
      = scanAll ((s.setRx r).fed [b]) := rfl
    _ = scanAll ((s.setCounters c).fed held) := by
        rw [scanAll_cons (s := (s.setRx r).fed [b]) hs hwaits, htaken, hd]
    _ = receiveBytes held (s.setCounters c) := (receiveBytes_eq_scanAll held (s := s.setCounters c) hs hb).symm

/-- The bytes of a discarded frame wait to be scanned again from HUNT. -/
theorem rescan_of_hunt {s : State} (hr : s.lnk.rx = .hunt) (hb : s.lnk.backlog = []) (r : Receiver) (held : List Byte) :
    rescan held (s.setRx r) = s.fed held := by
  simp only [rescan, State.setRx, State.fed, State.setLnk_lnk, State.setLnk_setLnk, hb, List.append_nil, List.nil_append]
  rw [← hr]

/-- Settles O31: on the byte that ends the frame the bytes after its SYNC wait to be scanned again, and to scan them is to receive
them. -/
theorem discardedFramesAreScannedAgain : Obligations.DiscardedFramesAreScannedAgain := by
  intro s hs hw
  obtain ⟨-, hr, hb⟩ := id hs
  refine ⟨fun len kind q hlen => ?_, fun kind q p crc hp hcrc => ?_⟩
  · have hd : receiverStep q (s.setRx (.header [len, kind])) = (countFraming s).fed [len, kind, q] := by
      calc receiverStep q (s.setRx (.header [len, kind]))
          = afterSeq [len, kind, q] (s.setRx (.header [len, kind])) := rfl
        _ = countFraming (rescan [len, kind, q] (s.setRx (.header [len, kind]))) := if_pos hlen
        _ = _ := by rw [rescan_of_hunt hr hb]; rfl
    calc exec (.frameLenDiscard len kind q) s
        = .next (receiveBytes [syncByte, len, kind, q] s) := hs.whenPowered _
      _ = .next (receiveByte q [] (s.setRx (.header [len, kind]))) := by
          rw [receiveBytes_cons, receiveBytes_cons, receiveBytes_cons, receiveByte_sync hr hb, receiveByte_header hb (by simp),
            receiveByte_header hb (by simp)]
          rfl
      _ = _ := by rw [receiveByte_of_discard hb hw hd]; rfl
  · have hfield : crcField (crc16 (frameCore kind q p)) ≠ crcField crc := fun h => hcrc (crcField_injective h).symm
    have hd : receiverStep ((crc >>> 8).setWidth 8) (s.setRx (.check (frameCore kind q p ++ [crc.setWidth 8]))) =
        (countCrc s).fed (frameCore kind q p ++ crcField crc) := by
      rw [receiverStep_complete hr hp, if_neg hfield, ← State.setRx_self hr, rescan_of_hunt (s := s) hr hb, State.setRx_self hr]
      rfl
    calc exec (.frameCrcDiscard kind q p crc) s
        = .next (receiveBytes (frameWith kind q p crc) s) := hs.whenPowered _
      _ = _ := by rw [receiveBytes_frameWith hr hb hp, receiveByte_of_discard hb hw hd]; rfl

end Sys2Proof.Machine

/-! ## Frames at the head of the queue -/

namespace Sys2Proof.Machine

/-! ### The verdict on a frame (R167) -/

section
variable {q : SeqState} {h : FrameHead} {e l : Byte} {kind : ReqKind}

theorem SeqState.judge_execute (hq : q = .free ∨ ∃ l kind, q = .expecting h.seq l kind) : q.judge h = .execute := by
  obtain rfl | ⟨l, kind, rfl⟩ := hq
  · rfl
  · exact if_pos rfl

theorem SeqState.judge_repeat (hq : q = .expecting e l kind) (he : h.seq ≠ e) (hl : h.seq = l) :
    q.judge h = if h.kind = .request ∧ kind = .request then .duplicate else .discard := by
  rw [hq]
  exact (if_neg he).trans (if_pos hl)

theorem SeqState.judge_gap (hq : q = .expecting e l kind) (he : h.seq ≠ e) (hl : h.seq ≠ l) : q.judge h = .outOfTurn e := by
  rw [hq]
  exact (if_neg he).trans (if_neg hl)

/-- A verdict on a repeat of L, answered or not, is one of R168. -/
theorem SeqState.judge_repeat_cases (hq : q = .expecting e l kind) (he : h.seq ≠ e) (hl : h.seq = l) :
    q.judge h = .duplicate ∨ q.judge h = .discard := by
  rw [SeqState.judge_repeat hq he hl]
  split
  · exact .inl rfl
  · exact .inr rfl

end

/-- A check of R170 that fails gives a status that is neither OK nor ACCEPTED. -/
theorem decodePayload_error_taken {k : ReqKind} {p : List Byte} {c : Byte} {st : Status}
    (h : decodePayload k p = .error (c, st)) : st.taken = false := by
  unfold decodePayload at h
  split at h
  · cases h; rfl
  · split at h
    · cases h; rfl
    · split at h
      · cases h; rfl
      · split at h
        · cases h; rfl
        · cases h

/-! ### A head that its row takes, or leaves (R167, log entry 6) -/

section
variable {s : State} {f : HostFrame} {rest : List HostFrame} (hin : s.lnk.inbound = f :: rest)
include hin

theorem takeHeadIf_of_taken {p : Verdict → HostFrame → Bool} (hroom : s.lnk.replies.length < 2)
    (hres : s.lnk.restartPending = false) (hv : p (s.lnk.seqState.judge f.head) f = true) :
    takeHeadIf p s = dealFrame f 0 (s.setLnk { s.lnk with inbound := rest }) := by
  have hcan : s.lnk.canTake = true := by simp [Lnk.canTake, hin, hroom, hres]
  unfold takeHeadIf
  rw [hin]
  exact (if_pos hv).trans (takeHead_of_cons hin hcan)

theorem takeHeadIf_of_left {p : Verdict → HostFrame → Bool} (hv : p (s.lnk.seqState.judge f.head) f = false) :
    takeHeadIf p s = s := by
  unfold takeHeadIf
  rw [hin]
  exact if_neg (Bool.eq_false_iff.1 hv)

end

/-! ### What the taken frame does (R168 to R171) -/

section
variable {s : State} {f : HostFrame} {after : Nat}

theorem dealFrame_duplicate {r : Reply} (hv : s.lnk.seqState.judge f.head = .duplicate) (hc : s.lnk.cache = .reply r) :
    dealFrame f after s = placeReply r.repeated (countDuplicate s) := by
  have hcache : (countDuplicate s).lnk.cache = .reply r := hc
  unfold dealFrame repeatFrame
  simp only [hv, hcache]

theorem dealFrame_discard (hv : s.lnk.seqState.judge f.head = .discard) : dealFrame f after s = countDuplicate s := by
  unfold dealFrame repeatFrame
  simp only [hv]

theorem dealFrame_gap {e : Byte} (hv : s.lnk.seqState.judge f.head = .outOfTurn e) :
    dealFrame f after s = gapFrame f e s := by
  unfold dealFrame
  simp only [hv]

/-- A frame that fails a check of R170 counts as executed: its REQUEST is answered with that status, its POSTED frame reported. -/
theorem dealFrame_undecodable {c : Byte} {st : Status} (hv : s.lnk.seqState.judge f.head = .execute)
    (hd : decodePayload f.head.kind f.payload = .error (c, st)) : dealFrame f after s =
      (let x := advanceSeq f.head s
       match f.head.kind with
       | .request => settleRequest (.answer f.head.seq c st false [] false) x
       | .posted => post (.postedFailed f.head.seq (f.payload.headD 0) st 0) (x.setLnk { x.lnk with cache := .posted })) := by
  have htaken := decodePayload_error_taken hd
  unfold dealFrame executeFrame
  simp only [hv]
  cases hk : f.head.kind with
  | request =>
    rw [hk] at hd
    simp only [runRequest, hd, formReply, ite_self]
  | posted =>
    rw [hk] at hd
    simp only [runPosted, hd, settlePosted, htaken, Bool.false_eq_true, if_false, HostFrame.code]

end

/-- Settles O33: the verdict on the head decides which of the three rows takes it, and what the frame then does. -/
theorem takenFrames : Obligations.TakenFrames := by
  intro f rest s hp hin hroom hres k dup gap
  have on : ∀ p : Verdict → HostFrame → Bool, whenPowered (takeHeadIf p) s = .next (takeHeadIf p s) :=
    fun p => whenPowered_of_power hp _
  have takes : ∀ {p : Verdict → HostFrame → Bool}, p (s.lnk.seqState.judge f.head) f = true →
      whenPowered (takeHeadIf p) s = .next (dealFrame f 0 (s.setLnk k)) := fun hv => by
    rw [on, takeHeadIf_of_taken hin hroom hres hv]
  have leaves : ∀ {p : Verdict → HostFrame → Bool}, p (s.lnk.seqState.judge f.head) f = false →
      whenPowered (takeHeadIf p) s = .next s := fun hv => by rw [on, takeHeadIf_of_left hin hv]
  refine ⟨fun e l kind hq he hl => ⟨fun q c st a d x hr hk hc => ?_, fun hk => ?_, leaves ?_, leaves ?_⟩,
    fun e l kind hq he hl => ⟨fun hk => ?_, fun hk => ?_, leaves ?_, leaves ?_⟩,
    fun hq => ⟨fun c st hd => ?_, leaves ?_, leaves ?_⟩⟩
  · have hv : s.lnk.seqState.judge f.head = .duplicate := by
      rw [SeqState.judge_repeat hq he hl, if_pos ⟨hr, hk⟩]
    calc exec .frameDuplicate s = .next (dealFrame f 0 (s.setLnk k)) := takes (by rw [hv]; rfl)
      _ = _ := by rw [dealFrame_duplicate (s := s.setLnk k) hv hc]; rfl
  · have hv : s.lnk.seqState.judge f.head = .discard := by
      rw [SeqState.judge_repeat hq he hl, if_neg]
      rintro ⟨hr, hr'⟩
      obtain h | h := hk
      · rw [hr] at h; cases h
      · rw [hr'] at h; cases h
    calc exec .frameDuplicate s = .next (dealFrame f 0 (s.setLnk k)) := takes (by rw [hv]; rfl)
      _ = _ := by rw [dealFrame_discard (s := s.setLnk k) hv]; rfl
  · obtain hv | hv := SeqState.judge_repeat_cases hq he hl <;> rw [hv] <;> rfl
  · obtain hv | hv := SeqState.judge_repeat_cases hq he hl <;> rw [hv] <;> rfl
  · have hv := SeqState.judge_gap hq he hl
    calc exec .frameOutOfTurn s = .next (dealFrame f 0 (s.setLnk k)) := takes (by rw [hv]; rfl)
      _ = _ := by rw [dealFrame_gap (s := s.setLnk k) hv, gapFrame, hk]; rfl
  · have hv := SeqState.judge_gap hq he hl
    calc exec .frameOutOfTurn s = .next (dealFrame f 0 (s.setLnk k)) := takes (by rw [hv]; rfl)
      _ = _ := by rw [dealFrame_gap (s := s.setLnk k) hv, gapFrame, hk]; rfl
  · rw [SeqState.judge_gap hq he hl]; rfl
  · rw [SeqState.judge_gap hq he hl]; rfl
  · have hv := SeqState.judge_execute hq
    have hund : f.undecodable = true := by unfold HostFrame.undecodable; rw [hd]
    calc exec .requestDecodeFail s = .next (dealFrame f 0 (s.setLnk k)) := takes (by rw [hv, hund]; rfl)
      _ = _ := by rw [dealFrame_undecodable (s := s.setLnk k) hv hd]; rfl
  · rw [SeqState.judge_execute hq]; rfl
  · rw [SeqState.judge_execute hq]; rfl

end Sys2Proof.Machine

/-! ## The transmitter -/

namespace Sys2Proof.Machine

/-! ### The frame sent leaves (R172) -/

/-- The link once the frame sent has left: the transmitter is idle, and a reply that was sent is out of the buffer. -/
def Lnk.afterSending (k : Lnk) : Lnk := { k with tx := .idle, replies := if k.tx = .reply then k.replies.tail else k.replies }

/-- The transmitter looks at the queues once its frame, no RESTART reply, has left; an idle one looks at them as it is (R172). -/
theorem transmitted_eq {s : State} (hf : s.lnk.tx ≠ .forReply) (hm : ∀ r ∈ s.lnk.replies, r.isRestart = false)
    (hr : s.lnk.tx = .reply → s.lnk.replies ≠ []) : transmitted s = s.setLnk s.lnk.afterSending.choose := by
  unfold transmitted Lnk.afterSending
  cases ht : s.lnk.tx with
  | idle =>
    simp only [if_neg (show ¬Tx.idle = .reply by decide)]
    rw [← ht]
  | notice q n => simp only [if_neg (show ¬Tx.notice q n = .reply from nofun)]
  | forReply => exact absurd ht hf
  | reply =>
    cases hl : s.lnk.replies with
    | nil => exact absurd hl (hr ht)
    | cons r rest =>
      have hplain : r.isRestart = false := hm r (by simp [hl])
      simp [hplain]

/-- TRANSMIT_DONE in its three cases: a reply waits, nothing may be sent, or the oldest notice leaves against a credit and makes room
for NOTICES-LOST (R172 to R174). -/
theorem Lnk.afterSending_choose (k : Lnk) :
    (k.afterSending.replies ≠ [] → k.afterSending.choose = { k.afterSending with tx := .reply }) ∧
    (k.afterSending.replies = [] → (k.notices = [] ∨ k.credits = 0) → k.afterSending.choose = k.afterSending) ∧
    (∀ q n more, k.afterSending.replies = [] → k.notices = (q, n) :: more → 0 < k.credits → k.afterSending.choose =
      if 0 < k.lost ∧ more.length < 32 then
        { k.afterSending with
          tx := .notice q n, credits := k.credits - 1, notices := more ++ [(k.nextNotice, .noticesLost k.lost)],
          nextNotice := k.nextNotice + 1, lost := 0 }
      else { k.afterSending with tx := .notice q n, credits := k.credits - 1, notices := more }) :=
  ⟨fun hr => Lnk.choose_of_reply rfl hr, fun hr hn => Lnk.choose_of_nothing hr hn,
    fun _ _ _ hr hn hc => Lnk.choose_of_notice (k := k.afterSending) rfl hr hn hc⟩

/-! ### What goes out (R161, R162, R182) -/

/-- A byte on TXD: a low start bit, its bits from the least significant one, a high stop bit (R161). -/
theorem character_eq (b : Byte) : character b =
    [.low, Level.ofBool (b.getLsbD 0), Level.ofBool (b.getLsbD 1), Level.ofBool (b.getLsbD 2), Level.ofBool (b.getLsbD 3),
      Level.ofBool (b.getLsbD 4), Level.ofBool (b.getLsbD 5), Level.ofBool (b.getLsbD 6), Level.ofBool (b.getLsbD 7), .high] := rfl

section
variable {k : Lnk}

/-- A REPLY in transmission is its frame (R162, R182). -/
theorem Lnk.sending_answer {q c : Byte} {st : Status} {again : Bool} {d : List Byte} {x : Bool} {rest : List Reply}
    (ht : k.tx = .reply) (hr : k.replies = .answer q c st again d x :: rest) :
    k.sending = some (frameBytes 0x81 q (c :: BitVec.ofNat 8 st.code :: (if again then 1 else 0) :: d)) := by
  simp only [Lnk.sending, ht, hr]
  rfl

/-- A LINK-RESET-REPLY in transmission is a frame without payload (R175). -/
theorem Lnk.sending_linkReset {q : Byte} {rest : List Reply} (ht : k.tx = .reply) (hr : k.replies = .linkReset q :: rest) :
    k.sending = some (frameBytes 0x84 q []) := by
  simp only [Lnk.sending, ht, hr]

/-- A NOTICE in transmission is the frame of its code and body (R162, R173). -/
theorem Lnk.sending_notice {q : Byte} {n : Notice} (ht : k.tx = .notice q n) :
    k.sending = some (frameBytes 0x82 q (BitVec.ofNat 8 n.code :: n.body)) := by
  simp only [Lnk.sending, ht]
  rfl

theorem Lnk.sending_idle (ht : k.tx = .idle) : k.sending = none := by simp only [Lnk.sending, ht]

/-- The bytes of a frame go out as one run of bits (R161). -/
theorem Lnk.txd_of_sending {bs : List Byte} (h : k.sending = some bs) : k.txd = (bs.map character).flatten := by
  rw [Lnk.txd, h]
  rfl

theorem Lnk.txd_of_idle (h : k.sending = none) : k.txd = [] := by
  rw [Lnk.txd, h]
  rfl

end

/-- Settles O34: the choice of a transmitter whose frame has left, the frame it sends, its bits, and each notice's code and body. -/
theorem transmitterChooses : Obligations.TransmitterChooses := by
  refine ⟨fun s hp hf hm hr => ?_, fun k => ?_, rfl, character_eq, fun _ _ _ _ => ⟨rfl, rfl⟩, fun _ => ⟨rfl, rfl⟩,
    fun _ _ _ _ => ⟨rfl, rfl⟩, fun _ _ _ _ _ => ⟨rfl, rfl⟩, fun _ _ _ _ => ⟨rfl, rfl⟩, fun _ _ => ⟨rfl, rfl⟩,
    fun _ => ⟨rfl, rfl⟩, fun _ _ _ => ⟨rfl, rfl⟩, fun _ _ _ _ => ⟨rfl, rfl⟩, fun _ _ => ⟨rfl, rfl⟩, fun _ _ _ _ => ⟨rfl, rfl⟩,
    fun _ => ⟨rfl, rfl⟩, fun _ _ _ _ _ => ⟨rfl, rfl⟩⟩
  · have hexec : ∀ take, exec (.transmitDone take) s = .next (takeHeads take (s.setLnk s.lnk.afterSending.choose)) := fun take => by
      rw [exec_transmitDone hp, transmitted_eq hf hm hr]
    obtain ⟨hreply, hnothing, hnotice⟩ := s.lnk.afterSending_choose
    refine ⟨fun hl => ?_, fun hl hn => ?_, fun q n more hl hn hc => ?_, fun take t ht => ?_⟩
    · rw [hexec, hreply hl]; rfl
    · rw [hexec, hnothing hl hn]; rfl
    · rw [hexec, hnotice q n more hl hn hc]; rfl
    · rw [hexec] at ht
      cases ht
      exact hexec take
  · exact ⟨fun _ _ _ _ _ _ _ ht hr => Lnk.sending_answer ht hr, fun _ _ ht hr => Lnk.sending_linkReset ht hr,
      fun _ _ ht => Lnk.sending_notice ht, Lnk.sending_idle, fun _ => Lnk.txd_of_sending, Lnk.txd_of_idle, rfl⟩

end Sys2Proof.Machine

/-! ## Steps -/

namespace Sys2Proof.Machine

/-- Settles O1: a queue with a command in front selects the second case of `step`, which runs that command. -/
theorem stepRunsFrontCommand : Obligations.StepRunsFrontCommand := by
  intro c rest s hqueue
  unfold step
  rw [hqueue]

end Sys2Proof.Machine
